-- ==== Sys2Proof/Word.lean ====
section
/-! DEFINITION. Word: the fixed-width words the device counts, addresses and labels with (00_scope.md 3.2, 3.5). -/

namespace Sys2Proof

/-- A byte on the station link or a sensor port (R158, R23). -/
abbrev Byte := BitVec 8

/-- A 16-bit count or rate: every counter (R185), the lost accumulators (R169), the link rate M (R171). -/
abbrev Count16 := BitVec 16

/-- An unsigned 32-bit running number: second number, mark count, tick count, generation.
The number after 4,294,967,295 is 0 (00_scope.md 3.2, R140). -/
abbrev Num32 := BitVec 32

end Sys2Proof
end

