-- ==== Sys2Proof/Syntax.lean ====
section
/-! DEFINITION. Syntax: the commands of the block, one constructor per row of spec/opcode_table.json, in the table's order.

A command is one whole, indivisible event (95_what_each_step_holds.md).
`elapsed` is the number of 10 MHz periods that pass between the command before and this one, for the events
whose moment the outside world decides or the spec bounds without fixing; an event that the timebase itself
schedules (a mark, a tick, the end of a pulse, a timeout) carries none, since its moment follows from the state.
A request row is the request handler's take of the oldest queued request of that code (R163): its tag and its
parameters are those the request queue holds, so it carries no operand.
A byte row carries the byte received. -/

namespace Sys2Proof

/-- The two sensor ports (02_sensor_ports.md). -/
inductive Port where
  | a
  | b
  deriving DecidableEq, Repr

/-- The direction of an edge on the MARKER_IN line (R196). -/
inductive Edge where
  | rising
  | falling
  deriving DecidableEq, Repr

/-- The commands and events of the device, in the order of spec/opcode_table.json. -/
inductive Instr where
  | powerOn
  | startUpComplete (elapsed : Nat)
  | mark
  | tick
  | strobeEnd
  | missingMarkCheck
  | ppsEdge (elapsed : Nat)
  | sampleFrameArrival (port : Port) (byte : Byte) (elapsed : Nat)
  | frameAbandon (port : Port)
  | entryTake
  | tickClose (elapsed : Nat)
  | upstreamFrameArrival (byte : Byte) (elapsed : Nat)
  | upstreamLenReject (byte : Byte) (elapsed : Nat)
  | upstreamFramingError (elapsed : Nat)
  | upstreamGapAbandon
  | requestUnknownCode
  | ident
  | status
  | outputSet
  | linkRate
  | timeLabel
  | timebaseSet
  | portReset
  | portEnable
  | portSet
  | channelSet
  | channelGet
  | triadSet
  | triadGet
  | filterShape
  | filterTaps
  | filterGet
  | discard
  | commit
  | storeWrite
  | storeRead
  | storePoison
  | conditionsClear
  | countersRead
  | countersClear
  | faultRead
  | faultRelease
  | alertMaskSet
  | captureMaskSet
  | lineSet
  | markerSet
  | save
  | restart
  | lockSession
  | fixPermanent
  | saveEnd (verified : Bool) (elapsed : Nat)
  | frameStart
  | frameSent (elapsed : Nat)
  | holdInChange (asserted : Bool) (elapsed : Nat)
  | linkTrialExpiry
  | markerEdge (edge : Edge) (elapsed : Nat)
  | secondMarkEnd
  | code2IntervalEnd
  | sampleFrameByte (port : Port) (byte : Byte) (elapsed : Nat)
  | upstreamFrameByte (byte : Byte) (elapsed : Nat)
  | powerLoss
  deriving DecidableEq, Repr

end Sys2Proof
end

