-- ==== Sys2Proof/Decode.lean ====
section
/-! DEFINITION. Decode: the commands spelled by words. No row of spec/opcode_table.json gives bits (its "fields" are empty
and spec/98_reader.md counts no row with "fixed"), so no word spells a command (log 3). The bytes that carry requests and
samples are decoded by Machine/Operands.lean and Machine/Ports.lean. -/

namespace Sys2Proof

/-- The command a word spells by the table's bits: none, since no row gives bits. -/
def decodeTableWord (_nbits _w : Nat) : Option Instr := none

end Sys2Proof
end

