-- ==== Sys2Proof/Machine/Tables.lean ====
section
/-! DEFINITION. Machine/Tables: the plain data the blocks own: descriptors, filters, store entries, settings, FIFO entries,
slots, histories, records, notices, frames. Each type cites the rule of spec/ that lists its fields.
An optional field of the spec is an `Option`; a number whose stated range is signed and exact is an `Int`; a running number
that wraps is a `Num32`; a set the wire carries as a mask is a bit vector in the bit order of R181. -/

namespace Sys2Proof.Machine

/-! ### Arithmetic modes and vectors (00_scope.md 3.3) -/

/-- The two modes of a division with rounding (00_scope.md 3.3). -/
inductive Rounding where
  | round
  | truncate
  deriving DecidableEq, Repr

/-- Three components, of a vector in pT or of a matrix row in units of 2^-22. -/
structure Vec3 where
  x : Int
  y : Int
  z : Int
  deriving DecidableEq, Repr

/-! ### Sets carried as masks (R181) -/

/-- The data flags of samples and values, bit 0 SPIKE to bit 14 TIME_STEP (R181). -/
abbrev DataFlags := BitVec 15

/-- The record flags, bit 0 TIME_STEP, bit 1 RELABEL, bit 2 COMMIT_APPLIED (R181). -/
abbrev RecordFlags := BitVec 3

/-- The condition set and the alert mask, bit 0 LINK_CHECK to bit 13 LINK_REVERTED (R181). -/
abbrev ConditionSet := BitVec 14

/-- The output set, bit 0 SECOND, bit 1 MINUTE, bit 2 EVENT (R181). -/
abbrev OutputSet := BitVec 3

/-- The capture mask, bit 0 STORE_ERROR to bit 4 RESEED (R181). -/
abbrev CaptureMask := BitVec 5

/-- The fifteen data flags, in the bit order of R181. -/
inductive DataFlag where
  | spike
  | step
  | reseed
  | tableClamp
  | tempStale
  | tempAbsent
  | storeError
  | saturated
  | overrange
  | digitizer
  | axisGap
  | gap
  | partialValue
  | commitStraddle
  | timeStep
  deriving DecidableEq, Repr

/-- The fourteen conditions, in the bit order of R181. -/
inductive Condition where
  | linkCheck
  | requestOverrun
  | portAHalted
  | portBHalted
  | portAOverflow
  | portBOverflow
  | timeStepped
  | holdover
  | holdoverLong
  | faultCaptured
  | recordLoss
  | storeInvalid
  | saveFailed
  | linkReverted
  deriving DecidableEq, Repr

/-- The five fault classes, in the bit order of R181. -/
inductive FaultClass where
  | storeError
  | tableClamp
  | saturation
  | frameCheck
  | reseed
  deriving DecidableEq, Repr

/-! ### Configuration (R57, R60, R95, R141, R139) -/

/-- The kind of a channel (R58). -/
inductive Kind where
  | axis
  | scalar
  | temperature
  deriving DecidableEq, Repr

/-- The direction of a segment (R60). -/
inductive Direction where
  | ascending
  | descending
  deriving DecidableEq, Repr

/-- A segment record (R60). -/
structure Segment where
  base : Nat
  length : Nat
  start : Int
  step : Nat
  direction : Direction
  deriving DecidableEq, Repr

/-- A channel descriptor (R57). -/
structure ChannelDescriptor where
  enabled : Bool
  kind : Kind
  port : Port
  source : BitVec 4
  scale : Int
  offset : Int
  mode : Rounding
  tempSource : Option (Fin 16)
  segment : Option Segment
  staleness : Option Nat
  deriving DecidableEq, Repr

/-- The three axis channels x, y, z of a triad (R95). -/
structure Axes where
  x : Fin 16
  y : Fin 16
  z : Fin 16
  deriving DecidableEq, Repr

/-- A triad descriptor (R95). `rowX`, `rowY`, `rowZ` are the matrix rows m_0k, m_1k, m_2k; their components are the columns k = 0, 1, 2. -/
structure TriadDescriptor where
  enabled : Bool
  axes : Axes
  rowX : Vec3
  rowY : Vec3
  rowZ : Vec3
  offset : Vec3
  limit : Nat
  mode : Rounding
  deriving DecidableEq, Repr

/-- A filter: its length W, its minimum fraction q and its 127 weight places (R141). -/
structure Filter where
  length : Nat
  fraction : Nat
  places : Vector Count16 127
  deriving DecidableEq, Repr

/-- The two filters of a configuration (R139). -/
inductive FilterName where
  | second
  | minute
  deriving DecidableEq, Repr

/-- The two copies of the configuration (R139). -/
inductive Copy where
  | active
  | pending
  deriving DecidableEq, Repr

/-- A configuration: channel table, triad table, second filter, minute filter (R139). -/
structure Configuration where
  channels : Vector ChannelDescriptor 16
  triads : Vector TriadDescriptor 2
  second : Filter
  minute : Filter
  deriving DecidableEq, Repr

/-! ### Coefficient store (R63) -/

/-- The check state of a store entry, and the check flag of a FIFO entry (R63, R26). -/
inductive CheckState where
  | good
  | bad
  deriving DecidableEq, Repr

/-- A coefficient store entry (R63). -/
structure StoreEntry where
  offset : Int
  gain : Int
  check : CheckState
  deriving DecidableEq, Repr

/-- The coefficient store: the entries that differ from the entry an unlisted address reads as, by rising address. -/
abbrev Store := List (Nat × StoreEntry)

/-! ### Sensor ports (R23 to R39) -/

/-- The error policy of a port (R35). -/
inductive Policy where
  | skip
  | stop
  deriving DecidableEq, Repr

/-- The port state (R25), numbered as R181 numbers it. -/
inductive PortMode where
  | disabled
  | active
  | halted
  deriving DecidableEq, Repr

/-- The working settings of a port (R34, R35). -/
structure PortSettings where
  enabled : Bool
  threshold : Nat
  policy : Policy
  deriving DecidableEq, Repr

/-- The receiver framing state of a port: HUNT, or COLLECT with the body bytes taken so far (R23). -/
inductive PortFraming where
  | hunt
  | collect (body : List Byte)
  deriving DecidableEq, Repr

/-- The decoded fields of one sample frame with its check flag: a FIFO entry (R26). -/
structure FifoEntry where
  source : BitVec 4
  overrange : Bool
  digitizer : Bool
  sequence : Byte
  value : Int
  check : CheckState
  deriving DecidableEq, Repr

/-- The held error of a halted port (R28). -/
structure HeldError where
  source : BitVec 4
  sequence : Byte
  overrange : Bool
  digitizer : Bool
  second : Num32
  tickIndex : Nat
  deriving DecidableEq, Repr

/-- A sensor port (02_sensor_ports.md). `lastByteAt` is the clock at the last byte taken, for the gap of R23. -/
structure SensorPort where
  framing : PortFraming
  lastByteAt : Nat
  fifo : List FifoEntry
  mode : PortMode
  settings : PortSettings
  paceLatch : Bool
  heldError : Option HeldError
  deriving DecidableEq, Repr

/-! ### Assembler (R41 to R56) -/

/-- One slot of a slot table (R41). -/
inductive Slot where
  | empty
  | filled (value : Int) (port : Port) (source : BitVec 4)
  | missing (overrange digitizer : Bool) (port : Port) (source : BitVec 4)
  deriving DecidableEq, Repr

/-- What the timebase issues a tick with: its count, its index and the number of the second in progress (R4, R41). -/
structure TickId where
  count : Num32
  index : Nat
  second : Num32
  deriving DecidableEq, Repr

/-- An open tick, or a closed tick in the close queue (R41, R43). -/
structure OpenTick where
  id : TickId
  slots : Vector Slot 16
  deriving DecidableEq, Repr

/-- What a close fixes when it begins: its configuration in force with its generation (R50, R117), its mark count (R76),
for each triad whether a pending clear was waiting when it began (R111), and the clock at its beginning (R43). -/
structure CloseContext where
  config : Configuration
  generation : Num32
  markCount : Num32
  clears : Vector Bool 2
  beganAt : Nat
  deriving DecidableEq, Repr

/-- The assembler (03_sample_assembly.md). `issued` lists the most recent ticks issued, at most four, oldest first (R56). -/
structure Assembler where
  openSet : List OpenTick
  closeQueue : List OpenTick
  closing : Option CloseContext
  lastServed : Port
  issued : List TickId
  deriving DecidableEq, Repr

/-! ### Channel corrector (R76 to R94) -/

/-- A corrected sample (R76). -/
structure CorrectedSample where
  value : Option Int
  flags : DataFlags
  deriving DecidableEq, Repr

/-- A held temperature record with the descriptor in force at the close that stamped it (R79, R80). -/
structure HeldTemperature where
  value : Int
  stamp : Num32
  descriptor : ChannelDescriptor
  deriving DecidableEq, Repr

/-- A last good correction record (R90). -/
structure LastGood where
  offset : Int
  gain : Int
  segment : Segment
  source : Fin 16
  deriving DecidableEq, Repr

/-- The channel corrector (05_scaling_and_temperature_correction.md). -/
structure Corrector where
  held : Vector (Option HeldTemperature) 16
  lastGood : Vector (Option LastGood) 16
  deriving DecidableEq, Repr

/-! ### Triad combiner (R95 to R115) -/

/-- A triad's outcome for one tick: an accepted or formed vector with its flags, or a gap (no vector) with its flags (R97, R109). -/
structure TickOutcome where
  vector : Option Vec3
  flags : DataFlags
  deriving DecidableEq, Repr

/-- A held suspect: a vector with its flags and its tick (R101). -/
structure Suspect where
  vector : Vec3
  flags : DataFlags
  tick : TickId
  deriving DecidableEq, Repr

/-- A decision on one tick, handed to the decimator (R109). -/
structure Decision where
  tick : TickId
  outcome : TickOutcome
  deriving DecidableEq, Repr

/-- A triad's spike screen (R101). Its state is SUSPECT exactly when `suspect` is present, and CLEAR otherwise. -/
structure Screen where
  reference : Option Vec3
  suspect : Option Suspect
  run : Nat
  binding : Option Axes
  pendingClear : Bool
  deriving DecidableEq, Repr

/-! ### Timebase (R1 to R22) -/

/-- The discipline state (R10 to R13), numbered as R181 numbers it. -/
inductive Discipline where
  | freeRun
  | acquire
  | locked
  | holdover
  deriving DecidableEq, Repr

/-- The time quality of a mark (R2). -/
inductive Quality where
  | freeRun
  | acquire
  | locked
  | holdover
  | holdoverLong
  deriving DecidableEq, Repr

/-- A relabel that waits for the mark it names (R17), with the phase error of the edge that consumed the label. -/
structure MarkLabel where
  number : Num32
  error : Int
  deriving DecidableEq, Repr

/-- The timebase (01_timebase_and_sample_strobe.md).
`clock` counts periods since power-on and gives every position that outlives a second; `period` is the spec's period counter.
`attributed` and `nextAttributed` hold whether a taken edge is attributed to the mark that began this second and to the coming mark (R7, R8).
`nextIndex` is the index of the next tick of this second, `tick0` the count of its tick index 0, `strobeUntil` the clock at which STROBE is released.
`earlyEdge` is the clock at the last edge on PPS or on an auxiliary line before the first mark: a first mark in that very period would
have come before it (R7, R196; log 24). -/
structure Timebase where
  clock : Nat
  period : Nat
  length : Nat
  trim : Int
  correction : Int
  second : Num32
  markCount : Num32
  tickCount : Num32
  quality : Quality
  rate : Nat
  depth : Nat
  rateSet : Nat
  depthSet : Nat
  holdoverLimit : Nat
  discipline : Discipline
  goodCount : Nat
  outlierCount : Nat
  missingCount : Nat
  holdoverAge : Nat
  holdoverLong : Bool
  lastEdge : Option Nat
  earlyEdge : Option Nat
  label : Option Num32
  markLabel : Option MarkLabel
  attributed : Bool
  nextAttributed : Bool
  halfChecked : Bool
  nextIndex : Nat
  tick0 : Num32
  strobeUntil : Option Nat
  deriving DecidableEq, Repr

/-! ### Decimator (R116 to R138) -/

/-- The tick-0 samples of a second, with the generation of the close that delivered them (R118, R125).
`scalar` is absent when no SCALAR channel was enabled. -/
structure Tick0Samples where
  generation : Num32
  scalar : Option (Fin 16 × CorrectedSample)
  temperatures : List (Fin 16 × CorrectedSample)
  deriving DecidableEq, Repr

/-- An entry of the pending second list (R116). -/
structure PendingSecond where
  second : Num32
  t0 : Num32
  quality : Quality
  flags : RecordFlags
  oldSeries : Bool
  samples : Option Tick0Samples
  deriving DecidableEq, Repr

/-- A tick history entry (R117). -/
structure TickEntry where
  count : Num32
  outcome : TickOutcome
  generation : Num32
  deriving DecidableEq, Repr

/-- A triad second or minute value (R121, R122, R129). -/
structure TriadValue where
  vector : Option Vec3
  flags : DataFlags
  used : Nat
  generation : Option Num32
  deriving DecidableEq, Repr

/-- An entry of a triad's second history (R124). -/
structure SecondEntry where
  second : Num32
  value : TriadValue
  deriving DecidableEq, Repr

/-- An F item: a value, present or absent, with its flags (R125, R134). -/
structure ScalarValue where
  value : Option Int
  flags : DataFlags
  deriving DecidableEq, Repr

/-- An entry of the F history (R125). -/
structure ScalarEntry where
  second : Num32
  value : ScalarValue
  generation : Option Num32
  deriving DecidableEq, Repr

/-- An entry of a temperature history (R127). -/
structure TempEntry where
  second : Num32
  value : Option Int
  deriving DecidableEq, Repr

/-- A minute capture of a temperature channel (R130). -/
structure MinuteCapture where
  minute : Nat
  sum : Int
  count : Nat
  deriving DecidableEq, Repr

/-- The decimator (07_second_and_minute_values.md). `scalarChannel` is the channel whose values the F history holds (R133). -/
structure Decimator where
  pendingSeconds : List PendingSecond
  tickHistory : Vector (List TickEntry) 2
  secondHistory : Vector (List SecondEntry) 2
  scalarHistory : List ScalarEntry
  scalarChannel : Option (Fin 16)
  tempHistory : Vector (List TempEntry) 16
  captures : Vector (Option MinuteCapture) 16
  nextMinute : Option Nat
  tickStep : Option Num32
  secondStep : Option Num32
  deriving DecidableEq, Repr

/-! ### Faults (R187) -/

/-- The object of a raised fault (R187). -/
inductive FaultObject where
  | channel (n : Fin 16)
  | triad (n : Fin 2)
  | port (p : Port)
  deriving DecidableEq, Repr

/-- The detail of a raised fault (R187 and the table of 10.3). A component is 0 for X, 1 for Y, 2 for Z. -/
inductive FaultDetail where
  | none
  | address (a : Nat)
  | temperature (t : Int)
  | component (c : Fin 3)
  | source (a : BitVec 4)
  deriving DecidableEq, Repr

/-- A raised fault, and the contents of a frozen capture record (R187, R188). -/
structure RaisedFault where
  cls : FaultClass
  object : FaultObject
  second : Num32
  tickIndex : Nat
  detail : FaultDetail
  deriving DecidableEq, Repr

/-! ### Records, notices and frames (R134, R135, R196, 9.12) -/

/-- The reset cause (R207, R210). -/
inductive ResetCause where
  | powerOn
  | commanded
  deriving DecidableEq, Repr

/-- The validity of the persistent image (R200). -/
inductive Validity where
  | valid
  | invalid
  deriving DecidableEq, Repr

/-- The cause of a TIMEBASE notice (R19). -/
inductive TimebaseCause where
  | stateChange
  | step
  | holdoverLong
  | relabel
  deriving DecidableEq, Repr

/-- The cause of a PORT notice (R37). -/
inductive PortCause where
  | halted
  | reset
  deriving DecidableEq, Repr

/-- A triad's entry in a record (9.12). -/
structure TriadEntry where
  triad : Fin 2
  vector : Option Vec3
  used : Nat
  flags : DataFlags
  deriving DecidableEq, Repr

/-- ΔF with its DF_SATURATED flag (R126). -/
structure DeltaF where
  value : Int
  saturated : Bool
  deriving DecidableEq, Repr

/-- A second record (R134). -/
structure SecondRecord where
  second : Num32
  quality : Quality
  flags : RecordFlags
  lost : Option Count16
  triads : List TriadEntry
  scalar : Option ScalarValue
  deltaF : Option DeltaF
  temperatures : List (Fin 16 × Option Int)
  deriving DecidableEq, Repr

/-- A minute record (R135). -/
structure MinuteRecord where
  minute : Nat
  lost : Option Count16
  triads : List TriadEntry
  scalar : Option ScalarValue
  temperatures : List (Fin 16 × Option Int)
  deriving DecidableEq, Repr

/-- An event record (R196). -/
structure EventRecord where
  second : Num32
  offset : Nat
  edge : Edge
  quality : Quality
  deriving DecidableEq, Repr

/-- The notices (9.12; R19, R37, R153, R174, R188, R208, R210). -/
inductive Notice where
  | start (cause : ResetCause) (validity : Validity) (second : Num32)
  | timebase (cause : TimebaseCause) (before after : Discipline) (second : Num32) (trim : Int) (error : Option Int)
  | port (port : Port) (cause : PortCause) (before after : PortMode) (count : Nat) (held : Option HeldError)
  | fault (fault : RaisedFault)
  | commit (generation second : Num32) (channels : List (Fin 16)) (triads : List (Fin 2)) (filters : List FilterName)
  | link (trial restored : Count16)
  deriving DecidableEq, Repr

/-- The results of a response (R164), in the order of the results table. -/
inductive Result where
  | ok
  | busy
  | access
  | range
  | conflict
  | locked
  | unknown
  | badLength
  | saveFailed
  deriving DecidableEq, Repr

/-- A response frame's body: the header of R164 and the data. -/
structure Response where
  tag : Byte
  code : Byte
  result : Result
  follow : Nat
  data : List Byte
  deriving DecidableEq, Repr

/-- The body of a downstream frame (R159, R166). -/
inductive Body where
  | second (r : SecondRecord)
  | minute (r : MinuteRecord)
  | event (r : EventRecord)
  | notice (n : Notice)
  | response (r : Response)
  deriving DecidableEq, Repr

/-- A frame in the output queue. `tied` marks the response to which a waiting rate change is tied (R171). -/
structure Frame where
  body : Body
  tied : Bool
  deriving DecidableEq, Repr

/-! ### Station link (R158 to R180) -/

/-- The upstream receiver's framing state (R160): in COLLECT, LEN and the bytes of KIND, body and CRC taken so far. -/
inductive LinkFraming where
  | hunt
  | length
  | collect (len : Nat) (bytes : List Byte)
  deriving DecidableEq, Repr

/-- An entry of the request queue (R162). -/
structure Request where
  tag : Byte
  code : Byte
  params : List Byte
  deriving DecidableEq, Repr

/-- A frame in collection that lacked its last byte when the expiry of a trial brought the receiver to HUNT: its LEN, the bytes of
KIND, body and CRC taken so far, and the clock at the expiry (R173). -/
structure LateFrame where
  len : Nat
  bytes : List Byte
  at_ : Nat
  deriving DecidableEq, Repr

/-- The rate change state (9.7). -/
inductive RateState where
  | idle
  | waiting
  | trial
  deriving DecidableEq, Repr

/-- The link blocks (09_station_link_and_requests.md). `sending` says that the oldest frame of the output queue is being sent;
`revertPending` that the rate in force returns to the confirmed rate at the end of the frame being sent (R174); `late` is the frame
that the last expiry of a trial found one byte short, which a byte of that very period still completes (R173). -/
structure Link where
  framing : LinkFraming
  late : Option LateFrame
  lastByteAt : Nat
  requests : List Request
  heldSave : Option Response
  output : List Frame
  secondsLost : Count16
  minutesLost : Count16
  sending : Bool
  holdIn : Bool
  rate : Count16
  confirmedRate : Count16
  rateState : RateState
  waitingRate : Option Count16
  trialStart : Nat
  revertPending : Bool
  outputSet : OutputSet
  deriving DecidableEq, Repr

/-! ### Status unit, auxiliary lines and marker input (R182 to R198) -/

/-- The status unit. `code2` is the clock at the first mark while the code-2 interval of R192 lasts. -/
structure StatusUnit where
  conditions : ConditionSet
  alertMask : ConditionSet
  counters : Vector Count16 29
  capture : Option RaisedFault
  faultCounts : Vector Count16 5
  captureMask : CaptureMask
  code2 : Option Nat
  deriving DecidableEq, Repr

/-- The designations of an auxiliary line, in the order of R194. -/
inductive Designation where
  | off
  | levelLow
  | levelHigh
  | secondMark
  | alert
  | clockOut
  | markerIn
  deriving DecidableEq, Repr

/-- The duty of a clock output (R194). -/
inductive Duty where
  | d25
  | d50
  | d75
  deriving DecidableEq, Repr

/-- The working settings of an auxiliary line (R194). -/
structure LineSettings where
  designation : Designation
  k : Nat
  duty : Duty
  deriving DecidableEq, Repr

/-- An auxiliary line: `raised` while a SECOND_MARK line is driven high, `cycleStart` the clock at which a CLOCK_OUT line began its cycle (R193). -/
structure AuxLine where
  settings : LineSettings
  raised : Bool
  cycleStart : Nat
  deriving DecidableEq, Repr

/-- The marker edge selection (R195). -/
inductive EdgeSelection where
  | rising
  | falling
  | both
  deriving DecidableEq, Repr

/-- The auxiliary lines and the marker input. `secondMarkEnd` is the clock at which the SECOND_MARK lines fall (R193). -/
structure Auxiliary where
  lines : Vector AuxLine 4
  selection : EdgeSelection
  lastMarker : Option Nat
  secondMarkEnd : Option Nat
  deriving DecidableEq, Repr

/-! ### Staging and settings store (R139, R199 to R210) -/

/-- The staging state of the request handler, with the restart schedule (08, R209). -/
structure Staging where
  active : Configuration
  pendingConfig : Configuration
  generation : Num32
  commitScheduled : Bool
  restartScheduled : Bool
  deriving DecidableEq, Repr

/-- The items of the working settings and of the persistent image (R199). -/
structure Settings where
  config : Configuration
  store : Store
  rateSet : Nat
  depthSet : Nat
  holdoverLimit : Nat
  trim : Int
  portA : PortSettings
  portB : PortSettings
  lines : Vector LineSettings 4
  selection : EdgeSelection
  linkRate : Count16
  outputSet : OutputSet
  alertMask : ConditionSet
  captureMask : CaptureMask
  deriving DecidableEq, Repr

/-- The persistent image: its contents, its stored CRC-32 and its validity (R200). `contents` is absent while the store holds no
whole image: on a new device, while a save rewrites it, and after a save whose verify failed (log 8). -/
structure Image where
  contents : Option Settings
  crc : BitVec 32
  validity : Validity
  deriving DecidableEq, Repr

/-- The identity area (R201). -/
structure Identity where
  station : Vector Byte 4
  serial : Num32
  revision : Byte
  fixed : Bool
  deriving DecidableEq, Repr

/-- The protection level (R201). -/
inductive Protection where
  | opened
  | sessionLocked
  | fixed
  deriving DecidableEq, Repr

/-- A running save: the snapshot being written, the tag of its SAVE, and the clock at its start (R204, R205). -/
structure RunningSave where
  snapshot : Settings
  tag : Byte
  startedAt : Nat
  deriving DecidableEq, Repr

/-- The settings store (11_settings_store_and_start_up.md). The save state is RUNNING exactly when `save` is present. -/
structure SettingsStore where
  image : Image
  identity : Identity
  level : Protection
  unsaved : Bool
  changeNote : Bool
  save : Option RunningSave
  resetCause : ResetCause
  deriving DecidableEq, Repr

end Sys2Proof.Machine
end

