-- ==== Sys2Proof/Config.lean ====
section
/-! DEFINITION. Config: the numbers the spec fixes for every device, and the one constant it leaves open. -/

namespace Sys2Proof.Config

open Sys2Proof.Machine

/-! ### Timebase (01_timebase_and_sample_strobe.md) -/

/-- The nominal length of a second, in periods (R1). -/
def nominalSecond : Nat := 10000000

/-- The bound of the trim D (R1, R9). -/
def trimLimit : Int := 2000

/-- The bound of the phase correction c (R1, R9). -/
def correctionLimit : Int := 50

/-- The longest second a mark can begin: 10,000,000 + 2,000 + 50 periods (R1). -/
def longestSecond : Nat := 10002050

/-- The length of a strobe pulse, and of a long one (R5). -/
def strobePulse : Nat := 100
def longStrobePulse : Nat := 400

/-- The least distance of a taken PPS edge from the last one (R6). -/
def edgeSpacing : Nat := 9000000

/-- The step limit and the good limit of the discipline (1.4). -/
def stepLimit : Nat := 500
def goodLimit : Nat := 10

/-- The counts that change the discipline state: good edges, outliers, missing marks (1.4). -/
def goodToLock : Nat := 8
def outliersToDrop : Nat := 4
def missingToLose : Nat := 3

/-- Where the holdover age stops (R14). -/
def ageLimit : Nat := 86400

/-! ### Ports, assembler, decimator, link -/

/-- The sync byte of a sample frame, and the number of its body bytes (R23, 9.12). -/
def portSync : Byte := 0xC3#8
def portBodyBytes : Nat := 6

/-- The receive FIFO holds at most 32 entries (R26). -/
def fifoPlaces : Nat := 32

/-- The gap that abandons a sample frame in collection (R23). -/
def portGap : Nat := 20000

/-- A close takes at most 50,000 periods (R43). -/
def closeLimit : Nat := 50000

/-- The lengths of the histories (R117, R124, R127). -/
def tickHistoryLength : Nat := 64
def secondHistoryLength : Nat := 128
def tempHistoryLength : Nat := 60

/-- The number of the last minute before the wrap (R128). -/
def lastMinute : Nat := 71582788

/-- The sync byte of a station link frame, and the greatest LEN (R159, R160). -/
def linkSync : Byte := 0xA5#8
def maxLen : Nat := 250

/-- The request queue holds at most 4 requests (R162). -/
def requestPlaces : Nat := 4

/-- The output queue has 64 places, 60 of them open to data records (R166). -/
def outputPlaces : Nat := 64
def dataPlaces : Nat := 60

/-- A response frame carries at most 246 data bytes (R164). -/
def responseData : Nat := 246

/-- A rate trial lasts 100,000,000 periods (R173). -/
def trialPeriods : Nat := 100000000

/-- The gap that abandons an upstream frame, in bit times (R160). -/
def linkGapBits : Nat := 200

/-! ### Status, lines, settings store -/

/-- The code-2 interval (R192), the second-mark pulse and the marker spacing (R193, R196), in periods. -/
def code2Periods : Nat := 100000000
def secondMarkPeriods : Nat := 1000000
def markerSpacing : Nat := 100000

/-- The family code and the part number that IDENT returns (R177). -/
def familyCode : Nat := 1
def partNumber : Nat := 416

/-- A save ends within 15,000,000 periods (R204). -/
def saveLimit : Nat := 15000000

/-- The number of coefficient store entries (R63). -/
def storeEntries : Nat := 2048

/-- The bytes of the persistent image over which its CRC-32 is taken.
The spec gives the CRC (R200) and the items (R199) and not their serial form: an open constant, never evaluated (log 8). -/
opaque imageBytes : Settings → List Byte

end Sys2Proof.Config
end

