-- ==== Sys2Proof/Machine/Defaults.lean ====
section
/-! DEFINITION. Machine/Defaults: the default settings (R207) and every block's values at power-on. -/

namespace Sys2Proof.Machine

/-! ### Defaults (R74, R114, R156, R207) -/

/-- The default descriptor of channel n (R74). -/
def ChannelDescriptor.default (n : Fin 16) : ChannelDescriptor where
  enabled := false
  kind := .axis
  port := .a
  source := BitVec.ofNat 4 n.val
  scale := 65536
  offset := 0
  mode := .round
  tempSource := none
  segment := none
  staleness := none

/-- The default descriptor of a triad with the axis channels given (R114). -/
def TriadDescriptor.default (axes : Axes) : TriadDescriptor where
  enabled := false
  axes := axes
  rowX := ⟨4194304, 0, 0⟩
  rowY := ⟨0, 4194304, 0⟩
  rowZ := ⟨0, 0, 4194304⟩
  offset := ⟨0, 0, 0⟩
  limit := 0
  mode := .round

/-- The default second filter: W = 1, weight 1, q = 1,024, every other place 0 (R156). -/
def Filter.defaultSecond : Filter where
  length := 1
  fraction := 1024
  places := Vector.ofFn fun i => if i.val < 1 then 1 else 0

/-- The default minute filter: W = 61, weight 1 at places 0 to 60, q = 922, every other place 0 (R156). -/
def Filter.defaultMinute : Filter where
  length := 61
  fraction := 922
  places := Vector.ofFn fun i => if i.val < 61 then 1 else 0

/-- The default configuration (R156). -/
def Configuration.default : Configuration where
  channels := Vector.ofFn ChannelDescriptor.default
  triads := #v[TriadDescriptor.default ⟨0, 1, 2⟩, TriadDescriptor.default ⟨3, 4, 5⟩]
  second := Filter.defaultSecond
  minute := Filter.defaultMinute

/-- The default settings of a port: flag on, threshold 16, SKIP (R39, R207). -/
def PortSettings.default : PortSettings := ⟨true, 16, .skip⟩

/-- The defaults of R207. -/
def Settings.default : Settings where
  config := Configuration.default
  store := []
  rateSet := 10
  depthSet := 2
  holdoverLimit := 3600
  trim := 0
  portA := PortSettings.default
  portB := PortSettings.default
  lines := #v[⟨.secondMark, 0, .d50⟩, ⟨.alert, 0, .d50⟩, ⟨.off, 0, .d50⟩, ⟨.markerIn, 0, .d50⟩]
  selection := .rising
  linkRate := 12080
  outputSet := 7
  alertMask := 0x3FFF
  captureMask := 0x1F

/-! ### Power-on values of the blocks (R21, R39, R55, R93, R114, R137, R179, R197, R207) -/

/-- The timebase at power-on (R21). The tick count stands one before 0, so that the first tick is tick 0 (R4; log 18). -/
def Timebase.powerOn (st : Settings) : Timebase where
  clock := 0
  period := 0
  length := Config.nominalSecond
  trim := st.trim
  correction := 0
  second := 0
  markCount := 0
  tickCount := 0xFFFFFFFF
  quality := .freeRun
  rate := st.rateSet
  depth := st.depthSet
  rateSet := st.rateSet
  depthSet := st.depthSet
  holdoverLimit := st.holdoverLimit
  discipline := .freeRun
  goodCount := 0
  outlierCount := 0
  missingCount := 0
  holdoverAge := 0
  holdoverLong := false
  lastEdge := none
  earlyEdge := none
  label := none
  markLabel := none
  attributed := false
  nextAttributed := false
  halfChecked := false
  nextIndex := 0
  tick0 := 0
  strobeUntil := none

/-- A sensor port at power-on (R39). -/
def SensorPort.powerOn (st : PortSettings) : SensorPort where
  framing := .hunt
  lastByteAt := 0
  fifo := []
  mode := .disabled
  settings := st
  paceLatch := false
  heldError := none

/-- The assembler at power-on (R55). -/
def Assembler.powerOn : Assembler where
  openSet := []
  closeQueue := []
  closing := none
  lastServed := .b
  issued := []

/-- The channel corrector at power-on and after a command restart: every record absent (R93, R94). -/
def Corrector.cleared : Corrector where
  held := Vector.replicate 16 none
  lastGood := Vector.replicate 16 none

/-- A cleared spike screen with no binding and no pending clear (R114, R115). -/
def Screen.cleared : Screen where
  reference := none
  suspect := none
  run := 0
  binding := none
  pendingClear := false

/-- The decimator at power-on: no pending second, every history empty (R137). -/
def Decimator.cleared : Decimator where
  pendingSeconds := []
  tickHistory := Vector.replicate 2 []
  secondHistory := Vector.replicate 2 []
  scalarHistory := []
  scalarChannel := none
  tempHistory := Vector.replicate 16 []
  captures := Vector.replicate 16 none
  nextMinute := none
  tickStep := none
  secondStep := none

/-- The link blocks at power-on (R179). HOLD_IN is an input: its level is given. The table of R179 gives the trial's start no
value: 0 is the model's choice (log 40). -/
def Link.powerOn (st : Settings) (holdIn : Bool) : Link where
  framing := .hunt
  late := none
  lastByteAt := 0
  requests := []
  heldSave := none
  output := []
  secondsLost := 0
  minutesLost := 0
  sending := false
  holdIn := holdIn
  rate := st.linkRate
  confirmedRate := st.linkRate
  rateState := .idle
  waitingRate := none
  trialStart := 0
  revertPending := false
  outputSet := st.outputSet

/-- The status unit at power-on (R197). -/
def StatusUnit.powerOn (st : Settings) : StatusUnit where
  conditions := 0
  alertMask := st.alertMask
  counters := Vector.replicate 29 0
  capture := none
  faultCounts := Vector.replicate 5 0
  captureMask := st.captureMask
  code2 := none

/-- The auxiliary lines and the marker input at power-on (R197): SECOND_MARK lines low, clocks running from the load. That a
clock begins a cycle there, high part first, is the model's choice (log 42). -/
def Auxiliary.powerOn (st : Settings) : Auxiliary where
  lines := Vector.ofFn fun i => ⟨st.lines[i], false, 0⟩
  selection := st.selection
  lastMarker := none
  secondMarkEnd := none

/-- The staging state at power-on: pending equal to active, generation 0, IDLE, no restart (R156, R207). -/
def Staging.powerOn (st : Settings) : Staging where
  active := st.config
  pendingConfig := st.config
  generation := 0
  commitScheduled := false
  restartScheduled := false

/-- The settings store of a new device before its first load: no whole image, INVALID, identity "0000", serial number 0, revision 1,
FIXED clear. DESIGN CHOICE (log 6): the spec gives no values of a new device. -/
def SettingsStore.newDevice : SettingsStore where
  image := ⟨none, 0, .invalid⟩
  identity := ⟨Vector.replicate 4 0x30, 0, 1, false⟩
  level := .opened
  unsaved := false
  changeNote := false
  save := none
  resetCause := .powerOn

end Sys2Proof.Machine
end

