-- ==== Sys2Proof/Machine/State.lean ====
section
/-! DEFINITION. Machine/State: the whole state of the device, one field per block of 00_scope.md 2.1, the reasons a step could
stop, and the state right after reset. -/

namespace Sys2Proof.Machine

/-- How far the device has started (R192, R206 to R208): unpowered; powered, before the settings load; loaded, before the
first mark; making marks. -/
inductive Phase where
  | off
  | powered
  | loaded
  | running
  deriving DecidableEq, Repr

/-- The device. `pending` is the model's queue of commands that wait, first in, first out (log 1). -/
structure State where
  phase : Phase
  tb : Timebase
  portA : SensorPort
  portB : SensorPort
  asm : Assembler
  store : Store
  corr : Corrector
  screens : Vector Screen 2
  dec : Decimator
  link : Link
  status : StatusUnit
  aux : Auxiliary
  staging : Staging
  settings : SettingsStore
  pending : List Instr
  deriving DecidableEq, Repr

/-- Reasons to stop with a fault. The spec stops the device nowhere: an error sets a condition, counts, or raises a fault
class, and the machine goes on (R182, R185, R187). So no reason exists, and no step faults. -/
inductive Fault where
  deriving DecidableEq, Repr

/-- Reasons to refuse a command. -/
inductive Refusal where
  /-- Raised by `exec` for a command that has no meaning yet, by the mnemonic of its table row. Safe. -/
  | notModelled (mnemonic : String)
  deriving DecidableEq, Repr

/-- The device with the settings given in force, every block at its power-on values. -/
def State.fresh (phase : Phase) (st : Settings) (settings : SettingsStore) (holdIn : Bool) (pending : List Instr) : State where
  phase := phase
  tb := Timebase.powerOn st
  portA := SensorPort.powerOn st.portA
  portB := SensorPort.powerOn st.portB
  asm := Assembler.powerOn
  store := st.store
  corr := Corrector.cleared
  screens := Vector.replicate 2 Screen.cleared
  dec := Decimator.cleared
  link := Link.powerOn st holdIn
  status := StatusUnit.powerOn st
  aux := Auxiliary.powerOn st
  staging := Staging.powerOn st
  settings := settings
  pending := pending

/-- The device right after reset: power applied, the settings load not begun (R207 item 1), the queue empty (log 6). -/
def State.reset : State :=
  State.fresh .powered Settings.default SettingsStore.newDevice false []

end Sys2Proof.Machine
end

