-- ==== Sys2Proof/Machine/Ops.lean ====
section
/-! DEFINITION. Machine/Ops: the operations every block shares: arithmetic, bytes and CRCs, block updates, the passing of
time, conditions, counters, faults, the output queue, the coefficient store, the settings. -/

namespace Sys2Proof.Machine

/-! ### Arithmetic (00_scope.md 3.3) -/

/-- N divided by d with the mode named: ROUND is half away from zero, TRUNCATE toward zero (00_scope.md 3.3). -/
def divRound (mode : Rounding) (n : Int) (d : Nat) : Int :=
  let magnitude : Nat :=
    match mode with
    | .round => (2 * n.natAbs + d) / (2 * d)
    | .truncate => n.natAbs / d
  if n < 0 then -(magnitude : Int) else magnitude

/-- A value held to lo .. hi, without a flag (00_scope.md 3.3, Clamp). -/
def clampInt (lo hi v : Int) : Int :=
  if v < lo then lo else if hi < v then hi else v

/-- A value outside lo .. hi (00_scope.md 3.3, Saturate: the flag is set exactly then). -/
def outside (lo hi v : Int) : Bool := decide (v < lo) || decide (hi < v)

/-- The distance between two vectors: the largest absolute difference of their components (00_scope.md 3.3). -/
def Vec3.distance (a b : Vec3) : Nat :=
  max (max (a.x - b.x).natAbs (a.y - b.y).natAbs) (a.z - b.z).natAbs

/-- Running number a precedes b: b − a, modulo 2^32, lies from 1 to 2,147,483,648 (07, opening). -/
def precedes (a b : Num32) : Bool :=
  let back := (b - a).toNat
  decide (1 ≤ back) && decide (back ≤ 2147483648)

/-- A 16-bit count advanced by n, stopping at 65,535 (R185, R169). -/
def satAdd (c : Count16) (n : Nat) : Count16 :=
  BitVec.ofNat 16 (min 65535 (c.toNat + n))

/-- The sixteen channel numbers, ascending. -/
def allChannels : List (Fin 16) := [0, 1, 2, 3, 4, 5, 6, 7, 8, 9, 10, 11, 12, 13, 14, 15]

/-- The two triad numbers, ascending. -/
def allTriads : List (Fin 2) := [0, 1]

/-- The four auxiliary line numbers, ascending. -/
def allLines : List (Fin 4) := [0, 1, 2, 3]

/-! ### Bytes and CRCs (R181) -/

/-- A number in n bytes, most significant byte first (R181). -/
def natBytes : Nat → Nat → List Byte
  | 0, _ => []
  | n + 1, v => BitVec.ofNat 8 (v / 256 ^ n) :: natBytes n v

/-- A signed number in n bytes, two's complement, most significant byte first (R181). -/
def intBytes (n : Nat) (v : Int) : List Byte := natBytes n (v % (256 ^ n : Nat)).toNat

/-- The unsigned number that bytes hold, most significant byte first (R181). -/
def bytesNat (l : List Byte) : Nat := l.foldl (fun acc b => acc * 256 + b.toNat) 0

/-- The signed number that bytes hold in two's complement (R181). -/
def bytesInt (l : List Byte) : Int :=
  let v := bytesNat l
  if 2 * v < 256 ^ l.length then (v : Int) else (v : Int) - (256 ^ l.length : Nat)

/-- One bit of a CRC register of width w: the incoming bit enters at the top; no reflection (R181). -/
def crcBit {w : Nat} (poly reg : BitVec w) (bit : Bool) : BitVec w :=
  if reg.msb != bit then (reg <<< 1) ^^^ poly else reg <<< 1

/-- One byte of a CRC, most significant bit first (R181). -/
def crcByte {w : Nat} (poly reg : BitVec w) (b : Byte) : BitVec w :=
  [7, 6, 5, 4, 3, 2, 1, 0].foldl (fun r i => crcBit poly r (b.getLsbD i)) reg

/-- A CRC over bytes, with no final inversion (R181). -/
def crc {w : Nat} (poly init : BitVec w) (l : List Byte) : BitVec w := l.foldl (crcByte poly) init

/-- CRC-8 of the sample frame: x^8 + x^2 + x + 1, initial value 0 (9.12). -/
def crc8 (l : List Byte) : BitVec 8 := crc 0x07#8 0#8 l

/-- CRC-16 of the station link: 0x1021, initial value 0xFFFF (R159). -/
def crc16 (l : List Byte) : BitVec 16 := crc 0x1021#16 0xFFFF#16 l

/-- CRC-32 of the persistent image: the polynomial of R200, every initial bit set, no inversion (R200). -/
def crc32 (l : List Byte) : BitVec 32 := crc 0x04C11DB7#32 0xFFFFFFFF#32 l

/-! ### Block updates -/

def State.setPhase (s : State) (x : Phase) : State := { s with phase := x }
def State.setTb (s : State) (x : Timebase) : State := { s with tb := x }
def State.setPortA (s : State) (x : SensorPort) : State := { s with portA := x }
def State.setPortB (s : State) (x : SensorPort) : State := { s with portB := x }
def State.setAsm (s : State) (x : Assembler) : State := { s with asm := x }
def State.setStore (s : State) (x : Store) : State := { s with store := x }
def State.setCorr (s : State) (x : Corrector) : State := { s with corr := x }
def State.setScreens (s : State) (x : Vector Screen 2) : State := { s with screens := x }
def State.setDec (s : State) (x : Decimator) : State := { s with dec := x }
def State.setLink (s : State) (x : Link) : State := { s with link := x }
def State.setStatus (s : State) (x : StatusUnit) : State := { s with status := x }
def State.setAux (s : State) (x : Auxiliary) : State := { s with aux := x }
def State.setStaging (s : State) (x : Staging) : State := { s with staging := x }
def State.setSettings (s : State) (x : SettingsStore) : State := { s with settings := x }
def State.setPending (s : State) (x : List Instr) : State := { s with pending := x }

/-- The sensor port of a letter. -/
def State.port (s : State) : Port → SensorPort
  | .a => s.portA
  | .b => s.portB

/-- The sensor port of a letter, replaced. -/
def State.setPort (s : State) (p : Port) (x : SensorPort) : State :=
  match p with
  | .a => s.setPortA x
  | .b => s.setPortB x

/-! ### Phase and time (log 1) -/

/-- The first mark has been made (R3, R208). -/
def State.running (s : State) : Bool := s.phase == .running

/-- The load has ended, so the link's receiver and transmitter run (R179, R207). -/
def State.linkUp (s : State) : Bool := s.phase == .loaded || s.phase == .running

/-- n periods pass: the clock counts them while the device is powered, and the period counter once marks are made (R1, R3). -/
def State.elapse (s : State) (n : Nat) : State :=
  if s.phase = .off then s
  else s.setTb { s.tb with
    clock := s.tb.clock + n
    period := if s.running then s.tb.period + n else s.tb.period }

/-- Time passes until the clock shows t; none passes when it already shows t or more. -/
def State.elapseTo (s : State) (t : Nat) : State := s.elapse (t - s.tb.clock)

/-- Time passes until the period counter shows p; none passes when it already shows p or more. -/
def State.elapseToPeriod (s : State) (p : Nat) : State := s.elapse (p - s.tb.period)

/-! ### Conditions and alert (R182, R184) -/

/-- The bit of a condition (R181). -/
def Condition.index : Condition → Nat
  | .linkCheck => 0
  | .requestOverrun => 1
  | .portAHalted => 2
  | .portBHalted => 3
  | .portAOverflow => 4
  | .portBOverflow => 5
  | .timeStepped => 6
  | .holdover => 7
  | .holdoverLong => 8
  | .faultCaptured => 9
  | .recordLoss => 10
  | .storeInvalid => 11
  | .saveFailed => 12
  | .linkReverted => 13

/-- The set that holds one condition (R181). -/
def Condition.mask (c : Condition) : ConditionSet := BitVec.ofNat 14 (2 ^ c.index)

/-- A condition is set; setting a set one has no further effect (R182). -/
def State.setCondition (s : State) (c : Condition) : State :=
  s.setStatus { s.status with conditions := s.status.conditions ||| c.mask }

/-- The alert state: the condition set and the alert mask have a member in common (R184; log 26). -/
def State.alert (s : State) : Bool := s.status.conditions &&& s.status.alertMask != 0

/-! ### Counters (R185) -/

/-- The 29 counters of the seven groups (R185). -/
inductive Counter where
  | overflow (p : Port)
  | checkErrors (p : Port)
  | fragments (p : Port)
  | unclaimed
  | late
  | unexpected
  | duplicate
  | saturations (t : Fin 2)
  | fieldSteps (t : Fin 2)
  | spikes (t : Fin 2)
  | reseeds (t : Fin 2)
  | ppsGlitch
  | ppsMissing
  | ppsOutlier
  | timeSteps
  | upstreamBad
  | reqOverrun
  | secondsLost
  | minutesLost
  | eventsLost
  | noticesLost
  | storeErrors
  deriving DecidableEq, Repr

/-- The place of a counter: the groups of R185 one after the other, each in the order of its table row. -/
def Counter.index : Counter → Fin 29
  | .overflow .a => 0
  | .checkErrors .a => 1
  | .fragments .a => 2
  | .overflow .b => 3
  | .checkErrors .b => 4
  | .fragments .b => 5
  | .unclaimed => 6
  | .late => 7
  | .unexpected => 8
  | .duplicate => 9
  | .saturations t => if t = 0 then 10 else 14
  | .fieldSteps t => if t = 0 then 11 else 15
  | .spikes t => if t = 0 then 12 else 16
  | .reseeds t => if t = 0 then 13 else 17
  | .ppsGlitch => 18
  | .ppsMissing => 19
  | .ppsOutlier => 20
  | .timeSteps => 21
  | .upstreamBad => 22
  | .reqOverrun => 23
  | .secondsLost => 24
  | .minutesLost => 25
  | .eventsLost => 26
  | .noticesLost => 27
  | .storeErrors => 28

/-- The counters of a group, in the order of R185's table; none for a number outside 0 to 6. -/
def counterGroup : Nat → List (Fin 29)
  | 0 => [0, 1, 2, 3, 4, 5]
  | 1 => [6, 7, 8, 9]
  | 2 => [10, 11, 12, 13, 14, 15, 16, 17]
  | 3 => [18, 19, 20, 21]
  | 4 => [22, 23]
  | 5 => [24, 25, 26, 27]
  | 6 => [28]
  | _ => []

/-- A counter as it stands. -/
def State.counter (s : State) (c : Counter) : Count16 := s.status.counters[c.index]

/-- A counter advances by n events, stopping at 65,535 (R185). -/
def State.countBy (s : State) (c : Counter) (n : Nat) : State :=
  s.setStatus { s.status with
    counters := s.status.counters.set c.index (satAdd (s.status.counters[c.index]) n) }

/-- A counter advances by one event (R185). -/
def State.count (s : State) (c : Counter) : State := s.countBy c 1

/-- The overflow and halt conditions of a port (R38). -/
def overflowCondition : Port → Condition
  | .a => .portAOverflow
  | .b => .portBOverflow

def haltedCondition : Port → Condition
  | .a => .portAHalted
  | .b => .portBHalted

/-! ### Output queue (R166 to R169) -/

/-- A frame of the data record class (R166). -/
def Body.isData : Body → Bool
  | .response _ => false
  | .second _ | .minute _ | .event _ | .notice _ => true

/-- A data record joins the young end; a second or minute record takes the lost field its accumulator gives (R169). -/
def Link.join (l : Link) (b : Body) : Link :=
  match b with
  | .second r =>
    { l with
      output := l.output ++ [⟨.second { r with lost := if l.secondsLost = 0 then none else some l.secondsLost }, false⟩]
      secondsLost := 0 }
  | .minute r =>
    { l with
      output := l.output ++ [⟨.minute { r with lost := if l.minutesLost = 0 then none else some l.minutesLost }, false⟩]
      minutesLost := 0 }
  | .event _ | .notice _ | .response _ => { l with output := l.output ++ [⟨b, false⟩] }

/-- What the loss of a second record adds to the accumulator: one, and the value of its own lost field (R169, R180). -/
def SecondRecord.lossWeight (r : SecondRecord) : Nat :=
  1 + (match r.lost with | some n => n.toNat | none => 0)

/-- The youngest second record leaves the queue (R168); absent when there is none. -/
def takeYoungestSecond : List Frame → Option (SecondRecord × List Frame)
  | [] => none
  | f :: fs =>
    match takeYoungestSecond fs with
    | some (r, rest) => some (r, f :: rest)
    | none =>
      match f.body with
      | .second r => some (r, fs)
      | .minute _ | .event _ | .notice _ | .response _ => none

/-- The frame being sent, which nothing displaces or discards, and the frames behind it (R168, R170). -/
def Link.sendingPart (l : Link) : List Frame := if l.sending then l.output.take 1 else []

def Link.waitingPart (l : Link) : List Frame := if l.sending then l.output.drop 1 else l.output

/-- A data record is lost: its counter advances, RECORD_LOSS is set, and a second or minute record advances its accumulator
(R167, R169). -/
def State.loseRecord (s : State) (b : Body) : State :=
  match b with
  | .second r =>
    let s := (s.count .secondsLost).setCondition .recordLoss
    s.setLink { s.link with secondsLost := satAdd s.link.secondsLost r.lossWeight }
  | .minute _ =>
    let s := (s.count .minutesLost).setCondition .recordLoss
    s.setLink { s.link with minutesLost := satAdd s.link.minutesLost 1 }
  | .event _ => (s.count .eventsLost).setCondition .recordLoss
  | .notice _ => (s.count .noticesLost).setCondition .recordLoss
  | .response _ => s

/-- A minute record refused for space displaces the youngest second record not being sent, or is lost (R168). -/
def State.displace (s : State) (m : MinuteRecord) : State :=
  match takeYoungestSecond s.link.waitingPart with
  | some (r, rest) =>
    let s := s.setLink { s.link with output := s.link.sendingPart ++ rest }
    let s := s.loseRecord (.second r)
    s.setLink (s.link.join (.minute m))
  | none => s.loseRecord (.minute m)

/-- A data record is offered: it joins while fewer than 60 places are occupied, and is otherwise refused for space (R167). -/
def State.offerData (s : State) (b : Body) : State :=
  if s.link.output.length < Config.dataPlaces then s.setLink (s.link.join b)
  else
    match b with
    | .minute m => s.displace m
    | .second _ | .event _ | .notice _ | .response _ => s.loseRecord b

/-- A notice is offered as a data record (10.5). -/
def State.offerNotice (s : State) (n : Notice) : State := s.offerData (.notice n)

/-- The frames of a response: one, or two when its data exceed 246 bytes (R164). -/
def responseFrames (tag code : Byte) (result : Result) (data : List Byte) (tied : Bool) : List Frame :=
  if data.length ≤ Config.responseData then [⟨.response ⟨tag, code, result, 0, data⟩, tied⟩]
  else
    [⟨.response ⟨tag, code, result, 1, data.take Config.responseData⟩, false⟩,
     ⟨.response ⟨tag, code, result, 0, data.drop Config.responseData⟩, tied⟩]

/-- A response joins the young end of the output queue (R166). -/
def State.offerResponse (s : State) (frames : List Frame) : State :=
  s.setLink { s.link with output := s.link.output ++ frames }

/-! ### Faults (R187, R188) -/

/-- The place of a fault class in the capture mask and among the fault counts (R181). -/
def FaultClass.index : FaultClass → Fin 5
  | .storeError => 0
  | .tableClamp => 1
  | .saturation => 2
  | .frameCheck => 3
  | .reseed => 4

/-- A fault is raised: its class is counted, and an empty capture record is frozen with it when its class is in the capture
mask; the freeze sets FAULT_CAPTURED and offers a FAULT notice (R187, R188). -/
def State.raiseFault (s : State) (f : RaisedFault) : State :=
  let s := s.setStatus { s.status with
    faultCounts := s.status.faultCounts.set f.cls.index (satAdd (s.status.faultCounts[f.cls.index]) 1) }
  if s.status.capture = none ∧ s.status.captureMask.getLsbD f.cls.index.val = true then
    let s := s.setStatus { s.status with capture := some f }
    (s.setCondition .faultCaptured).offerNotice (.fault f)
  else s

/-! ### Coefficient store (R63; log 7) -/

/-- What an unlisted address reads as: the default entry of R74. -/
def StoreEntry.default : StoreEntry := ⟨0, 0, .good⟩

/-- The entry at an address (R63). -/
def Store.read (st : Store) (a : Nat) : StoreEntry :=
  match st with
  | [] => .default
  | (b, e) :: rest => if a = b then e else Store.read rest a

/-- One entry written: the list stays sorted, and an entry equal to the default is not listed. -/
def Store.write (st : Store) (a : Nat) (e : StoreEntry) : Store :=
  match st with
  | [] => if e = .default then [] else [(a, e)]
  | (b, f) :: rest =>
    if a < b then (if e = .default then (b, f) :: rest else (a, e) :: (b, f) :: rest)
    else if a = b then (if e = .default then rest else (a, e) :: rest)
    else (b, f) :: Store.write rest a e

/-- A run of entries written from an address on, in ascending address order (R69). -/
def Store.writeRun (st : Store) (a : Nat) : List StoreEntry → Store
  | [] => st
  | e :: es => Store.writeRun (Store.write st a e) (a + 1) es

/-- Every address of the list exceeds `low`, they rise strictly, lie below 2,048, and no entry is the default one. -/
def Store.sortedFrom (low : Nat) : Store → Bool
  | [] => true
  | (a, e) :: rest =>
    decide (low ≤ a) && decide (a < Config.storeEntries) && decide (e ≠ .default) && Store.sortedFrom (a + 1) rest

/-- The canonical form of the store (log 7). -/
def Store.wf (st : Store) : Bool := Store.sortedFrom 0 st

/-- The addresses a segment occupies: base to base + n − 1 (R60). -/
def Segment.covers (g : Segment) (a : Nat) : Bool := decide (g.base ≤ a) && decide (a < g.base + g.length)

/-- An enabled channel's segment covers the address (R65). -/
def ChannelDescriptor.protects (d : ChannelDescriptor) (a : Nat) : Bool :=
  d.enabled && (match d.segment with | some g => g.covers a | none => false)

/-- The lowest channel whose enabled segment covers an address, in a configuration (R70). -/
def Configuration.protector (c : Configuration) (a : Nat) : Option (Fin 16) :=
  allChannels.find? fun n => (c.channels[n]).protects a

/-- The address lies in the protected set: the segments of the enabled channels of the active copy (R65, R66; log 26). -/
def State.isProtected (s : State) (a : Nat) : Bool := (s.staging.active.protector a).isSome

/-! ### Working settings (R199) -/

/-- A working setting other than D changes: the unsaved-changes flag is set, and the change note while a save runs (R199). -/
def State.touchSettings (s : State) : State :=
  s.setSettings { s.settings with
    unsaved := true
    changeNote := s.settings.changeNote || s.settings.save.isSome }

/-- The working settings as they stand: R and D_a as set, the active configuration, the D of the moment (R199, R204). -/
def State.workingSettings (s : State) : Settings where
  config := s.staging.active
  store := s.store
  rateSet := s.tb.rateSet
  depthSet := s.tb.depthSet
  holdoverLimit := s.tb.holdoverLimit
  trim := s.tb.trim
  portA := s.portA.settings
  portB := s.portB.settings
  lines := Vector.ofFn fun i => (s.aux.lines[i]).settings
  selection := s.aux.selection
  linkRate := s.link.confirmedRate
  outputSet := s.link.outputSet
  alertMask := s.status.alertMask
  captureMask := s.status.captureMask

/-! ### Lines the outside sees (R5, R32, R192, R193; log 26) -/

/-- PACE_x is asserted while the pace latch is set or the port is not ACTIVE (R32). -/
def SensorPort.paceLine (p : SensorPort) : Bool := p.paceLatch || p.mode != .active

/-- The indicator code, by the first case of R192 that applies. -/
def State.indicator (s : State) : Nat :=
  match s.phase with
  | .off | .powered => 0
  | .loaded => 1
  | .running =>
    if s.status.code2.isSome then 2
    else if s.status.capture.isSome then 7
    else
      match s.tb.discipline with
      | .freeRun => 3
      | .acquire => 4
      | .locked => 5
      | .holdover => 6

/-- The level of an indicator line: IND0 to IND2 show the indicator code in binary, IND0 the least significant, high for 1
(R192). -/
def State.indicatorLine (s : State) (i : Fin 3) : Bool := s.indicator.testBit i.val

/-- What an auxiliary line carries: not driven, low, high, or the oscillator itself (CLOCK_OUT with k = 0). -/
inductive LineLevel where
  | undriven
  | low
  | high
  | oscillator
  deriving DecidableEq, Repr

/-- The periods of each 2^k that a clock output is high (R193), for k of 1 or more. -/
def LineSettings.highPeriods (l : LineSettings) : Nat :=
  if l.k = 1 then 1
  else
    match l.duty with
    | .d25 => 2 ^ (l.k - 2)
    | .d50 => 2 ^ (l.k - 1)
    | .d75 => 3 * 2 ^ (l.k - 2)

/-- The level of an auxiliary line by its designation (R193); before the load the lines are not driven (R197). -/
def State.lineLevel (s : State) (i : Fin 4) : LineLevel :=
  if s.linkUp then
    let line := s.aux.lines[i]
    match line.settings.designation with
    | .off | .markerIn => .undriven
    | .levelLow => .low
    | .levelHigh => .high
    | .secondMark => if line.raised then .high else .low
    | .alert => if s.alert then .high else .low
    | .clockOut =>
      if line.settings.k = 0 then .oscillator
      else if (s.tb.clock - line.cycleStart) % 2 ^ line.settings.k < line.settings.highPeriods then .high
      else .low
  else .undriven

/-- STROBE is asserted (R5). -/
def State.strobe (s : State) : Bool := s.tb.strobeUntil.isSome

/-! ### Stamps (R27, R28) -/

/-- The latest tick issued (R27). Before any tick is issued no frame is judged; the value then stands for nothing (log 32). -/
def State.lastTick (s : State) : TickId := (s.asm.issued.getLast?).getD ⟨0, 0, 0⟩

end Sys2Proof.Machine
end

