-- ==== Sys2Proof/Machine/Flags.lean ====
section
/-! DEFINITION. Machine/Flags: the data flags and record flags of samples, values and records (R76, R100, R121, R134, R181). -/

namespace Sys2Proof.Machine

/-- The bit of a data flag (R181). -/
def DataFlag.index : DataFlag → Nat
  | .spike => 0
  | .step => 1
  | .reseed => 2
  | .tableClamp => 3
  | .tempStale => 4
  | .tempAbsent => 5
  | .storeError => 6
  | .saturated => 7
  | .overrange => 8
  | .digitizer => 9
  | .axisGap => 10
  | .gap => 11
  | .partialValue => 12
  | .commitStraddle => 13
  | .timeStep => 14

/-- The set that holds one data flag (R181). -/
def DataFlag.mask (f : DataFlag) : DataFlags := BitVec.ofNat 15 (2 ^ f.index)

/-- A flag, carried or not. -/
def DataFlag.on (f : DataFlag) (b : Bool) : DataFlags := if b then f.mask else 0

/-- A set of flags holds a flag. -/
def DataFlags.has (s : DataFlags) (f : DataFlag) : Bool := s.getLsbD f.index

/-- The eleven flags that windows union: SPIKE to AXIS_GAP (R121). -/
def DataFlags.windowed : DataFlags := 0x7FF

/-- The flags of an absent axis sample that pass into a gap: OVERRANGE and DIGITIZER (R97). -/
def DataFlags.missing : DataFlags := DataFlag.overrange.mask ||| DataFlag.digitizer.mask

/-- The flags a MISSING slot travels with (R48, R76). -/
def missingFlags (overrange digitizer : Bool) : DataFlags :=
  DataFlag.overrange.on overrange ||| DataFlag.digitizer.on digitizer

/-- The union of flag sets (R121). -/
def unionFlags (l : List DataFlags) : DataFlags := l.foldl (· ||| ·) 0

/-- Two or more different generations occur (R122). -/
def differ (l : List Num32) : Bool :=
  match l with
  | [] => false
  | g :: gs => gs.any (· != g)

/-- The record flags of a second's mark (R116, R181). -/
def recordFlags (timeStep relabel commitApplied : Bool) : RecordFlags :=
  (if timeStep then 1#3 else 0#3) ||| (if relabel then 2#3 else 0#3) ||| (if commitApplied then 4#3 else 0#3)

end Sys2Proof.Machine
end

