-- ==== Sys2Proof/Machine/Operands.lean ====
section
/-! DEFINITION. Machine/Operands: the request catalogue (9.11), the parameter bytes of requests and the bytes of response
items, by the encoding of R181. -/

namespace Sys2Proof.Machine

/-! ### Request catalogue (9.11) -/

/-- The requests of the catalogue, in its order. -/
inductive RequestName where
  | ident
  | status
  | outputSet
  | linkRate
  | timeLabel
  | timebaseSet
  | portReset
  | portEnable
  | portSet
  | channelSet
  | channelGet
  | triadSet
  | triadGet
  | filterShape
  | filterTaps
  | filterGet
  | discard
  | commit
  | storeWrite
  | storeRead
  | storePoison
  | conditionsClear
  | countersRead
  | countersClear
  | faultRead
  | faultRelease
  | alertMaskSet
  | captureMaskSet
  | lineSet
  | markerSet
  | save
  | restart
  | lockSession
  | fixPermanent
  deriving DecidableEq, Repr

/-- The request code (9.11). -/
def RequestName.code : RequestName → Byte
  | .ident => 0x01
  | .status => 0x02
  | .outputSet => 0x03
  | .linkRate => 0x04
  | .timeLabel => 0x10
  | .timebaseSet => 0x11
  | .portReset => 0x18
  | .portEnable => 0x19
  | .portSet => 0x1A
  | .channelSet => 0x20
  | .channelGet => 0x21
  | .triadSet => 0x22
  | .triadGet => 0x23
  | .filterShape => 0x24
  | .filterTaps => 0x25
  | .filterGet => 0x26
  | .discard => 0x27
  | .commit => 0x28
  | .storeWrite => 0x30
  | .storeRead => 0x31
  | .storePoison => 0x32
  | .conditionsClear => 0x40
  | .countersRead => 0x41
  | .countersClear => 0x42
  | .faultRead => 0x43
  | .faultRelease => 0x44
  | .alertMaskSet => 0x45
  | .captureMaskSet => 0x46
  | .lineSet => 0x47
  | .markerSet => 0x48
  | .save => 0x50
  | .restart => 0x51
  | .lockSession => 0x52
  | .fixPermanent => 0x53

/-- The catalogue's requests, in its order. -/
def catalogue : List RequestName :=
  [.ident, .status, .outputSet, .linkRate, .timeLabel, .timebaseSet, .portReset, .portEnable, .portSet] ++
  [.channelSet, .channelGet, .triadSet, .triadGet, .filterShape, .filterTaps, .filterGet, .discard, .commit] ++
  [.storeWrite, .storeRead, .storePoison, .conditionsClear, .countersRead, .countersClear, .faultRead] ++
  [.faultRelease, .alertMaskSet, .captureMaskSet, .lineSet, .markerSet, .save, .restart, .lockSession, .fixPermanent]

/-- The request a code names; none for a code outside the catalogue (R163). -/
def RequestName.ofCode (b : Byte) : Option RequestName := catalogue.find? fun r => r.code == b

/-! ### Parameter bytes (R181) -/

/-- Parameter byte i. -/
def byteAt (l : List Byte) (i : Nat) : Byte := (l[i]?).getD 0

/-- The n parameter bytes from byte i on. -/
def bytesAt (l : List Byte) (i n : Nat) : List Byte := (l.drop i).take n

/-- An unsigned parameter of n bytes. -/
def natAt (l : List Byte) (i n : Nat) : Nat := bytesNat (bytesAt l i n)

/-- A signed parameter of n bytes. -/
def intAt (l : List Byte) (i n : Nat) : Int := bytesInt (bytesAt l i n)

/-- The number of parameter bytes a request calls for; with a count, the count stands in byte 2 (9.11, R163).
None where the body is too short to hold the count. -/
def RequestName.paramLength (r : RequestName) (params : List Byte) : Option Nat :=
  match r with
  | .ident | .discard | .commit | .faultRead | .faultRelease | .save | .restart | .lockSession | .fixPermanent => some 0
  | .status | .outputSet | .portReset | .countersRead | .countersClear | .captureMaskSet | .markerSet => some 1
  | .linkRate | .portEnable | .channelGet | .triadGet | .filterGet | .storePoison | .conditionsClear
  | .alertMaskSet => some 2
  | .portSet | .storeRead => some 3
  | .timeLabel | .filterShape | .lineSet => some 4
  | .timebaseSet => some 6
  | .channelSet => some 27
  | .triadSet => some 48
  | .filterTaps => if 3 ≤ params.length then some (3 + 2 * natAt params 2 1) else none
  | .storeWrite => if 3 ≤ params.length then some (3 + 5 * natAt params 2 1) else none

/-- The body's parameter bytes agree in number with the request and its count (R163). -/
def RequestName.lengthOk (r : RequestName) (params : List Byte) : Bool := r.paramLength params == some params.length

/-! ### Choices (R181: the position of the value in the order the owning rule lists the values) -/

/-- The value at a position of a listed choice; none beyond the last position. -/
def choiceAt {α : Type} (values : List α) (b : Byte) : Option α := values[b.toNat]?

/-- "yes or no" of a descriptor's Enabled field: yes 0, no 1 (R57, R95; log 11). -/
def boolChoice : List Bool := [true, false]
def portChoice : List Port := [.a, .b]
def policyChoice : List Policy := [.skip, .stop]
def kindChoice : List Kind := [.axis, .scalar, .temperature]
def roundingChoice : List Rounding := [.round, .truncate]
def directionChoice : List Direction := [.ascending, .descending]
def copyChoice : List Copy := [.active, .pending]
def filterChoice : List FilterName := [.second, .minute]
def designationChoice : List Designation :=
  [.off, .levelLow, .levelHigh, .secondMark, .alert, .clockOut, .markerIn]
def dutyChoice : List Duty := [.d25, .d50, .d75]
def selectionChoice : List EdgeSelection := [.rising, .falling, .both]
def triadChoice : List (Fin 2) := [0, 1]
def lineChoice : List (Fin 4) := [0, 1, 2, 3]

/-- A channel number, 0 to 15. -/
def channelAt (b : Byte) : Option (Fin 16) := allChannels[b.toNat]?

/-- The position of a choice's value, in one byte. -/
def posByte (n : Nat) : List Byte := natBytes 1 n

/-- A Boolean listed with its true value first (log 11). -/
def firstByte (b : Bool) : List Byte := posByte (if b then 0 else 1)

/-- A Boolean as a bit: 1 for set, pending or running, 0 otherwise (log 11). -/
def bitByte (b : Bool) : List Byte := posByte (if b then 1 else 0)

def portPosition : Port → Nat
  | .a => 0
  | .b => 1

def Policy.position : Policy → Nat
  | .skip => 0
  | .stop => 1

def PortMode.position : PortMode → Nat
  | .disabled => 0
  | .active => 1
  | .halted => 2

def Kind.position : Kind → Nat
  | .axis => 0
  | .scalar => 1
  | .temperature => 2

def Rounding.position : Rounding → Nat
  | .round => 0
  | .truncate => 1

def Direction.position : Direction → Nat
  | .ascending => 0
  | .descending => 1

def FilterName.position : FilterName → Nat
  | .second => 0
  | .minute => 1

def CheckState.position : CheckState → Nat
  | .good => 0
  | .bad => 1

def Discipline.position : Discipline → Nat
  | .freeRun => 0
  | .acquire => 1
  | .locked => 2
  | .holdover => 3

def Quality.position : Quality → Nat
  | .freeRun => 0
  | .acquire => 1
  | .locked => 2
  | .holdover => 3
  | .holdoverLong => 4

def edgePosition : Edge → Nat
  | .rising => 0
  | .falling => 1

def ResetCause.position : ResetCause → Nat
  | .powerOn => 0
  | .commanded => 1

def Validity.position : Validity → Nat
  | .valid => 0
  | .invalid => 1

def TimebaseCause.position : TimebaseCause → Nat
  | .stateChange => 0
  | .step => 1
  | .holdoverLong => 2
  | .relabel => 3

def PortCause.position : PortCause → Nat
  | .halted => 0
  | .reset => 1

def Protection.position : Protection → Nat
  | .opened => 0
  | .sessionLocked => 1
  | .fixed => 2

def RateState.position : RateState → Nat
  | .idle => 0
  | .waiting => 1
  | .trial => 2

def Result.position : Result → Nat
  | .ok => 0
  | .busy => 1
  | .access => 2
  | .range => 3
  | .conflict => 4
  | .locked => 5
  | .unknown => 6
  | .badLength => 7
  | .saveFailed => 8

/-! ### Descriptors as parameters and as response items (R57, R60, R95, R181) -/

/-- A presence byte: 0 absent, 1 present, any other value out of range (R181). -/
def presence (b : Byte) : Option Bool := if b = 0 then some false else if b = 1 then some true else none

/-- The bounds of R60 on a segment record. -/
def Segment.inRange (g : Segment) : Bool :=
  decide (g.base ≤ 2047) && decide (2 ≤ g.length) && decide (g.length ≤ 256) &&
  decide (1 ≤ g.step) && decide (g.step ≤ 2000) && decide (g.base + g.length ≤ 2048)

/-- The staleness limit is present, in 1 to 600, exactly for TEMPERATURE (R57, R59). -/
def stalenessOk (k : Kind) (limit : Option Nat) : Bool :=
  match k, limit with
  | .temperature, some n => decide (1 ≤ n) && decide (n ≤ 600)
  | .temperature, none => false
  | .axis, some _ => false
  | .axis, none => true
  | .scalar, some _ => false
  | .scalar, none => true

/-- The segment parameter bytes: presence, base, n, T0, ΔT, direction (R60, R181).
The outer `none` is a value out of range. That the bytes of an absent segment are not looked at is the model's choice (log 38). -/
def segmentAt (l : List Byte) (i : Nat) : Option (Option Segment) :=
  match presence (byteAt l i) with
  | none => none
  | some false => some none
  | some true =>
    match choiceAt directionChoice (byteAt l (i + 9)) with
    | none => none
    | some dir =>
      let g : Segment := ⟨natAt l (i + 1) 2, natAt l (i + 3) 2, intAt l (i + 5) 2, natAt l (i + 7) 2, dir⟩
      if g.inRange then some (some g) else none

/-- An optional channel number: presence byte and number (R57, R181); the byte of an absent one is not looked at (log 38). -/
def optChannelAt (l : List Byte) (i : Nat) : Option (Option (Fin 16)) :=
  match presence (byteAt l i) with
  | none => none
  | some false => some none
  | some true => (channelAt (byteAt l (i + 1))).map some

/-- An optional two-byte number: presence byte and number (R57, R181); the bytes of an absent one are not looked at (log 38). -/
def optNatAt (l : List Byte) (i : Nat) : Option (Option Nat) :=
  match presence (byteAt l i) with
  | none => none
  | some false => some none
  | some true => some (some (natAt l (i + 1) 2))

/-- A source address, 0 to 15 (R57). -/
def sourceAt (b : Byte) : Option (BitVec 4) := if b.toNat < 16 then some (b.truncate 4) else none

/-- The channel descriptor in 26 parameter bytes from byte i on; none for a field outside its values (R57, R59, R60, R142). -/
def channelDescriptorAt (l : List Byte) (i : Nat) : Option ChannelDescriptor := do
  let enabled ← choiceAt boolChoice (byteAt l i)
  let kind ← choiceAt kindChoice (byteAt l (i + 1))
  let port ← choiceAt portChoice (byteAt l (i + 2))
  let source ← sourceAt (byteAt l (i + 3))
  let mode ← choiceAt roundingChoice (byteAt l (i + 10))
  let tempSource ← optChannelAt l (i + 11)
  let segment ← segmentAt l (i + 13)
  let staleness ← optNatAt l (i + 23)
  if stalenessOk kind staleness then
    some ⟨enabled, kind, port, source, intAt l (i + 4) 3, intAt l (i + 7) 3, mode, tempSource, segment, staleness⟩
  else none

/-- The bytes of an optional segment: always carried, 0 when absent (R181). -/
def segmentBytes : Option Segment → List Byte
  | none => natBytes 10 0
  | some g =>
    natBytes 1 1 ++ natBytes 2 g.base ++ natBytes 2 g.length ++ intBytes 2 g.start ++ natBytes 2 g.step ++
      posByte g.direction.position

/-- The bytes of an optional number: presence byte, then n bytes, 0 when absent (R181). -/
def optNatBytes (n : Nat) : Option Nat → List Byte
  | none => natBytes (n + 1) 0
  | some v => natBytes 1 1 ++ natBytes n v

/-- The bytes of an optional signed number: presence byte, then n bytes, 0 when absent (R181). -/
def optIntBytes (n : Nat) : Option Int → List Byte
  | none => natBytes (n + 1) 0
  | some v => natBytes 1 1 ++ intBytes n v

/-- A channel descriptor in 26 bytes, its fields in the order of the table of R57 (R62, R181). -/
def ChannelDescriptor.bytes (d : ChannelDescriptor) : List Byte :=
  firstByte d.enabled ++ posByte d.kind.position ++ posByte (portPosition d.port) ++ natBytes 1 d.source.toNat ++
    intBytes 3 d.scale ++ intBytes 3 d.offset ++ posByte d.mode.position ++
    optNatBytes 1 (d.tempSource.map Fin.val) ++ segmentBytes d.segment ++ optNatBytes 2 d.staleness

/-- A field of a triad's offset vector, −134,217,728 to +134,217,727 (R95). -/
def triadOffsetOk (v : Int) : Bool := !outside (-134217728) 134217727 v

/-- The triad descriptor in 47 parameter bytes from byte i on; none for a field outside its values (R95, R143). The order of the
nine matrix elements, row by row from m_00, is the model's choice (log 37). -/
def triadDescriptorAt (l : List Byte) (i : Nat) : Option TriadDescriptor := do
  let enabled ← choiceAt boolChoice (byteAt l i)
  let x ← channelAt (byteAt l (i + 1))
  let y ← channelAt (byteAt l (i + 2))
  let z ← channelAt (byteAt l (i + 3))
  let b : Vec3 := ⟨intAt l (i + 31) 4, intAt l (i + 35) 4, intAt l (i + 39) 4⟩
  let mode ← choiceAt roundingChoice (byteAt l (i + 46))
  if triadOffsetOk b.x && triadOffsetOk b.y && triadOffsetOk b.z then
    some ⟨enabled, ⟨x, y, z⟩,
      ⟨intAt l (i + 4) 3, intAt l (i + 7) 3, intAt l (i + 10) 3⟩,
      ⟨intAt l (i + 13) 3, intAt l (i + 16) 3, intAt l (i + 19) 3⟩,
      ⟨intAt l (i + 22) 3, intAt l (i + 25) 3, intAt l (i + 28) 3⟩,
      b, natAt l (i + 43) 3, mode⟩
  else none

/-- Three signed numbers of n bytes each. -/
def Vec3.bytes (n : Nat) (v : Vec3) : List Byte := intBytes n v.x ++ intBytes n v.y ++ intBytes n v.z

/-- A triad descriptor in 47 bytes, its fields in the order of the table of R95, the matrix row by row (R147, R181; log 37). -/
def TriadDescriptor.bytes (d : TriadDescriptor) : List Byte :=
  firstByte d.enabled ++ natBytes 1 d.axes.x.val ++ natBytes 1 d.axes.y.val ++ natBytes 1 d.axes.z.val ++
    d.rowX.bytes 3 ++ d.rowY.bytes 3 ++ d.rowZ.bytes 3 ++ d.offset.bytes 4 ++ natBytes 3 d.limit ++
    posByte d.mode.position

/-- The entries carried by STORE_WRITE from byte i on, each an offset in 3 bytes and a gain in 2, stored as GOOD (R68, R69). -/
def storeEntriesAt (l : List Byte) (i : Nat) : Nat → List StoreEntry
  | 0 => []
  | n + 1 => ⟨intAt l i 3, intAt l (i + 3) 2, .good⟩ :: storeEntriesAt l (i + 5) n

/-- The weights carried by FILTER_TAPS from byte i on, two bytes each (R145). -/
def weightsAt (l : List Byte) (i : Nat) : Nat → List Count16
  | 0 => []
  | n + 1 => BitVec.ofNat 16 (natAt l i 2) :: weightsAt l (i + 2) n

end Sys2Proof.Machine
end

