-- ==== Sys2Proof/Machine/Wire.lean ====
section
/-! DEFINITION. Machine/Wire: the bytes of downstream frames: record bodies, notice bodies, response bodies and the envelope
(9.12, R159, R164, R181). -/

namespace Sys2Proof.Machine

/-- An optional vector: presence byte, then X, Y, Z in 4 bytes each, 0 when absent (9.12). -/
def optVectorBytes : Option Vec3 → List Byte
  | none => natBytes 13 0
  | some v => natBytes 1 1 ++ v.bytes 4

/-- A triad entry, 17 bytes (9.12). -/
def TriadEntry.bytes (e : TriadEntry) : List Byte :=
  natBytes 1 e.triad.val ++ optVectorBytes e.vector ++ natBytes 1 e.used ++ natBytes 2 e.flags.toNat

/-- A temperature entry, 4 bytes (9.12). -/
def tempEntryBytes (e : Fin 16 × Option Int) : List Byte := natBytes 1 e.1.val ++ optIntBytes 2 e.2

/-- The F item, 7 bytes: 0 none, 1 absent value, 2 present value; then the value and the data flags (9.12). -/
def scalarItemBytes : Option ScalarValue → List Byte
  | none => natBytes 7 0
  | some ⟨none, flags⟩ => natBytes 1 1 ++ natBytes 4 0 ++ natBytes 2 flags.toNat
  | some ⟨some v, flags⟩ => natBytes 1 2 ++ intBytes 4 v ++ natBytes 2 flags.toNat

/-- The ΔF item, 4 bytes: 0 absent, 1 present, 2 present with DF_SATURATED; then the value (9.12). -/
def deltaFBytes : Option DeltaF → List Byte
  | none => natBytes 4 0
  | some d => natBytes 1 (if d.saturated then 2 else 1) ++ intBytes 3 d.value

/-- A lost field: 0 when absent (9.12). -/
def lostBytes : Option Count16 → List Byte
  | none => natBytes 2 0
  | some n => natBytes 2 n.toNat

/-- A list with its count byte. -/
def countedBytes {α : Type} (f : α → List Byte) (l : List α) : List Byte := natBytes 1 l.length ++ l.flatMap f

/-- The body of a second record (9.12). -/
def SecondRecord.bytes (r : SecondRecord) : List Byte :=
  natBytes 4 r.second.toNat ++ posByte r.quality.position ++ natBytes 1 r.flags.toNat ++ lostBytes r.lost ++
    countedBytes TriadEntry.bytes r.triads ++ scalarItemBytes r.scalar ++ deltaFBytes r.deltaF ++
    countedBytes tempEntryBytes r.temperatures

/-- The body of a minute record (9.12). -/
def MinuteRecord.bytes (r : MinuteRecord) : List Byte :=
  natBytes 4 r.minute ++ lostBytes r.lost ++ countedBytes TriadEntry.bytes r.triads ++ scalarItemBytes r.scalar ++
    countedBytes tempEntryBytes r.temperatures

/-- The body of an event record (9.12). -/
def EventRecord.bytes (r : EventRecord) : List Byte :=
  natBytes 4 r.second.toNat ++ natBytes 4 r.offset ++ posByte (edgePosition r.edge) ++ posByte r.quality.position

/-- The object kind and number of a fault (9.12: CHANNEL, TRIAD, PORT). -/
def FaultObject.bytes : FaultObject → List Byte
  | .channel n => natBytes 1 0 ++ natBytes 1 n.val
  | .triad n => natBytes 1 1 ++ natBytes 1 n.val
  | .port p => natBytes 1 2 ++ posByte (portPosition p)

/-- The detail kind and value of a fault (9.12: none, store address, temperature, component, source address). -/
def FaultDetail.bytes : FaultDetail → List Byte
  | .none => natBytes 1 0 ++ natBytes 4 0
  | .address a => natBytes 1 1 ++ natBytes 4 a
  | .temperature t => natBytes 1 2 ++ intBytes 4 t
  | .component c => natBytes 1 3 ++ natBytes 4 c.val
  | .source a => natBytes 1 4 ++ natBytes 4 a.toNat

/-- The fields of a FAULT notice after its kind, 13 bytes (9.12). -/
def RaisedFault.bytes (f : RaisedFault) : List Byte :=
  natBytes 1 f.cls.index.val ++ f.object.bytes ++ natBytes 4 f.second.toNat ++ natBytes 1 f.tickIndex ++ f.detail.bytes

/-- The flags byte of a held error: bit 0 overrange, bit 1 digitizer fault (9.12). -/
def heldFlagsByte (h : HeldError) : Nat := (if h.overrange then 1 else 0) + (if h.digitizer then 2 else 0)

/-- A held error: presence, source address, tick sequence, flags, second number, tick index (9.12). -/
def heldErrorBytes : Option HeldError → List Byte
  | none => natBytes 9 0
  | some h =>
    natBytes 1 1 ++ natBytes 1 h.source.toNat ++ natBytes 1 h.sequence.toNat ++ natBytes 1 (heldFlagsByte h) ++
      natBytes 4 h.second.toNat ++ natBytes 1 h.tickIndex

/-- A set of numbers as a mask. -/
def numberMask (l : List Nat) : Nat := l.foldl (fun m n => m ||| 2 ^ n) 0

/-- The body of a notice: its kind, then its fields (9.12). -/
def Notice.bytes : Notice → List Byte
  | .start cause validity second =>
    natBytes 1 1 ++ posByte cause.position ++ posByte validity.position ++ natBytes 4 second.toNat
  | .timebase cause before after second trim error =>
    natBytes 1 2 ++ posByte cause.position ++ posByte before.position ++ posByte after.position ++
      natBytes 4 second.toNat ++ intBytes 2 trim ++ optIntBytes 4 error
  | .port p cause before after count held =>
    natBytes 1 3 ++ posByte (portPosition p) ++ posByte cause.position ++ posByte before.position ++
      posByte after.position ++ natBytes 1 count ++ heldErrorBytes held
  | .fault f => natBytes 1 4 ++ f.bytes
  | .commit generation second channels triads filters =>
    natBytes 1 5 ++ natBytes 4 generation.toNat ++ natBytes 4 second.toNat ++
      natBytes 2 (numberMask (channels.map Fin.val)) ++ natBytes 1 (numberMask (triads.map Fin.val)) ++
      natBytes 1 (numberMask (filters.map FilterName.position))
  | .link trial restored => natBytes 1 6 ++ natBytes 1 0 ++ natBytes 2 trial.toNat ++ natBytes 2 restored.toNat

/-- The body of a response: its header and its data (R164). -/
def Response.bytes (r : Response) : List Byte :=
  [r.tag, r.code] ++ posByte r.result.position ++ natBytes 1 r.follow ++ r.data

/-- The KIND of a downstream frame (9.12). -/
def Body.kind : Body → Byte
  | .response _ => 0x81
  | .second _ => 0x82
  | .minute _ => 0x83
  | .event _ => 0x84
  | .notice _ => 0x85

/-- The body bytes of a downstream frame (9.12). -/
def Body.bytes : Body → List Byte
  | .second r => r.bytes
  | .minute r => r.bytes
  | .event r => r.bytes
  | .notice n => n.bytes
  | .response r => r.bytes

/-- A whole frame: sync, LEN, KIND, body, CRC-16 over LEN, KIND and body, high byte first (R159). -/
def envelope (kind : Byte) (body : List Byte) : List Byte :=
  let inner := natBytes 1 body.length ++ [kind] ++ body
  Config.linkSync :: (inner ++ natBytes 2 (crc16 inner).toNat)

/-- The bytes the transmitter sends for a frame (R159). -/
def Frame.bytes (f : Frame) : List Byte := envelope f.body.kind f.body.bytes

end Sys2Proof.Machine
end

