-- ==== Sys2Proof/Machine/Handler.lean ====
section
/-! DEFINITION. Machine/Handler: the request handler's take of the oldest request, its judgement and its response (R163, R164). -/

namespace Sys2Proof.Machine

/-- What judging a request gives: the state it leaves, its result, its response data; whether a waiting rate change is tied
to the response (R171); whether a response is offered at the take (a SAVE that starts a save offers none, R165); and the
notices that follow the response (R163). -/
structure Reply where
  state : State
  result : Result
  data : List Byte
  tied : Bool
  answered : Bool
  notices : List Notice

/-- A request answered with a result and data. -/
def Reply.of (s : State) (result : Result) (data : List Byte) : Reply := ⟨s, result, data, false, true, []⟩

/-- A request answered OK. -/
def Reply.ok (s : State) (data : List Byte) : Reply := Reply.of s .ok data

/-- A request refused: it changes nothing and carries no data (R163). -/
def Reply.refuse (s : State) (result : Result) : Reply := Reply.of s result []

/-- The free places a take needs: two for FILTER_GET, one otherwise (R163). -/
def placesNeeded (name : Option RequestName) : Nat := if name = some .filterGet then 2 else 1

/-- The request the handler would take now: the oldest, once start-up is complete (R208), when the output queue has the
places it needs and no SAVE response is held (R163). -/
def State.takeable (s : State) : Option Request :=
  match s.link.requests with
  | [] => none
  | r :: _ =>
    if s.running && s.link.heldSave.isNone &&
        decide (s.link.output.length + placesNeeded (RequestName.ofCode r.code) ≤ Config.outputPlaces)
    then some r else none

/-- The oldest request leaves the request queue (R162). -/
def State.dropRequest (s : State) : State := s.setLink { s.link with requests := s.link.requests.tail }

/-- A judged request is answered: its response joins the output queue, then the notices it brings about are offered (R163). -/
def Reply.finish (r : Reply) (q : Request) : State :=
  let s := if r.answered then r.state.offerResponse (responseFrames q.tag q.code r.result r.data r.tied) else r.state
  r.notices.foldl State.offerNotice s

/-- The handler takes a request of the name given: code, length, then the request's own checks (R163). -/
def State.take (s : State) (name : RequestName) (judge : Request → State → Reply) : State :=
  match s.takeable with
  | none => s
  | some q =>
    if RequestName.ofCode q.code = some name then
      let s := s.dropRequest
      if name.lengthOk q.params then (judge q s).finish q else (Reply.refuse s .badLength).finish q
    else s

/-- REQUEST_UNKNOWN_CODE: the oldest request's code is not in the catalogue; it is taken and answered UNKNOWN (R163). -/
def execRequestUnknownCode (s : State) : Host.Outcome State Fault Refusal :=
  match s.takeable with
  | none => .next s
  | some q =>
    if RequestName.ofCode q.code = none then .next ((Reply.refuse s.dropRequest .unknown).finish q) else .next s

end Sys2Proof.Machine
end

