-- ==== Sys2Proof/Machine/Ports.lean ====
section
/-! DEFINITION. Machine/Ports: the two sensor ports: bytes, frames, the receive FIFO, the pace latch, the port requests
(02_sensor_ports.md). -/

namespace Sys2Proof.Machine

/-! ### Sample frames (R24, 9.12) -/

/-- The fields of a frame's body: bits 7 to 4 of the first byte are the source address, bit 3 overrange, bit 2 digitizer
fault; then the tick sequence; then the value, most significant byte first (R24, 9.12). -/
def sampleFields (body : List Byte) (check : CheckState) : FifoEntry where
  source := (byteAt body 0).extractLsb' 4 4
  overrange := (byteAt body 0).getLsbD 3
  digitizer := (byteAt body 0).getLsbD 2
  sequence := byteAt body 1
  value := intAt body 2 3
  check := check

/-- The CRC-8 over the five bytes after the sync byte agrees with the sixth (R24). -/
def sampleGood (body : List Byte) : Bool := crc8 (body.take 5) == byteAt body 5

/-- An entry joins the young end; a count at or above the threshold sets the pace latch (R26, R32). -/
def SensorPort.enter (p : SensorPort) (e : FifoEntry) : SensorPort :=
  { p with
    fifo := p.fifo ++ [e]
    paceLatch := p.paceLatch || decide (p.settings.threshold ≤ p.fifo.length + 1) }

/-- The oldest entry leaves; a FIFO that becomes empty clears the pace latch (R26, R32). -/
def SensorPort.takeOldest (p : SensorPort) : SensorPort :=
  { p with
    fifo := p.fifo.tail
    paceLatch := p.paceLatch && !p.fifo.tail.isEmpty }

/-- FRAME_CHECK is raised with the port as object and the source address as detail, stamped with the latest tick (R27). -/
def State.raiseFrameCheck (s : State) (p : Port) (e : FifoEntry) : State :=
  s.raiseFault ⟨.frameCheck, .port p, s.lastTick.second, s.lastTick.index, .source e.source⟩

/-- The held error of a halt: the fields as received, the second in progress and the index of the latest tick (R28). -/
def State.haltError (s : State) (e : FifoEntry) : HeldError :=
  ⟨e.source, e.sequence, e.overrange, e.digitizer, s.tb.second, s.lastTick.index⟩

/-- A bad frame under STOP halts the port (R28): the count and the fault first, then the BAD entry, the state, the held
error, the condition, and the PORT notice. -/
def State.haltPort (s : State) (p : Port) (e : FifoEntry) : State :=
  let s := (s.count (.checkErrors p)).raiseFrameCheck p e
  let held := s.haltError e
  let port := { (s.port p).enter e with mode := .halted, heldError := some held }
  let s := (s.setPort p port).setCondition (haltedCondition p)
  s.offerNotice (.port p .halted .active .halted port.fifo.length (some held))

/-- A frame arrives: judged while the port is ACTIVE by the first case of R27 that applies, discarded otherwise (R29). -/
def State.frameArrives (s : State) (p : Port) (body : List Byte) : State :=
  let port := s.port p
  if port.mode ≠ .active then s
  else if Config.fifoPlaces ≤ port.fifo.length then
    (s.count (.overflow p)).setCondition (overflowCondition p)
  else if sampleGood body then s.setPort p (port.enter (sampleFields body .good))
  else
    match port.settings.policy with
    | .skip => (s.count (.checkErrors p)).raiseFrameCheck p (sampleFields body .bad)
    | .stop => s.haltPort p (sampleFields body .bad)

/-- A byte is received at a port: the sync byte begins a frame in HUNT; in COLLECT it is one more body byte, and the sixth
makes the frame arrive (R23). -/
def State.portByte (s : State) (p : Port) (b : Byte) : State :=
  let port := s.port p
  match port.framing with
  | .hunt =>
    if b = Config.portSync then
      s.setPort p { port with framing := .collect [], lastByteAt := s.tb.clock }
    else s
  | .collect body =>
    if body.length + 1 < Config.portBodyBytes then
      s.setPort p { port with framing := .collect (body ++ [b]), lastByteAt := s.tb.clock }
    else
      (s.setPort p { port with framing := .hunt, lastByteAt := s.tb.clock }).frameArrives p (body ++ [b])

/-- A byte is received while the device is powered (R23). -/
def State.onPortByte (s : State) (p : Port) (b : Byte) (elapsed : Nat) : State :=
  if s.phase = .off then s else (s.elapse elapsed).portByte p b

/-- SAMPLE_FRAME_BYTE: a byte received at a sensor port (R23). -/
def execSampleFrameByte (p : Port) (b : Byte) (elapsed : Nat) (s : State) : Host.Outcome State Fault Refusal :=
  .next (s.onPortByte p b elapsed)

/-- SAMPLE_FRAME_ARRIVAL: the byte that completes a sample frame, the sixth of its body (R23, R27; log 5). -/
def execSampleFrameArrival (p : Port) (b : Byte) (elapsed : Nat) (s : State) : Host.Outcome State Fault Refusal :=
  .next (s.onPortByte p b elapsed)

/-- FRAME_ABANDON: more than 20,000 periods have passed since the last byte of a frame in COLLECT; FRAGMENTS is counted
while the port is ACTIVE (R23, R38; log 17). -/
def execFrameAbandon (p : Port) (s : State) : Host.Outcome State Fault Refusal :=
  if s.phase = .off then .next s
  else
    match (s.port p).framing with
    | .hunt => .next s
    | .collect _ =>
      let s := s.elapseTo ((s.port p).lastByteAt + Config.portGap + 1)
      let s := s.setPort p { s.port p with framing := .hunt }
      if (s.port p).mode = .active then .next (s.count (.fragments p)) else .next s

/-! ### Port requests (R33 to R36) -/

/-- PORT_ENABLE's effect on a port that is not HALTED: ACTIVE or DISABLED with the flag to match (R33). -/
def SensorPort.enable (p : SensorPort) (on : Bool) : SensorPort :=
  { p with mode := if on then .active else .disabled, settings := { p.settings with enabled := on } }

/-- The judgement of PORT_ENABLE (R33): a port, and a setting listed on, off (log 11). -/
def judgePortEnable (q : Request) (s : State) : Reply :=
  match choiceAt portChoice (byteAt q.params 0), choiceAt boolChoice (byteAt q.params 1) with
  | some p, some on =>
    if (s.port p).mode = .halted then Reply.refuse s .conflict
    else Reply.ok (s.setPort p ((s.port p).enable on)).touchSettings []
  | some _, none => Reply.refuse s .range
  | none, some _ => Reply.refuse s .range
  | none, none => Reply.refuse s .range

/-- PORT_ENABLE (R33). -/
def execPortEnable (s : State) : Host.Outcome State Fault Refusal := .next (s.take .portEnable judgePortEnable)

/-- A pace threshold: 8, 16 or 24 (R35). -/
def thresholdOk (n : Nat) : Bool := n == 8 || n == 16 || n == 24

/-- PORT_SET's effect: threshold and policy; a threshold at or below the count sets the latch (R35). -/
def SensorPort.set (p : SensorPort) (threshold : Nat) (policy : Policy) : SensorPort :=
  { p with
    settings := { p.settings with threshold := threshold, policy := policy }
    paceLatch := p.paceLatch || decide (threshold ≤ p.fifo.length) }

/-- The judgement of PORT_SET (R35). -/
def judgePortSet (q : Request) (s : State) : Reply :=
  match choiceAt portChoice (byteAt q.params 0), choiceAt policyChoice (byteAt q.params 2) with
  | some p, some policy =>
    if thresholdOk (natAt q.params 1 1) then
      Reply.ok (s.setPort p ((s.port p).set (natAt q.params 1 1) policy)).touchSettings []
    else Reply.refuse s .range
  | some _, none => Reply.refuse s .range
  | none, some _ => Reply.refuse s .range
  | none, none => Reply.refuse s .range

/-- PORT_SET (R35). -/
def execPortSet (s : State) : Host.Outcome State Fault Refusal := .next (s.take .portSet judgePortSet)

/-- PORT_RESET's effect on a port: FIFO emptied, latch cleared, held error absent, DISABLED, flag off (R36). -/
def SensorPort.reset (p : SensorPort) : SensorPort :=
  { p with
    fifo := []
    paceLatch := false
    heldError := none
    mode := .disabled
    settings := { p.settings with enabled := false } }

/-- The judgement of PORT_RESET: a PORT notice with cause RESET follows the response when the port was HALTED (R36, R37). -/
def judgePortReset (q : Request) (s : State) : Reply :=
  match choiceAt portChoice (byteAt q.params 0) with
  | some p =>
    let notices : List Notice :=
      if (s.port p).mode = .halted then [.port p .reset .halted .disabled 0 none] else []
    { Reply.ok (s.setPort p (s.port p).reset).touchSettings [] with notices := notices }
  | none => Reply.refuse s .range

/-- PORT_RESET (R36). -/
def execPortReset (s : State) : Host.Outcome State Fault Refusal := .next (s.take .portReset judgePortReset)

/-! ### First mark and restart -/

/-- The port state by the working enable flag, at the first mark and at a restart (R25, R39). -/
def SensorPort.byFlag (p : SensorPort) : SensorPort :=
  { p with mode := if p.settings.enabled then .active else .disabled }

/-- A command restart: FIFO emptied, latch cleared, held error absent, state by the flag; framing kept (R40). -/
def SensorPort.restart (p : SensorPort) : SensorPort :=
  { p with fifo := [], paceLatch := false, heldError := none }.byFlag

end Sys2Proof.Machine
end

