-- ==== Sys2Proof/Machine/Assembly.lean ====
section
/-! DEFINITION. Machine/Assembly: tick issue, the open set and the close queue, takes and matching, revalidation
(03_sample_assembly.md). -/

namespace Sys2Proof.Machine

/-! ### Tick issue (R4, R5, R42, R50) -/

/-- A newly opened tick: every slot EMPTY (R41). -/
def OpenTick.fresh (id : TickId) : OpenTick := ⟨id, Vector.replicate 16 .empty⟩

/-- At most n of the youngest members of a list. -/
def lastN {α : Type} (n : Nat) (l : List α) : List α := l.drop (l.length - n)

/-- An issued tick joins the open set; when that held D_a ticks, its oldest joins the close queue (R42). -/
def Assembler.issue (a : Assembler) (depth : Nat) (id : TickId) : Assembler :=
  let a := { a with issued := lastN 4 (a.issued ++ [id]) }
  match a.openSet with
  | [] => { a with openSet := [OpenTick.fresh id] }
  | oldest :: rest =>
    if depth ≤ a.openSet.length then
      { a with openSet := rest ++ [OpenTick.fresh id], closeQueue := a.closeQueue ++ [oldest] }
    else { a with openSet := a.openSet ++ [OpenTick.fresh id] }

/-- The tick at the head of the close queue begins its close when none is in progress: it fixes its configuration in force
(R50), its generation (R117), its mark count (R76), and whether a pending clear waits for it (R111). -/
def State.beginClose (s : State) : State :=
  match s.asm.closing, s.asm.closeQueue with
  | none, _ :: _ =>
    s.setAsm { s.asm with
      closing := some ⟨s.staging.active, s.staging.generation, s.tb.markCount,
        #v[s.screens[0].pendingClear, s.screens[1].pendingClear], s.tb.clock⟩ }
  | none, [] => s
  | some _, _ => s

/-- The length of a tick's strobe pulse: long at a multiple of 256 (R5). -/
def strobeLength (count : Num32) : Nat :=
  if count.toNat % 256 = 0 then Config.longStrobePulse else Config.strobePulse

/-- STROBE is asserted from now; with a pulse still running it is released at the later of the two ends (R5). -/
def strobeEnd (running : Option Nat) (finish : Nat) : Nat :=
  match running with
  | none => finish
  | some t => max t finish

/-- The next tick of the second in progress is issued: the tick count advances, STROBE is asserted, the tick opens, and the
oldest open tick may move to the close queue and begin its close (R4, R5, R42, R50). -/
def State.issueTick (s : State) : State :=
  let count := s.tb.tickCount + 1
  let id : TickId := ⟨count, s.tb.nextIndex, s.tb.second⟩
  let s := s.setTb { s.tb with
    tickCount := count
    nextIndex := s.tb.nextIndex + 1
    tick0 := if s.tb.nextIndex = 0 then count else s.tb.tick0
    strobeUntil := some (strobeEnd s.tb.strobeUntil (s.tb.clock + strobeLength count)) }
  (s.setAsm (s.asm.issue s.tb.depth id)).beginClose

/-! ### Takes and matching (R45 to R48) -/

/-- The port served next: the one the pointer does not name when both hold entries, else the one that does (R45). -/
def State.nextServed (s : State) : Option Port :=
  match s.portA.fifo, s.portB.fifo with
  | [], [] => none
  | _ :: _, [] => some .a
  | [], _ :: _ => some .b
  | _ :: _, _ :: _ =>
    match s.asm.lastServed with
    | .a => some .b
    | .b => some .a

/-- The enabled channel that claims a port and source address (R46). -/
def Configuration.claimant (c : Configuration) (p : Port) (source : BitVec 4) : Option (Fin 16) :=
  allChannels.find? fun n => (c.channels[n]).enabled && (c.channels[n]).port == p && (c.channels[n]).source == source

/-- The open tick whose count has the tick sequence as its low 8 bits (R46). -/
def findOpenTick (open_ : List OpenTick) (sequence : Byte) : Option OpenTick :=
  open_.find? fun t => t.id.count.truncate 8 == sequence

/-- What a frame fills its slot with (R48). -/
def FifoEntry.slot (e : FifoEntry) (p : Port) : Slot :=
  if e.overrange || e.digitizer then .missing e.overrange e.digitizer p e.source else .filled e.value p e.source

/-- The slot table of one open tick changed. -/
def fileSlot (open_ : List OpenTick) (count : Num32) (n : Fin 16) (slot : Slot) : List OpenTick :=
  match open_ with
  | [] => []
  | t :: rest =>
    if t.id.count = count then { t with slots := t.slots.set n slot } :: rest
    else t :: fileSlot rest count n slot

/-- A kind that is sampled once a second, at tick index 0 (R47). -/
def Kind.oncePerSecond : Kind → Bool
  | .axis => false
  | .scalar => true
  | .temperature => true

/-- A GOOD entry is matched by the four tests in their order; the first that fails drops it and counts (R46 to R48). -/
def State.matchEntry (s : State) (p : Port) (e : FifoEntry) : State :=
  match s.staging.active.claimant p e.source with
  | none => s.count .unclaimed
  | some n =>
    match findOpenTick s.asm.openSet e.sequence with
    | none => s.count .late
    | some t =>
      if ((s.staging.active.channels[n]).kind).oncePerSecond && t.id.index != 0 then s.count .unexpected
      else if t.slots[n] ≠ .empty then s.count .duplicate
      else s.setAsm { s.asm with openSet := fileSlot s.asm.openSet t.id.count n (e.slot p) }

/-- The oldest entry of a port's FIFO is taken, and the pointer names that port; a BAD entry is discarded, a GOOD one
matched (R30, R45). -/
def State.takeEntry (s : State) (p : Port) : State :=
  match (s.port p).fifo with
  | [] => s
  | e :: _ =>
    let s := s.setPort p (s.port p).takeOldest
    let s := s.setAsm { s.asm with lastServed := p }
    match e.check with
    | .bad => s
    | .good => s.matchEntry p e

/-- ENTRY_TAKE: with no close in progress or waiting, one entry is taken (R43, R45). -/
def execEntryTake (s : State) : Host.Outcome State Fault Refusal :=
  match s.asm.closeQueue, s.nextServed with
  | [], some p => .next (s.takeEntry p)
  | [], none => .next s
  | _ :: _, _ => .next s

/-! ### Revalidation (R51) -/

/-- What revalidation does to one slot: what stands, or the counter of its emptying (R51). -/
def revalidateSlot (d : ChannelDescriptor) (index : Nat) (slot : Slot) : Option Counter :=
  let judge (p : Port) (source : BitVec 4) : Option Counter :=
    if !d.enabled || d.port != p || d.source != source then some .unclaimed
    else if d.kind.oncePerSecond && index != 0 then some .unexpected
    else none
  match slot with
  | .empty => none
  | .filled _ p source => judge p source
  | .missing _ _ p source => judge p source

/-- One slot of the closing tick revalidated against the configuration in force (R51). -/
def revalidateStep (c : Configuration) (index : Nat) (acc : State × Vector Slot 16) (n : Fin 16) :
    State × Vector Slot 16 :=
  match revalidateSlot (c.channels[n]) index (acc.2[n]) with
  | none => acc
  | some counter => (acc.1.count counter, acc.2.set n .empty)

/-- Every slot of the closing tick revalidated (R51). -/
def State.revalidate (s : State) (c : Configuration) (t : OpenTick) : State × Vector Slot 16 :=
  allChannels.foldl (revalidateStep c t.id.index) (s, t.slots)

/-! ### Restart (R56) -/

/-- A command restart, before its tick 0: closes and waiting ticks dropped, pointer B, and the open set the D_a − 1 ticks
issued last, their slots EMPTY, which the restart mark's tick 0 completes (R56; log 16). -/
def Assembler.restart (a : Assembler) (depth : Nat) : Assembler where
  openSet := (lastN (depth - 1) a.issued).map OpenTick.fresh
  closeQueue := []
  closing := none
  lastServed := .b
  issued := a.issued

end Sys2Proof.Machine
end

