-- ==== Sys2Proof/Machine/Correction.lean ====
section
/-! DEFINITION. Machine/Correction: the channel corrector: stage A, held temperatures, stage B, last good corrections
(05_scaling_and_temperature_correction.md). -/

namespace Sys2Proof.Machine

/-! ### Stage A (R77, R78) -/

/-- Stage A: counts times K, divided by 2^16 with the channel's mode, plus the stage-A offset (R77). -/
def ChannelDescriptor.stageA (d : ChannelDescriptor) (counts : Int) : Int :=
  divRound d.mode (counts * d.scale) 65536 + d.offset

/-- Stage A of a TEMPERATURE channel: its value saturated to −32,768 .. +32,767, with whether it was outside (R78). -/
def ChannelDescriptor.stageATemperature (d : ChannelDescriptor) (counts : Int) : Int × Bool :=
  (clampInt (-32768) 32767 (d.stageA counts), outside (-32768) 32767 (d.stageA counts))

/-! ### Placement and lookup (R83 to R87) -/

/-- Where a temperature falls in a segment: the entry index i, the remainder r, and whether the lookup is clamped. -/
structure Placement where
  index : Nat
  rem : Nat
  clamped : Bool
  deriving DecidableEq, Repr

/-- The distance of T from T0 in the segment's direction: positive towards the far end (R83, R84). -/
def Segment.distance (g : Segment) (t : Int) : Int :=
  match g.direction with
  | .ascending => t - g.start
  | .descending => g.start - t

/-- The placement of a held value (R83, R84): within the covered range i = distance div ΔT and r = distance mod ΔT; outside
it the end entry alone, clamped. -/
def Segment.place (g : Segment) (t : Int) : Placement :=
  let x := g.distance t
  if x < 0 then ⟨0, 0, true⟩
  else if (((g.length - 1) * g.step : Nat) : Int) < x then ⟨g.length - 1, 0, true⟩
  else ⟨x.toNat / g.step, x.toNat % g.step, false⟩

/-- The addresses a lookup uses: entries i and i + 1 when i ≤ n − 2 and the lookup is not clamped, else entry i alone (R86). -/
def Segment.addresses (g : Segment) (p : Placement) : List Nat :=
  if p.clamped || decide (g.length ≤ p.index + 1) then [g.base + p.index]
  else [g.base + p.index, g.base + p.index + 1]

/-- The result of a lookup: an offset and a gain, or the address of the lowest BAD entry used (R87, R89). -/
inductive Lookup where
  | good (offset gain : Int)
  | bad (address : Nat)
  deriving DecidableEq, Repr

/-- The lowest address of the list whose entry is BAD (R89; the addresses ascend). -/
def Store.firstBad (st : Store) (l : List Nat) : Option Nat := l.find? fun a => (st.read a).check == .bad

/-- The straight line between two neighbouring entries' values: first + (second − first) · r / ΔT (R87). -/
def interpolate (mode : Rounding) (first second : Int) (r step : Nat) : Int :=
  first + divRound mode ((second - first) * r) step

/-- A lookup in the store: the entries used are checked, then interpolated or taken alone (R86, R87, R89). -/
def Store.lookup (st : Store) (g : Segment) (mode : Rounding) (p : Placement) : Lookup :=
  match st.firstBad (g.addresses p) with
  | some a => .bad a
  | none =>
    let e := st.read (g.base + p.index)
    match g.addresses p with
    | [_, b] =>
      let f := st.read b
      .good (interpolate mode e.offset f.offset p.rem g.step) (interpolate mode e.gain f.gain p.rem g.step)
    | _ => .good e.offset e.gain

/-- Stage B's result: v1, plus v1 · g / 2^24 with the channel's mode, plus o (R88). -/
def applyCorrection (mode : Rounding) (v1 offset gain : Int) : Int :=
  v1 + divRound mode (v1 * gain) 16777216 + offset

/-! ### Records that belong to a descriptor (R80, R81, R90) -/

/-- A held temperature still belongs to the descriptor in force: an enabled TEMPERATURE channel whose enabled, kind, port,
source address, K, offset and rounding mode are those of the stamping close (R80). -/
def HeldTemperature.belongs (h : HeldTemperature) (d : ChannelDescriptor) : Bool :=
  d.enabled && d.kind == .temperature && d.enabled == h.descriptor.enabled && d.kind == h.descriptor.kind &&
    d.port == h.descriptor.port && d.source == h.descriptor.source && d.scale == h.descriptor.scale &&
    d.offset == h.descriptor.offset && d.mode == h.descriptor.mode

/-- A last good correction still belongs to the descriptor in force: enabled, with the same segment and source (R90). -/
def LastGood.belongs (g : LastGood) (d : ChannelDescriptor) : Bool :=
  d.enabled && d.segment == some g.segment && d.tempSource == some g.source

/-- A held temperature that no longer belongs is made absent (R80). -/
def keepHeld (d : ChannelDescriptor) (h : Option HeldTemperature) : Option HeldTemperature :=
  match h with
  | some r => if r.belongs d then some r else none
  | none => none

/-- A last good correction that no longer belongs is made absent (R90). -/
def keepLastGood (d : ChannelDescriptor) (g : Option LastGood) : Option LastGood :=
  match g with
  | some r => if r.belongs d then some r else none
  | none => none

/-- The corrector's records at the start of the channel correction step of a close (R80, R90). -/
def Corrector.keep (k : Corrector) (c : Configuration) : Corrector where
  held := Vector.ofFn fun n => keepHeld (c.channels[n]) (k.held[n])
  lastGood := Vector.ofFn fun n => keepLastGood (c.channels[n]) (k.lastGood[n])

/-- The age of a held temperature at a close: marks since its stamp, modulo 2^32 (R81). -/
def HeldTemperature.age (h : HeldTemperature) (markCount : Num32) : Nat := (markCount - h.stamp).toNat

/-- A held temperature is stale when its age exceeds the limit of its TEMPERATURE channel (R81). -/
def HeldTemperature.stale (h : HeldTemperature) (markCount : Num32) (limit : Option Nat) : Bool :=
  match limit with
  | some n => decide (n < h.age markCount)
  | none => false

/-! ### The correction of one channel -/

/-- What correcting one channel carries along: the state, and the corrected samples so far. -/
structure Correcting where
  state : State
  samples : Vector CorrectedSample 16

/-- An absent sample without flags: an EMPTY slot (R76). -/
def CorrectedSample.absent : CorrectedSample := ⟨none, 0⟩

/-- First pass, one channel: stage A of a FILLED TEMPERATURE slot, its saturation fault, and the held temperature stamped
with the mark count of the close; a MISSING slot is absent with its flags (R76, R78, R79). -/
def temperatureStep (cc : CloseContext) (t : OpenTick) (slots : Vector Slot 16) (acc : Correcting) (n : Fin 16) :
    Correcting :=
  let d := cc.config.channels[n]
  if d.enabled && d.kind == .temperature then
    match slots[n] with
    | .empty => acc
    | .missing o f _ _ => { acc with samples := acc.samples.set n ⟨none, missingFlags o f⟩ }
    | .filled counts _ _ =>
      let (v, sat) := d.stageATemperature counts
      let s := acc.state
      let s := if sat then s.raiseFault ⟨.saturation, .channel n, t.id.second, t.id.index, .none⟩ else s
      let s := s.setCorr { s.corr with held := s.corr.held.set n (some ⟨v, cc.markCount, d⟩) }
      ⟨s, acc.samples.set n ⟨some v, DataFlag.saturated.on sat⟩⟩
  else acc

/-- TABLE_CLAMP is raised for a channel with the held value as detail (R85). -/
def State.raiseTableClamp (s : State) (n : Fin 16) (tick : TickId) (held : Int) : State :=
  s.raiseFault ⟨.tableClamp, .channel n, tick.second, tick.index, .temperature held⟩

/-- A failed lookup: STORE_ERRORS is counted once and STORE_ERROR raised with the lowest BAD address (R89). -/
def State.raiseStoreError (s : State) (n : Fin 16) (tick : TickId) (address : Nat) : State :=
  (s.count .storeErrors).raiseFault ⟨.storeError, .channel n, tick.second, tick.index, .address address⟩

/-- The offset and gain of the last good correction, or 0 and 0 when it is absent (R89). -/
def fallback (g : Option LastGood) : Int × Int :=
  match g with
  | some r => (r.offset, r.gain)
  | none => (0, 0)

/-- Stage B of one FILLED field channel with a temperature source and a segment (R82 to R90): TEMP_ABSENT without a held
temperature; else the lookup, its clamp and its fallback. Gives the state, the corrected value and the flags. -/
def State.stageB (s : State) (cc : CloseContext) (tick : TickId) (n : Fin 16) (source : Fin 16) (g : Segment)
    (v1 : Int) : State × Int × DataFlags :=
  let mode := (cc.config.channels[n]).mode
  match s.corr.held[source] with
  | none => (s, applyCorrection mode v1 0 0, DataFlag.tempAbsent.mask)
  | some h =>
    let stale := DataFlag.tempStale.on (h.stale cc.markCount (cc.config.channels[source]).staleness)
    let p := g.place h.value
    let s := if p.clamped then s.raiseTableClamp n tick h.value else s
    let clamp := DataFlag.tableClamp.on p.clamped
    match s.store.lookup g mode p with
    | .good o gain =>
      let s := s.setCorr { s.corr with lastGood := s.corr.lastGood.set n (some ⟨o, gain, g, source⟩) }
      (s, applyCorrection mode v1 o gain, stale ||| clamp)
    | .bad a =>
      let (o, gain) := fallback (s.corr.lastGood[n])
      (s.raiseStoreError n tick a, applyCorrection mode v1 o gain, stale ||| clamp ||| DataFlag.storeError.mask)

/-- Second pass, one channel: stage A of a FILLED field slot, then stage B when the descriptor holds both a temperature
source and a segment (R52, R77, R82). -/
def fieldStep (cc : CloseContext) (t : OpenTick) (slots : Vector Slot 16) (acc : Correcting) (n : Fin 16) :
    Correcting :=
  let d := cc.config.channels[n]
  if d.enabled && d.kind != .temperature then
    match slots[n] with
    | .empty => acc
    | .missing o f _ _ => { acc with samples := acc.samples.set n ⟨none, missingFlags o f⟩ }
    | .filled counts _ _ =>
      let v1 := d.stageA counts
      match d.tempSource, d.segment with
      | some source, some g =>
        let (s, v2, flags) := acc.state.stageB cc t.id n source g v1
        ⟨s, acc.samples.set n ⟨some v2, flags⟩⟩
      | some _, none => { acc with samples := acc.samples.set n ⟨some v1, 0⟩ }
      | none, some _ => { acc with samples := acc.samples.set n ⟨some v1, 0⟩ }
      | none, none => { acc with samples := acc.samples.set n ⟨some v1, 0⟩ }
  else acc

/-- The channel correction step of a close: the records that no longer belong are cleared, then TEMPERATURE channels, then
SCALAR and AXIS channels, each in ascending number (R52, R76, R80, R90). -/
def State.correct (s : State) (cc : CloseContext) (t : OpenTick) (slots : Vector Slot 16) : Correcting :=
  let s := s.setCorr (s.corr.keep cc.config)
  let start : Correcting := ⟨s, Vector.replicate 16 CorrectedSample.absent⟩
  let first := allChannels.foldl (temperatureStep cc t slots) start
  allChannels.foldl (fieldStep cc t slots) first

end Sys2Proof.Machine
end

