-- ==== Sys2Proof/Machine/Combiner.lean ====
section
/-! DEFINITION. Machine/Combiner: the triad combiner: stage C, the spike screen of stage D, and its clears
(06_vector_triads_and_spike_screening.md). -/

namespace Sys2Proof.Machine

/-! ### Stage C (R97 to R100) -/

/-- One output component before saturation: the exact sum of the row by the inputs, divided by 2^22 with the triad's mode,
plus the offset component (R98). -/
def stageCComponent (mode : Rounding) (row : Vec3) (offset : Int) (v : Vec3) : Int :=
  divRound mode (row.x * v.x + row.y * v.y + row.z * v.z) 4194304 + offset

/-- The triad's vector before saturation (R98). -/
def TriadDescriptor.stageC (d : TriadDescriptor) (v : Vec3) : Vec3 :=
  ⟨stageCComponent d.mode d.rowX d.offset.x v, stageCComponent d.mode d.rowY d.offset.y v,
   stageCComponent d.mode d.rowZ d.offset.z v⟩

/-- A component held to the signed 32-bit range (R99). -/
def saturate32 (v : Int) : Int := clampInt (-2147483648) 2147483647 v

/-- A component lies outside the signed 32-bit range (R99). -/
def outside32 (v : Int) : Bool := outside (-2147483648) 2147483647 v

/-- Each component saturated (R99). -/
def Vec3.saturate (v : Vec3) : Vec3 := ⟨saturate32 v.x, saturate32 v.y, saturate32 v.z⟩

/-- The components that saturate, in the order X, Y, Z (R99). -/
def Vec3.saturated (v : Vec3) : List (Fin 3) :=
  (if outside32 v.x then [0] else []) ++ (if outside32 v.y then [1] else []) ++ (if outside32 v.z then [2] else [])

/-- A saturated component counts SATURATIONS and raises SATURATION with the triad as object (R99). -/
def State.raiseSaturation (tick : TickId) (k : Fin 2) (s : State) (component : Fin 3) : State :=
  (s.count (.saturations k)).raiseFault ⟨.saturation, .triad k, tick.second, tick.index, .component component⟩

/-- The gap of a tick without all three axis values: AXIS_GAP with the OVERRANGE and DIGITIZER flags of the absent ones (R97). -/
def axisGapFlags (x y z : CorrectedSample) : DataFlags :=
  let absent (c : CorrectedSample) : DataFlags := if c.value.isNone then c.flags &&& DataFlags.missing else 0
  DataFlag.axisGap.mask ||| absent x ||| absent y ||| absent z

/-- Stage C of a triad for one tick: its vector with the flags of its axis samples, or a gap (R97 to R100). -/
def State.combine (s : State) (d : TriadDescriptor) (k : Fin 2) (tick : TickId) (samples : Vector CorrectedSample 16) :
    State × TickOutcome :=
  let x := samples[d.axes.x]
  let y := samples[d.axes.y]
  let z := samples[d.axes.z]
  match x.value, y.value, z.value with
  | some vx, some vy, some vz =>
    let raw := d.stageC ⟨vx, vy, vz⟩
    let flags := x.flags ||| y.flags ||| z.flags ||| DataFlag.saturated.on (!raw.saturated.isEmpty)
    (raw.saturated.foldl (State.raiseSaturation tick k) s, ⟨some raw.saturate, flags⟩)
  | _, _, _ => (s, ⟨none, axisGapFlags x y z⟩)

/-! ### Stage D (R101 to R109) -/

/-- What one close of stage D does: the screen it leaves, the decisions it hands on in tick order, the spikes it counts,
whether it confirms a field step, and whether it reseeds. -/
structure Screened where
  screen : Screen
  decisions : List Decision
  spikes : Nat
  stepped : Bool
  reseeded : Bool
  deriving DecidableEq, Repr

/-- A distance beyond L: a distance equal to L is within (R101). -/
def beyond (limit : Nat) (a b : Vec3) : Bool := decide (limit < a.distance b)

/-- The gap of a rejected suspect: SPIKE with the suspect's own flags (R105). -/
def Suspect.spike (p : Suspect) : Decision := ⟨p.tick, ⟨none, p.flags ||| DataFlag.spike.mask⟩⟩

/-- An accepted vector with its flags. -/
def accepted (tick : TickId) (v : Vec3) (flags : DataFlags) : Decision := ⟨tick, ⟨some v, flags⟩⟩

/-- State CLEAR after an acceptance: the vector is the reference and n is 0. -/
def Screen.acceptedAs (sc : Screen) (v : Vec3) : Screen := { sc with reference := some v, suspect := none, run := 0 }

/-- State CLEAR, screen on or off (R102, R103). -/
def Screen.clearStep (sc : Screen) (limit : Nat) (tick : TickId) (o : TickOutcome) : Screened :=
  match o.vector with
  | none => ⟨sc, [⟨tick, o⟩], 0, false, false⟩
  | some v =>
    let far : Bool :=
      match sc.reference with
      | none => false
      | some r => limit != 0 && beyond limit v r
    if far then ⟨{ sc with suspect := some ⟨v, o.flags, tick⟩ }, [], 0, false, false⟩
    else ⟨sc.acceptedAs v, [accepted tick v o.flags], 0, false, false⟩

/-- State SUSPECT with L = 0: the suspect is accepted without STEP, then the tick's own outcome as in CLEAR (R102). -/
def Screen.releaseStep (sc : Screen) (p : Suspect) (tick : TickId) (o : TickOutcome) : Screened :=
  let r := (sc.acceptedAs p.vector).clearStep 0 tick o
  { r with decisions := accepted p.tick p.vector p.flags :: r.decisions }

/-- State SUSPECT with L > 0 and a gap: the suspect is a spike, then the gap; n advances, stopping at 3 (R108). -/
def Screen.suspectGap (sc : Screen) (p : Suspect) (tick : TickId) (o : TickOutcome) : Screened :=
  ⟨{ sc with suspect := none, run := min 3 (sc.run + 1) }, [p.spike, ⟨tick, o⟩], 1, false, false⟩

/-- State SUSPECT with L > 0 and a vector: a return (R105), a step (R104), or neither level (R106), which reseeds when n
reaches 3 (R107). The return is tested first. An absent reference, which no run reaches in SUSPECT, counts as beyond. -/
def Screen.suspectVector (sc : Screen) (p : Suspect) (limit : Nat) (tick : TickId) (v : Vec3) (flags : DataFlags) :
    Screened :=
  let returned : Bool :=
    match sc.reference with
    | none => false
    | some r => !beyond limit v r
  if returned then ⟨sc.acceptedAs v, [p.spike, accepted tick v flags], 1, false, false⟩
  else if !beyond limit v p.vector then
    ⟨sc.acceptedAs v,
     [accepted p.tick p.vector (p.flags ||| DataFlag.step.mask), accepted tick v (flags ||| DataFlag.step.mask)],
     0, true, false⟩
  else if min 3 (sc.run + 1) < 3 then
    ⟨{ sc with suspect := some ⟨v, flags, tick⟩, run := min 3 (sc.run + 1) }, [p.spike], 1, false, false⟩
  else
    ⟨sc.acceptedAs v, [p.spike, accepted tick v (flags ||| DataFlag.reseed.mask)], 1, false, true⟩

/-- Stage D at one close of an enabled triad: the first of R102 to R108 that fits (R101). -/
def Screen.stageD (sc : Screen) (limit : Nat) (tick : TickId) (o : TickOutcome) : Screened :=
  match sc.suspect with
  | none => sc.clearStep limit tick o
  | some p =>
    if limit = 0 then sc.releaseStep p tick o
    else
      match o.vector with
      | none => sc.suspectGap p tick o
      | some v => sc.suspectVector p limit tick v o.flags

/-! ### Clears (R110, R111) -/

/-- A clear: state CLEAR, reference absent, n = 0, no suspect (6.4). -/
def Screen.clear (sc : Screen) : Screen := { sc with reference := none, suspect := none, run := 0 }

/-- The screen's state was built under other axes, or the triad is disabled, so its histories go too (R110, R133). -/
def Screen.stranger (sc : Screen) (d : TriadDescriptor) : Bool :=
  !d.enabled || (match sc.binding with | some b => b != d.axes | none => false)

/-- The axis check at the start of the triad combination step (R110). -/
def Screen.axisCheck (sc : Screen) (d : TriadDescriptor) : Screen :=
  let sc := if sc.stranger d then sc.clear else sc
  { sc with binding := if d.enabled then some d.axes else none }

/-- The pending clear, when one waited as the close began (R111): a held suspect is a spike, and the screen is cleared. -/
def Screen.pendingClearStep (sc : Screen) (waiting : Bool) : Screened :=
  if waiting then
    match sc.suspect with
    | some p => ⟨{ sc.clear with pendingClear := false }, [p.spike], 1, false, false⟩
    | none => ⟨{ sc.clear with pendingClear := false }, [], 0, false, false⟩
  else ⟨sc, [], 0, false, false⟩

/-! ### The triad combination step -/

/-- A screen of the two, replaced. -/
def State.setScreen (s : State) (k : Fin 2) (sc : Screen) : State := s.setScreens (s.screens.set k sc)

/-- The counters and the fault of one stage D outcome (R104 to R107, R112). -/
def State.countScreened (s : State) (k : Fin 2) (tick : TickId) (r : Screened) : State :=
  let s := s.countBy (.spikes k) r.spikes
  let s := if r.stepped then s.count (.fieldSteps k) else s
  if r.reseeded then
    (s.count (.reseeds k)).raiseFault ⟨.reseed, .triad k, tick.second, tick.index, .none⟩
  else s

/-- What a triad's combination at one close hands on: the state and the triad's decisions in tick order. -/
structure Combined where
  state : State
  decisions : List Decision

/-- The axis check and the pending clear of one triad (R110, R111). A disabled triad's suspect was discarded before, so it
hands nothing. -/
def State.prepareTriad (s : State) (cc : CloseContext) (k : Fin 2) : Combined :=
  let checked := (s.screens[k]).axisCheck (cc.config.triads[k])
  let r := checked.pendingClearStep (cc.clears[k])
  ⟨(s.setScreen k r.screen).countBy (.spikes k) r.spikes, r.decisions⟩

/-- Stages C and D of one triad, when it is enabled (R97, R101, R109). -/
def State.runTriad (s : State) (cc : CloseContext) (k : Fin 2) (tick : TickId) (samples : Vector CorrectedSample 16) :
    Combined :=
  let d := cc.config.triads[k]
  if d.enabled then
    let (s, o) := s.combine d k tick samples
    let r := (s.screens[k]).stageD d.limit tick o
    ⟨(s.setScreen k r.screen).countScreened k tick r, r.decisions⟩
  else ⟨s, []⟩

/-- The step mark's pending clear is set for both triads (R111). -/
def Screen.awaitClear (sc : Screen) : Screen := { sc with pendingClear := true }

/-- The whole triad combination step of a close: both triads checked and cleared, then triad 0 and triad 1 run. Gives the
decisions of triad 0 and of triad 1 (R44, R109, R110, R111). -/
def State.combineTriads (s : State) (cc : CloseContext) (tick : TickId) (samples : Vector CorrectedSample 16) :
    State × List Decision × List Decision :=
  let p0 := s.prepareTriad cc 0
  let p1 := p0.state.prepareTriad cc 1
  let r0 := p1.state.runTriad cc 0 tick samples
  let r1 := r0.state.runTriad cc 1 tick samples
  (r1.state, p0.decisions ++ r0.decisions, p1.decisions ++ r1.decisions)

end Sys2Proof.Machine
end

