-- ==== Sys2Proof/Machine/Decimation.lean ====
section
/-! DEFINITION. Machine/Decimation: the decimator: pending seconds, histories, second and minute values, ΔF, records
(07_second_and_minute_values.md). -/

namespace Sys2Proof.Machine

/-- A list cut to its n youngest members (R117, R124, R127). -/
def joinHistory {α : Type} (n : Nat) (l : List α) (x : α) : List α := lastN n (l ++ [x])

/-! ### Filters and windows (R120, R141) -/

/-- The half-width (W − 1)/2 of a filter (R119). -/
def Filter.half (f : Filter) : Nat := (f.length - 1) / 2

/-- The weight of place i (R141). -/
def Filter.weight (f : Filter) (i : Nat) : Nat := if h : i < 127 then (f.places[i]).toNat else 0

/-- A window: for each place of the filter its weight and what the history holds there, if anything. -/
abbrev Window (α : Type) := List (Nat × Option α)

/-- The full weight Wt: the sum of all W weights (R120). -/
def Window.full {α : Type} (w : Window α) : Nat := (w.map Prod.fst).sum

/-- The present weight P: the sum of the weights of the present entries (R120). -/
def Window.presentWeight {α : Type} : Window α → Nat
  | [] => 0
  | (n, some _) :: rest => n + Window.presentWeight rest
  | (_, none) :: rest => Window.presentWeight rest

/-- The number of present entries, whatever their weight (R121). -/
def Window.used {α : Type} : Window α → Nat
  | [] => 0
  | (_, some _) :: rest => Window.used rest + 1
  | (_, none) :: rest => Window.used rest

/-- The sum of weight times value over the present entries (R120). -/
def Window.weighted {α : Type} (f : α → Int) : Window α → Int
  | [] => 0
  | (n, some x) :: rest => (n : Int) * f x + Window.weighted f rest
  | (_, none) :: rest => Window.weighted f rest

/-- The test of a value: P × 1,024 is at least Wt × q (R120). -/
def Window.passes {α : Type} (w : Window α) (q : Nat) : Bool := decide (w.full * q ≤ w.presentWeight * 1024)

/-- One component's weighted mean, divided by P with the mode named (R120). -/
def Window.mean {α : Type} (w : Window α) (mode : Rounding) (f : α → Int) : Int :=
  divRound mode (w.weighted f) w.presentWeight

/-- A window's vector: present when the test passes (R120). -/
def Window.vector (w : Window Vec3) (mode : Rounding) (q : Nat) : Option Vec3 :=
  if w.passes q then some ⟨w.mean mode Vec3.x, w.mean mode Vec3.y, w.mean mode Vec3.z⟩ else none

/-- A window's single value: present when the test passes (R120, R129). -/
def Window.value (w : Window Int) (mode : Rounding) (q : Nat) : Option Int :=
  if w.passes q then some (w.mean mode id) else none

/-- GAP when the value is absent, PARTIAL when it is present and P is less than Wt (R121). -/
def Window.shapeFlags {α : Type} (w : Window α) (q : Nat) : DataFlags :=
  if w.passes q then DataFlag.partialValue.on (decide (w.presentWeight < w.full)) else DataFlag.gap.mask

/-- The places of a filter's window, with what a lookup by place finds there. -/
def Filter.windowOf {α : Type} (f : Filter) (find : Nat → Option α) : List (Nat × Option α) :=
  (List.range f.length).map fun i => (f.weight i, find i)

/-! ### Triad second values (R120 to R123) -/

/-- The tick history entry of a tick (R117). -/
def findTick (l : List TickEntry) (count : Num32) : Option TickEntry := l.find? fun e => e.count == count

/-- The tick at place i of a second's window: t0 − h + i, modulo 2^32 (R120). -/
def windowTick (t0 : Num32) (h i : Nat) : Num32 := t0 - BitVec.ofNat 32 h + BitVec.ofNat 32 i

/-- The entries a list of places holds. -/
def entriesOf {α : Type} (w : List (Nat × Option α)) : List α := w.filterMap Prod.snd

/-- The window carries TIME_STEP: the step point is present and the window's first tick precedes it (R123). -/
def beforeStep (point : Option Num32) (first : Num32) : Bool :=
  match point with
  | some p => precedes first p
  | none => false

/-- A triad's second value from its tick history (R120 to R123). -/
def secondValue (f : Filter) (mode : Rounding) (history : List TickEntry) (t0 : Num32) (step : Option Num32) : TriadValue :=
  let entries := f.windowOf fun i => findTick history (windowTick t0 f.half i)
  let w : Window Vec3 := entries.map fun p => (p.1, p.2.bind fun e => e.outcome.vector)
  let found := entriesOf entries
  { vector := w.vector mode f.fraction
    flags := (unionFlags (found.map fun e => e.outcome.flags) &&& DataFlags.windowed) |||
      w.shapeFlags f.fraction |||
      DataFlag.commitStraddle.on (differ (found.map TickEntry.generation)) |||
      DataFlag.timeStep.on (beforeStep step (windowTick t0 f.half 0))
    used := w.used
    generation := (found.getLast?).map TickEntry.generation }

/-! ### F, ΔF and temperatures (R125 to R127) -/

/-- The enabled SCALAR channel of a configuration (R118). -/
def Configuration.scalarChannel (c : Configuration) : Option (Fin 16) :=
  allChannels.find? fun n => (c.channels[n]).enabled && (c.channels[n]).kind == .scalar

/-- The enabled TEMPERATURE channels of a configuration, ascending (R118, R127). -/
def Configuration.temperatureChannels (c : Configuration) : List (Fin 16) :=
  allChannels.filter fun n => (c.channels[n]).enabled && (c.channels[n]).kind == .temperature

/-- The triads enabled in a configuration, in triad order (R120, R134). -/
def Configuration.enabledTriads (c : Configuration) : List (Fin 2) := allTriads.filter fun k => (c.triads[k]).enabled

/-- The scalar second value of an entry (R125): none without a SCALAR channel, then or now; a sample never delivered is
absent with GAP; an absent sample carries GAP with its OVERRANGE and DIGITIZER flags. -/
def PendingSecond.scalarValue (e : PendingSecond) (c : Configuration) : Option ScalarValue :=
  match c.scalarChannel, e.samples with
  | none, _ => none
  | some _, none => some ⟨none, DataFlag.gap.mask⟩
  | some _, some t =>
    match t.scalar with
    | none => none
    | some (_, ⟨some v, flags⟩) => some ⟨some v, flags⟩
    | some (_, ⟨none, flags⟩) => some ⟨none, DataFlag.gap.mask ||| (flags &&& DataFlags.missing)⟩

/-- Integer square root, built bit by bit: the largest r with r² ≤ n, for n below 4^bits. -/
def sqrtBits (n : Nat) : Nat → Nat → Nat
  | 0, r => r
  | bits + 1, r => sqrtBits n bits (if (r + 2 ^ bits) * (r + 2 ^ bits) ≤ n then r + 2 ^ bits else r)

/-- The integer nearest the exact square root of N (R126). -/
def nearestSqrt (n : Nat) : Nat :=
  let r := sqrtBits n 33 0
  if r * r + r < n then r + 1 else r

/-- The sum of squares of a vector's components (R126). -/
def Vec3.normSquared (v : Vec3) : Nat := v.x.natAbs * v.x.natAbs + v.y.natAbs * v.y.natAbs + v.z.natAbs * v.z.natAbs

/-- ΔF from F and triad 0's second value (R126): F − F_vec, saturated with DF_SATURATED. -/
def deltaF (f : Int) (v : Vec3) : DeltaF :=
  let difference := f - (nearestSqrt v.normSquared : Int)
  ⟨clampInt (-8388607) 8388607 difference, outside (-8388607) 8388607 difference⟩

/-- ΔF is formed when F is present and triad 0 is enabled with a present second value (R126). -/
def formDeltaF (scalar : Option ScalarValue) (triad0 : Option TriadValue) : Option DeltaF :=
  match scalar, triad0 with
  | some ⟨some f, _⟩, some v => v.vector.map (deltaF f)
  | some ⟨none, _⟩, some _ => none
  | some _, none => none
  | none, _ => none

/-- The temperature second value of a channel: its delivered sample's value (R127). -/
def PendingSecond.temperature (e : PendingSecond) (n : Fin 16) : Option Int :=
  match e.samples with
  | none => none
  | some t =>
    match t.temperatures.find? fun p => p.1 == n with
    | some (_, sample) => sample.value
    | none => none

/-! ### Minute values (R128 to R130) -/

/-- Second 60·M + k, modulo 2^32 (R128). -/
def minuteSecond (m : Nat) (k : Int) : Num32 := BitVec.ofInt 32 (60 * (m : Int) + k)

/-- The minute whose capture second is S, if any: 60·M + 29 = S, modulo 2^32 (R128, R130; log 21). -/
def captureMinute (second : Num32) : Option Nat :=
  let s := second.toNat
  if s % 60 = 29 then some (s / 60)
  else if s = 13 then some Config.lastMinute
  else none

/-- The minute capture over a temperature history: the present values of seconds 60·M − 30 to 60·M + 29 (R130). -/
def captureOf (history : List TempEntry) (m : Nat) : MinuteCapture :=
  let first := minuteSecond m (-30)
  let values := history.filterMap fun e => if (e.second - first).toNat < 60 then e.value else none
  ⟨m, values.sum, values.length⟩

/-- The temperature minute value: present when the capture names the minute and counts 30 or more (R130). -/
def temperatureMinute (capture : Option MinuteCapture) (m : Nat) (mode : Rounding) : Option Int :=
  match capture with
  | some k => if k.minute = m ∧ 30 ≤ k.count then some (divRound mode k.sum k.count) else none
  | none => none

/-- The second history entry of a second (R124). -/
def findSecond (l : List SecondEntry) (second : Num32) : Option SecondEntry := l.find? fun e => e.second == second

/-- The F history entry of a second (R125). -/
def findScalar (l : List ScalarEntry) (second : Num32) : Option ScalarEntry := l.find? fun e => e.second == second

/-- The second at place i of a minute's window: 60·M − h_m + i (R129). -/
def minuteWindowSecond (f : Filter) (m i : Nat) : Num32 := minuteSecond m ((i : Int) - (f.half : Int))

/-- A triad's minute value from its second history (R129). An entry without a generation differs from none (log 39). -/
def minuteValue (f : Filter) (mode : Rounding) (history : List SecondEntry) (m : Nat) (step : Option Num32) : TriadValue :=
  let entries := f.windowOf fun i => findSecond history (minuteWindowSecond f m i)
  let w : Window Vec3 := entries.map fun p => (p.1, p.2.bind fun e => e.value.vector)
  let found := entriesOf entries
  let flags := unionFlags (found.map fun e => e.value.flags)
  let generations := found.filterMap fun e => e.value.generation
  { vector := w.vector mode f.fraction
    flags := (flags &&& DataFlags.windowed) ||| w.shapeFlags f.fraction |||
      DataFlag.commitStraddle.on (DataFlags.has flags .commitStraddle || differ generations) |||
      DataFlag.timeStep.on (DataFlags.has flags .timeStep || beforeStep step (minuteWindowSecond f m 0))
    used := w.used
    generation := generations.getLast? }

/-- F's minute value over the F history, with the SCALAR channel's mode (R129). An entry without a generation differs from none
(log 39). -/
def scalarMinute (f : Filter) (mode : Rounding) (history : List ScalarEntry) (m : Nat) (step : Option Num32) : ScalarValue :=
  let entries := f.windowOf fun i => findScalar history (minuteWindowSecond f m i)
  let w : Window Int := entries.map fun p => (p.1, p.2.bind fun e => e.value.value)
  let found := entriesOf entries
  let flags := unionFlags (found.map fun e => e.value.flags)
  { value := w.value mode f.fraction
    flags := (flags &&& DataFlags.windowed) ||| w.shapeFlags f.fraction |||
      DataFlag.commitStraddle.on (DataFlags.has flags .commitStraddle || differ (found.filterMap ScalarEntry.generation)) |||
      DataFlag.timeStep.on (DataFlags.has flags .timeStep || beforeStep step (minuteWindowSecond f m 0)) }

/-- The minute record of minute M (R129, R130, R135). -/
def Decimator.minuteRecord (d : Decimator) (c : Configuration) (m : Nat) : MinuteRecord where
  minute := m
  lost := none
  triads := c.enabledTriads.map fun k =>
    let v := minuteValue c.minute (c.triads[k]).mode (d.secondHistory[k]) m d.secondStep
    ⟨k, v.vector, v.used, v.flags⟩
  scalar := c.scalarChannel.map fun n =>
    scalarMinute c.minute (c.channels[n]).mode d.scalarHistory m d.secondStep
  temperatures := c.temperatureChannels.map fun n => (n, temperatureMinute (d.captures[n]) m (c.channels[n]).mode)

/-- The minute after M: 71,582,788 is followed by 0 (R128). -/
def followingMinute (m : Nat) : Nat := if m = Config.lastMinute then 0 else m + 1

/-- The second step point after a minute is formed: forgotten when the window's first second does not precede it (R129). -/
def forgetStep (point : Option Num32) (first : Num32) : Option Num32 := if beforeStep point first then point else none

/-- Minute M_next is due at second S: second 60·M_next + h_m does not follow S (R128). -/
def minuteDue (f : Filter) (m : Nat) (second : Num32) : Bool := !precedes second (minuteSecond m (f.half : Int))

/-- Minute M is formed: its record is offered unless MINUTE is left out, M_next advances, the step point may be forgotten
(R128, R129, R135, R136). -/
def State.formMinute (s : State) (c : Configuration) (m : Nat) : State :=
  let record := s.dec.minuteRecord c m
  let s := s.setDec { s.dec with
    nextMinute := some (followingMinute m)
    secondStep := forgetStep s.dec.secondStep (minuteWindowSecond c.minute m 0) }
  if s.link.outputSet.getLsbD 1 then s.offerData (.minute record) else s

/-- The minutes due at second S, formed in order, at most `fuel` of them. -/
def State.formMinutes (s : State) (c : Configuration) (second : Num32) : Nat → State
  | 0 => s
  | fuel + 1 =>
    match s.dec.nextMinute with
    | none => s
    | some m => if minuteDue c.minute m second then (s.formMinute c m).formMinutes c second fuel else s

/-- A bound on the minutes due at second S: each moves the schedule on by at least 16 seconds (R128). -/
def minutesBound (f : Filter) (m : Nat) (second : Num32) : Nat :=
  (second - minuteSecond m (f.half : Int)).toNat / 16 + 1

/-- The schedule of R128 at second S: M_next starts at the minute that contains S, and every minute due is formed. -/
def State.scheduleMinutes (s : State) (c : Configuration) (second : Num32) : State :=
  let m := s.dec.nextMinute.getD (second.toNat / 60)
  (s.setDec { s.dec with nextMinute := some m }).formMinutes c second (minutesBound c.minute m second)

/-! ### Computation of a second (R119, R134, R136) -/

/-- The triad values of a second, in triad order (R120, R134). -/
def Decimator.secondValues (d : Decimator) (c : Configuration) (e : PendingSecond) : List (Fin 2 × TriadValue) :=
  c.enabledTriads.map fun k =>
    (k, secondValue c.second (c.triads[k]).mode (d.tickHistory[k]) e.t0 d.tickStep)

/-- One triad value joins its second history (R124). -/
def enterTriadValue (second : Num32) (d : Decimator) (p : Fin 2 × TriadValue) : Decimator :=
  let history := joinHistory Config.secondHistoryLength (d.secondHistory[p.1]) ⟨second, p.2⟩
  { d with secondHistory := d.secondHistory.set p.1 history }

/-- F joins the F history with the generation of its tick-0 close (R125). -/
def enterScalar (second : Num32) (generation : Option Num32) (d : Decimator) (v : Option ScalarValue) : Decimator :=
  match v with
  | none => d
  | some x =>
    { d with scalarHistory := joinHistory Config.secondHistoryLength d.scalarHistory ⟨second, x, generation⟩ }

/-- A temperature joins its history, and the minute's last second takes the capture (R127, R130). -/
def enterTemperature (e : PendingSecond) (d : Decimator) (n : Fin 16) : Decimator :=
  let history := joinHistory Config.tempHistoryLength (d.tempHistory[n]) ⟨e.second, e.temperature n⟩
  let d := { d with tempHistory := d.tempHistory.set n history }
  match captureMinute e.second with
  | some m => { d with captures := d.captures.set n (some (captureOf history m)) }
  | none => d

/-- A current-series second's values join the second-level histories (R124, R125, R127). -/
def Decimator.enterSecond (d : Decimator) (c : Configuration) (e : PendingSecond) (values : List (Fin 2 × TriadValue))
    (scalar : Option ScalarValue) : Decimator :=
  let d := values.foldl (enterTriadValue e.second) d
  let d := enterScalar e.second (e.samples.map Tick0Samples.generation) d scalar
  c.temperatureChannels.foldl (enterTemperature e) d

/-- The second record of an entry (R134). -/
def PendingSecond.record (e : PendingSecond) (c : Configuration) (values : List (Fin 2 × TriadValue))
    (scalar : Option ScalarValue) : SecondRecord where
  second := e.second
  quality := e.quality
  flags := e.flags
  lost := none
  triads := values.map fun p => ⟨p.1, p.2.vector, p.2.used, p.2.flags⟩
  scalar := scalar
  deltaF := formDeltaF scalar ((values.find? fun p => p.1 == 0).map Prod.snd)
  temperatures := c.temperatureChannels.map fun n => (n, e.temperature n)

/-- One pending second at its computation point: values formed and entered, its record offered unless SECOND is left out,
then the minutes it brings due; an old-series second enters nothing and brings no minute due (R119, R132, R136). -/
def State.computeSecond (c : Configuration) (s : State) (e : PendingSecond) : State :=
  let values := s.dec.secondValues c e
  let scalar := e.scalarValue c
  let entered := if e.oldSeries then s.dec else s.dec.enterSecond c e values scalar
  let s := s.setDec { entered with
    pendingSeconds := s.dec.pendingSeconds.filter fun p => p.t0 != e.t0
    tickStep := forgetStep s.dec.tickStep (windowTick e.t0 c.second.half 0) }
  let s := if s.link.outputSet.getLsbD 0 then s.offerData (.second (e.record c values scalar)) else s
  if e.oldSeries then s else s.scheduleMinutes c e.second

/-- An entry's computation point has come at the close of tick t: t − t0, modulo 2^32, lies from h + 1 to 2^31 (R119). -/
def PendingSecond.ready (e : PendingSecond) (half : Nat) (t : Num32) : Bool :=
  decide (half + 1 ≤ (t - e.t0).toNat) && decide ((t - e.t0).toNat ≤ 2147483648)

/-! ### The decimation step of a close (R117 to R119, R133) -/

/-- One decision joins a tick history, unless its tick precedes the tick step point (R117, R131). -/
def enterDecision (generation : Num32) (step : Option Num32) (l : List TickEntry) (x : Decision) : List TickEntry :=
  if beforeStep step x.tick.count then l
  else joinHistory Config.tickHistoryLength l ⟨x.tick.count, x.outcome, generation⟩

/-- The decisions of a triad join its tick history (R117). -/
def Decimator.enterDecisions (d : Decimator) (k : Fin 2) (generation : Num32) (l : List Decision) : Decimator :=
  { d with tickHistory := d.tickHistory.set k (l.foldl (enterDecision generation d.tickStep) (d.tickHistory[k])) }

/-- A triad whose screen was cleared for its axes loses its tick and second history (R133). -/
def Decimator.clearTriad (d : Decimator) (k : Fin 2) (clear : Bool) : Decimator :=
  if clear then { d with tickHistory := d.tickHistory.set k [], secondHistory := d.secondHistory.set k [] } else d

/-- The clears that follow the close's configuration: channels that left the TEMPERATURE role, and the F history when its
channel is no longer the SCALAR one (R133). -/
def Decimator.clearRoles (d : Decimator) (c : Configuration) : Decimator :=
  { d with
    tempHistory := Vector.ofFn fun n => if c.temperatureChannels.contains n then d.tempHistory[n] else []
    captures := Vector.ofFn fun n => if c.temperatureChannels.contains n then d.captures[n] else none
    scalarHistory := if c.scalarChannel.isSome && c.scalarChannel == d.scalarChannel then d.scalarHistory else []
    scalarChannel := c.scalarChannel }

/-- The tick-0 samples of a close (R118). -/
def tick0Samples (cc : CloseContext) (samples : Vector CorrectedSample 16) : Tick0Samples where
  generation := cc.generation
  scalar := cc.config.scalarChannel.map fun n => (n, samples[n])
  temperatures := cc.config.temperatureChannels.map fun n => (n, samples[n])

/-- The tick-0 samples delivered to the pending entry whose t0 is the tick's count, unless the tick precedes the tick step
point (R118, R131). -/
def Decimator.deliver (d : Decimator) (tick : TickId) (t : Tick0Samples) : Decimator :=
  if beforeStep d.tickStep tick.count then d
  else
    { d with pendingSeconds := d.pendingSeconds.map fun e =>
        if e.t0 = tick.count then { e with samples := some t } else e }

/-- The decimation step of a close, in the order of R119: the clears tied to the configuration, the decisions, the tick-0
samples, the seconds whose point has come. -/
def State.decimate (s : State) (cc : CloseContext) (tick : TickId) (samples : Vector CorrectedSample 16)
    (strangers : Bool × Bool) (decisions : List Decision × List Decision) : State :=
  let d := ((s.dec.clearTriad 0 strangers.1).clearTriad 1 strangers.2).clearRoles cc.config
  let d := (d.enterDecisions 0 cc.generation decisions.1).enterDecisions 1 cc.generation decisions.2
  let d := if tick.index = 0 then d.deliver tick (tick0Samples cc samples) else d
  let s := s.setDec d
  (d.pendingSeconds.filter fun e => e.ready cc.config.second.half tick.count).foldl (State.computeSecond cc.config) s

/-! ### Marks, steps, relabels, restarts (R116, R131, R132, R138) -/

/-- The entry of the second a mark begins joins the young end of the pending second list (R116). -/
def Decimator.addSecond (d : Decimator) (e : PendingSecond) : Decimator :=
  { d with pendingSeconds := d.pendingSeconds ++ [e] }

/-- A step mark empties every history and capture and sets both step points; the pending seconds are kept (R131). -/
def Decimator.step (d : Decimator) (t0 second : Num32) : Decimator :=
  { d with
    tickHistory := Vector.replicate 2 []
    secondHistory := Vector.replicate 2 []
    scalarHistory := []
    tempHistory := Vector.replicate 16 []
    captures := Vector.replicate 16 none
    tickStep := some t0
    secondStep := some second }

/-- The second-level histories and captures emptied, the second step point forgotten, M_next absent (R132). -/
def Decimator.relabelClear (d : Decimator) : Decimator :=
  { d with
    secondHistory := Vector.replicate 2 []
    scalarHistory := []
    tempHistory := Vector.replicate 16 []
    captures := Vector.replicate 16 none
    nextMinute := none
    secondStep := none }

/-- A relabel at a mark: every pending entry's mark was made before, so each becomes old series (R132). -/
def Decimator.relabelAtMark (d : Decimator) : Decimator :=
  { d.relabelClear with pendingSeconds := d.pendingSeconds.map fun e => { e with oldSeries := true } }

/-- One pending entry at a relabel of the second in progress: its own entry takes the new number, stays current and carries
RELABEL; every other becomes old series (R132). -/
def PendingSecond.relabel (e : PendingSecond) (t0 number : Num32) : PendingSecond :=
  if e.t0 = t0 then { e with second := number, flags := e.flags ||| recordFlags false true false }
  else { e with oldSeries := true }

/-- A relabel of the second in progress (R132). -/
def Decimator.relabelNow (d : Decimator) (t0 number : Num32) : Decimator :=
  { d.relabelClear with pendingSeconds := d.pendingSeconds.map fun e => e.relabel t0 number }

end Sys2Proof.Machine
end

