-- ==== Sys2Proof/Machine/Close.lean ====
section
/-! DEFINITION. Machine/Close: a tick close, from revalidation to the decimation step (R43, R44). -/

namespace Sys2Proof.Machine

/-- The four steps of a close in the order of R44: revalidation, channel correction, triad combination, decimation.
Whether a triad's screen was built under other axes is read before the combination step clears it (R110, R133). -/
def State.closeTick (s : State) (cc : CloseContext) (t : OpenTick) : State :=
  let strangers := ((s.screens[0]).stranger (cc.config.triads[0]), (s.screens[1]).stranger (cc.config.triads[1]))
  let (s, slots) := s.revalidate cc.config t
  let corrected := s.correct cc t slots
  let (s, decisions) := corrected.state.combineTriads cc t.id corrected.samples
  s.decimate cc t.id corrected.samples strangers decisions

/-- The closed tick leaves the close queue, and the next tick waiting there begins its close (R43, R50). -/
def State.endClose (s : State) : State :=
  (s.setAsm { s.asm with closeQueue := s.asm.closeQueue.tail, closing := none }).beginClose

/-- TICK_CLOSE: the close in progress completes its pass, and the next queued close begins (R43, R44; log 23). -/
def execTickClose (elapsed : Nat) (s : State) : Host.Outcome State Fault Refusal :=
  match s.asm.closing, s.asm.closeQueue with
  | some cc, t :: _ => .next ((s.elapse elapsed).closeTick cc t).endClose
  | some _, [] => .next s
  | none, _ => .next s

end Sys2Proof.Machine
end

