-- ==== Sys2Proof/Machine/Staging.lean ====
section
/-! DEFINITION. Machine/Staging: the two copies of the configuration, the requests that write and read them, the commit and
its check (08_configuration_staging_and_commit.md, R62). -/

namespace Sys2Proof.Machine

/-! ### Copies and filters -/

/-- A copy of the configuration (R139). -/
def Staging.copy (g : Staging) : Copy → Configuration
  | .active => g.active
  | .pending => g.pendingConfig

/-- The other copy. -/
def Copy.other : Copy → Copy
  | .active => .pending
  | .pending => .active

/-- A filter of a configuration (R139). -/
def Configuration.filter (c : Configuration) : FilterName → Filter
  | .second => c.second
  | .minute => c.minute

/-- A filter of a configuration, replaced. -/
def Configuration.setFilter (c : Configuration) (name : FilterName) (f : Filter) : Configuration :=
  match name with
  | .second => { c with second := f }
  | .minute => { c with minute := f }

/-- The pending configuration replaced (R139). -/
def State.setPendingConfig (s : State) (c : Configuration) : State := s.setStaging { s.staging with pendingConfig := c }

/-- An accepted write of the pending copy, unless a commit is scheduled (section 8.2, check 3; R154). -/
def State.writePending (s : State) (c : Configuration) (data : List Byte) : Reply :=
  if s.staging.commitScheduled then Reply.refuse s .busy else Reply.ok (s.setPendingConfig c) data

/-- The indication SAME or CHANGED, in one byte (R62, R147, R148; log 11). -/
def indication (same : Bool) : List Byte := firstByte same

/-! ### Writing requests (R142 to R146) -/

/-- The judgement of CHANNEL_SET (R142). -/
def judgeChannelSet (q : Request) (s : State) : Reply :=
  match channelAt (byteAt q.params 0), channelDescriptorAt q.params 1 with
  | some n, some d =>
    let c := s.staging.pendingConfig
    s.writePending { c with channels := c.channels.set n d } (natBytes 1 n.val)
  | some _, none => Reply.refuse s .range
  | none, _ => Reply.refuse s .range

/-- CHANNEL_SET (R142). -/
def execChannelSet (s : State) : Host.Outcome State Fault Refusal := .next (s.take .channelSet judgeChannelSet)

/-- The judgement of TRIAD_SET (R143). -/
def judgeTriadSet (q : Request) (s : State) : Reply :=
  match choiceAt triadChoice (byteAt q.params 0), triadDescriptorAt q.params 1 with
  | some k, some d =>
    let c := s.staging.pendingConfig
    s.writePending { c with triads := c.triads.set k d } (natBytes 1 k.val)
  | some _, none => Reply.refuse s .range
  | none, _ => Reply.refuse s .range

/-- TRIAD_SET (R143). -/
def execTriadSet (s : State) : Host.Outcome State Fault Refusal := .next (s.take .triadSet judgeTriadSet)

/-- W and q of FILTER_SHAPE lie in 1 to 127 and 1 to 1,024 (R144). -/
def shapeOk (w q : Nat) : Bool := decide (1 ≤ w) && decide (w ≤ 127) && decide (1 ≤ q) && decide (q ≤ 1024)

/-- The judgement of FILTER_SHAPE: the filter, W in one byte, q in two (R144). -/
def judgeFilterShape (q : Request) (s : State) : Reply :=
  match choiceAt filterChoice (byteAt q.params 0) with
  | none => Reply.refuse s .range
  | some name =>
    let w := natAt q.params 1 1
    let fraction := natAt q.params 2 2
    if shapeOk w fraction then
      let c := s.staging.pendingConfig
      s.writePending (c.setFilter name { c.filter name with length := w, fraction := fraction }) []
    else Reply.refuse s .range

/-- FILTER_SHAPE (R144). -/
def execFilterShape (s : State) : Host.Outcome State Fault Refusal := .next (s.take .filterShape judgeFilterShape)

/-- A run of weights written from a place on; a place beyond 126 does not exist (R145). -/
def writeWeights (places : Vector Count16 127) (first : Nat) : List Count16 → Vector Count16 127
  | [] => places
  | w :: rest => writeWeights (if h : first < 127 then places.set first w else places) (first + 1) rest

/-- The first place and count of FILTER_TAPS lie in range (R145). -/
def tapsOk (first count : Nat) : Bool :=
  decide (first ≤ 126) && decide (1 ≤ count) && decide (count ≤ 64) && decide (first + count ≤ 127)

/-- The judgement of FILTER_TAPS (R145). -/
def judgeFilterTaps (q : Request) (s : State) : Reply :=
  match choiceAt filterChoice (byteAt q.params 0) with
  | none => Reply.refuse s .range
  | some name =>
    let first := natAt q.params 1 1
    let count := natAt q.params 2 1
    if tapsOk first count then
      let c := s.staging.pendingConfig
      let f := c.filter name
      s.writePending (c.setFilter name { f with places := writeWeights f.places first (weightsAt q.params 3 count) })
        (posByte name.position ++ natBytes 1 first ++ natBytes 1 count)
    else Reply.refuse s .range

/-- FILTER_TAPS (R145). -/
def execFilterTaps (s : State) : Host.Outcome State Fault Refusal := .next (s.take .filterTaps judgeFilterTaps)

/-- The judgement of DISCARD (R146). -/
def judgeDiscard (_ : Request) (s : State) : Reply := s.writePending s.staging.active []

/-- DISCARD (R146). -/
def execDiscard (s : State) : Host.Outcome State Fault Refusal := .next (s.take .discard judgeDiscard)

/-! ### Reading requests (R62, R147, R148) -/

/-- The data of CHANNEL_GET: the descriptor's fields, then the indication (R62). -/
def Staging.channelData (g : Staging) (n : Fin 16) (copy : Copy) : List Byte :=
  let d := (g.copy copy).channels[n]
  d.bytes ++ indication (d == (g.copy copy.other).channels[n])

/-- The judgement of CHANNEL_GET (R62). -/
def judgeChannelGet (q : Request) (s : State) : Reply :=
  match channelAt (byteAt q.params 0), choiceAt copyChoice (byteAt q.params 1) with
  | some n, some copy => Reply.ok s (s.staging.channelData n copy)
  | some _, none => Reply.refuse s .range
  | none, _ => Reply.refuse s .range

/-- CHANNEL_GET (R62). -/
def execChannelGet (s : State) : Host.Outcome State Fault Refusal := .next (s.take .channelGet judgeChannelGet)

/-- The data of TRIAD_GET: the descriptor's fields, then the indication (R147). -/
def Staging.triadData (g : Staging) (k : Fin 2) (copy : Copy) : List Byte :=
  let d := (g.copy copy).triads[k]
  d.bytes ++ indication (d == (g.copy copy.other).triads[k])

/-- The judgement of TRIAD_GET (R147). -/
def judgeTriadGet (q : Request) (s : State) : Reply :=
  match choiceAt triadChoice (byteAt q.params 0), choiceAt copyChoice (byteAt q.params 1) with
  | some k, some copy => Reply.ok s (s.staging.triadData k copy)
  | some _, none => Reply.refuse s .range
  | none, _ => Reply.refuse s .range

/-- TRIAD_GET (R147). -/
def execTriadGet (s : State) : Host.Outcome State Fault Refusal := .next (s.take .triadGet judgeTriadGet)

/-- The weights of places 0 to W − 1, two bytes each, in place order (R148). -/
def Filter.weightBytes (f : Filter) : List Byte := (List.range f.length).flatMap fun i => natBytes 2 (f.weight i)

/-- The data of FILTER_GET: W, q, the indication, the weights of places 0 to W − 1 (R148, R164). -/
def Staging.filterData (g : Staging) (name : FilterName) (copy : Copy) : List Byte :=
  let f := (g.copy copy).filter name
  natBytes 1 f.length ++ natBytes 2 f.fraction ++ indication (f == (g.copy copy.other).filter name) ++ f.weightBytes

/-- The judgement of FILTER_GET (R148). -/
def judgeFilterGet (q : Request) (s : State) : Reply :=
  match choiceAt filterChoice (byteAt q.params 0), choiceAt copyChoice (byteAt q.params 1) with
  | some name, some copy => Reply.ok s (s.staging.filterData name copy)
  | some _, none => Reply.refuse s .range
  | none, _ => Reply.refuse s .range

/-- FILTER_GET (R148). -/
def execFilterGet (s : State) : Host.Outcome State Fault Refusal := .next (s.take .filterGet judgeFilterGet)

/-! ### The commit check (R150) -/

/-- What a failed commit check reports on (R150). -/
inductive CheckObject where
  | channel (n : Fin 16)
  | triad (k : Fin 2)
  | filter (name : FilterName)
  deriving DecidableEq, Repr

/-- The reasons of the commit check, in the order of its table (section 8.4). -/
inductive CheckReason where
  | pairInUse
  | sourceNotTemperature
  | sourceSegmentUnpaired
  | segmentOnTemperature
  | secondScalar
  | ninthTemperature
  | axisRepeated
  | axisNotAxis
  | axisInBoth
  | lengthEven
  | lengthRange
  | weightsZero
  deriving DecidableEq, Repr

/-- The first failure of the commit check: object, reason, related number (R150). -/
structure CheckFailure where
  object : CheckObject
  reason : CheckReason
  related : Option (Fin 16)
  deriving DecidableEq, Repr

/-- Step 1: an enabled channel with the port and source address of a lower enabled one (R150). -/
def Configuration.checkPairs (c : Configuration) : Option CheckFailure :=
  allChannels.findSome? fun n =>
    let d := c.channels[n]
    let lower := allChannels.find? fun m =>
      decide (m < n) && d.enabled && (c.channels[m]).enabled && (c.channels[m]).port == d.port &&
        (c.channels[m]).source == d.source
    lower.map fun m => ⟨.channel n, .pairInUse, some m⟩

/-- Step 2: an enabled channel whose temperature source is not an enabled TEMPERATURE channel (R150). -/
def Configuration.checkSources (c : Configuration) : Option CheckFailure :=
  allChannels.findSome? fun n =>
    match (c.channels[n]).enabled, (c.channels[n]).tempSource with
    | true, some t =>
      if (c.channels[t]).enabled && (c.channels[t]).kind == .temperature then none
      else some ⟨.channel n, .sourceNotTemperature, some t⟩
    | true, none => none
    | false, _ => none

/-- Step 3: one of temperature source and segment present, the other absent (R150). -/
def Configuration.checkPaired (c : Configuration) : Option CheckFailure :=
  (allChannels.find? fun n => (c.channels[n]).tempSource.isSome != (c.channels[n]).segment.isSome).map
    fun n => ⟨.channel n, .sourceSegmentUnpaired, none⟩

/-- Step 4: a segment on a TEMPERATURE channel (R150). -/
def Configuration.checkSegments (c : Configuration) : Option CheckFailure :=
  (allChannels.find? fun n => (c.channels[n]).kind == .temperature && (c.channels[n]).segment.isSome).map
    fun n => ⟨.channel n, .segmentOnTemperature, none⟩

/-- The enabled SCALAR channels, ascending. -/
def Configuration.scalarChannels (c : Configuration) : List (Fin 16) :=
  allChannels.filter fun n => (c.channels[n]).enabled && (c.channels[n]).kind == .scalar

/-- Step 5, first: a second enabled SCALAR channel (R150). -/
def Configuration.checkScalars (c : Configuration) : Option CheckFailure :=
  match c.scalarChannels with
  | first :: second :: _ => some ⟨.channel second, .secondScalar, some first⟩
  | [_] => none
  | [] => none

/-- Step 5, then: a ninth enabled TEMPERATURE channel (R150). -/
def Configuration.checkTemperatures (c : Configuration) : Option CheckFailure :=
  (c.temperatureChannels[8]?).map fun n => ⟨.channel n, .ninthTemperature, none⟩

/-- The axis channels of a triad in the order x, y, z. -/
def Axes.list (a : Axes) : List (Fin 16) := [a.x, a.y, a.z]

/-- The channel that two of x, y, z name (R150). -/
def Axes.repeated (a : Axes) : Option (Fin 16) :=
  if a.x = a.y ∨ a.x = a.z then some a.x else if a.y = a.z then some a.y else none

/-- Step 6 for one enabled triad: its repeat test, then its axis tests (R150). -/
def Configuration.checkTriad (c : Configuration) (k : Fin 2) : Option CheckFailure :=
  let d := c.triads[k]
  if d.enabled then
    match d.axes.repeated with
    | some n => some ⟨.triad k, .axisRepeated, some n⟩
    | none =>
      (d.axes.list.find? fun n => !((c.channels[n]).enabled && (c.channels[n]).kind == .axis)).map
        fun n => ⟨.triad k, .axisNotAxis, some n⟩
  else none

/-- Step 6, last: a channel that is an axis of both enabled triads (R150). -/
def Configuration.checkShared (c : Configuration) : Option CheckFailure :=
  if (c.triads[0]).enabled && (c.triads[1]).enabled then
    (allChannels.find? fun n => (c.triads[0]).axes.list.contains n && (c.triads[1]).axes.list.contains n).map
      fun n => ⟨.triad 1, .axisInBoth, some n⟩
  else none

/-- The range of W at COMMIT: 1 to 63 for SECOND, 61 to 127 for MINUTE (R144, R150). -/
def FilterName.lengthOk (name : FilterName) (w : Nat) : Bool :=
  match name with
  | .second => decide (1 ≤ w) && decide (w ≤ 63)
  | .minute => decide (61 ≤ w) && decide (w ≤ 127)

/-- The weights of places 0 to W − 1 are all 0 (R150). -/
def Filter.weightless (f : Filter) : Bool := (List.range f.length).all fun i => f.weight i == 0

/-- Step 7 for one filter: even length, length range, zero weights (R150). -/
def Configuration.checkFilter (c : Configuration) (name : FilterName) : Option CheckFailure :=
  let f := c.filter name
  if f.length % 2 = 0 then some ⟨.filter name, .lengthEven, none⟩
  else if !name.lengthOk f.length then some ⟨.filter name, .lengthRange, none⟩
  else if f.weightless then some ⟨.filter name, .weightsZero, none⟩
  else none

/-- The commit check: the first failure in the order of the table of section 8.4 (R150). -/
def Configuration.commitCheck (c : Configuration) : Option CheckFailure :=
  [c.checkPairs, c.checkSources, c.checkPaired, c.checkSegments, c.checkScalars, c.checkTemperatures, c.checkTriad 0,
    c.checkTriad 1, c.checkShared, c.checkFilter .second, c.checkFilter .minute].findSome? id

/-- The position of a reason in the order of the table (R150, R181). -/
def CheckReason.position : CheckReason → Nat
  | .pairInUse => 0
  | .sourceNotTemperature => 1
  | .sourceSegmentUnpaired => 2
  | .segmentOnTemperature => 3
  | .secondScalar => 4
  | .ninthTemperature => 5
  | .axisRepeated => 6
  | .axisNotAxis => 7
  | .axisInBoth => 8
  | .lengthEven => 9
  | .lengthRange => 10
  | .weightsZero => 11

/-- The object kind and number: CHANNEL, TRIAD or FILTER (R150). -/
def CheckObject.bytes : CheckObject → List Byte
  | .channel n => natBytes 1 0 ++ natBytes 1 n.val
  | .triad k => natBytes 1 1 ++ natBytes 1 k.val
  | .filter name => natBytes 1 2 ++ posByte name.position

/-- The data of the CONFLICT response: object kind, object number, reason, related number (R150, R181). -/
def CheckFailure.bytes (f : CheckFailure) : List Byte :=
  f.object.bytes ++ posByte f.reason.position ++ optNatBytes 1 (f.related.map Fin.val)

/-! ### COMMIT and its application (R149 to R153) -/

/-- The indications of COMMIT in the order of R149: NO_CHANGE 0, SCHEDULED 1 (log 11). -/
def noChangeByte : List Byte := posByte 0
def scheduledByte : List Byte := posByte 1

/-- The judgement of COMMIT: the first case of R149 that applies. -/
def judgeCommit (_ : Request) (s : State) : Reply :=
  if s.staging.commitScheduled then Reply.refuse s .busy
  else if s.staging.restartScheduled then Reply.refuse s .busy
  else if s.settings.save.isSome then Reply.refuse s .busy
  else if s.staging.pendingConfig = s.staging.active then Reply.ok s noChangeByte
  else
    match s.staging.pendingConfig.commitCheck with
    | some f => Reply.of s .conflict f.bytes
    | none => Reply.ok (s.setStaging { s.staging with commitScheduled := true }) scheduledByte

/-- COMMIT (R149). -/
def execCommit (s : State) : Host.Outcome State Fault Refusal := .next (s.take .commit judgeCommit)

/-- The channels, triads and filters in which two configurations differ (R153). -/
def changedChannels (a b : Configuration) : List (Fin 16) := allChannels.filter fun n => a.channels[n] != b.channels[n]
def changedTriads (a b : Configuration) : List (Fin 2) := allTriads.filter fun k => a.triads[k] != b.triads[k]
def changedFilters (a b : Configuration) : List FilterName := filterChoice.filter fun f => a.filter f != b.filter f

/-- The notice of a commit that is about to be applied (R153). -/
def Staging.commitNotice (g : Staging) (second : Num32) : Notice :=
  .commit (g.generation + 1) second (changedChannels g.active g.pendingConfig) (changedTriads g.active g.pendingConfig)
    (changedFilters g.active g.pendingConfig)

/-- The staging state once a commit is applied (R152 items 1 to 3). -/
def Staging.applied (g : Staging) : Staging :=
  { g with active := g.pendingConfig, generation := g.generation + 1, commitScheduled := false }

/-- A scheduled commit is applied at the mark that begins the second given (R152); the protected set follows (log 26). -/
def State.applyCommit (s : State) (second : Num32) : State :=
  let notice := s.staging.commitNotice second
  ((s.setStaging s.staging.applied).touchSettings).offerNotice notice

end Sys2Proof.Machine
end

