-- ==== Sys2Proof/Machine/StoreRequests.lean ====
section
/-! DEFINITION. Machine/StoreRequests: STORE_WRITE, STORE_READ and STORE_POISON (R67 to R72). -/

namespace Sys2Proof.Machine

/-- The start address and count of STORE_WRITE and STORE_READ lie in range (R68, R71). -/
def runOk (start count : Nat) : Bool :=
  decide (start ≤ 2047) && decide (1 ≤ count) && decide (count ≤ 16) && decide (start + count ≤ 2048)

/-- The addresses of a run, ascending. -/
def runAddresses (start count : Nat) : List Nat := (List.range count).map fun i => start + i

/-- The lowest protected address of a list in ascending order, with the lowest channel that protects it (R70). -/
def Configuration.firstProtected (c : Configuration) (l : List Nat) : Option (Nat × Fin 16) :=
  l.findSome? fun a => (c.protector a).map fun n => (a, n)

/-- The data of an ACCESS refusal: the lowest protected address and the lowest channel that covers it (R70). -/
def accessData (p : Nat × Fin 16) : List Byte := natBytes 2 p.1 ++ natBytes 1 p.2.val

/-- The checks BUSY and ACCESS of a store write, then the write, which sets the unsaved-changes flag (R67 to R70, R72). -/
def State.writeStore (s : State) (addresses : List Nat) (store : Store) (data : List Byte) : Reply :=
  if s.staging.commitScheduled then Reply.refuse s .busy
  else
    match s.staging.active.firstProtected addresses with
    | some p => Reply.of s .access (accessData p)
    | none => Reply.ok (s.setStore store).touchSettings data

/-- The judgement of STORE_WRITE: start in two bytes, count in one, the entries (R68 to R70). -/
def judgeStoreWrite (q : Request) (s : State) : Reply :=
  let start := natAt q.params 0 2
  let count := natAt q.params 2 1
  if runOk start count then
    s.writeStore (runAddresses start count) (s.store.writeRun start (storeEntriesAt q.params 3 count))
      (natBytes 2 start ++ natBytes 1 count)
  else Reply.refuse s .range

/-- STORE_WRITE (R68). -/
def execStoreWrite (s : State) : Host.Outcome State Fault Refusal := .next (s.take .storeWrite judgeStoreWrite)

/-- An entry as STORE_READ returns it: offset in three bytes, gain in two, check state GOOD 0 or BAD 1 (R71, R181). -/
def StoreEntry.bytes (e : StoreEntry) : List Byte := intBytes 3 e.offset ++ intBytes 2 e.gain ++ posByte e.check.position

/-- The judgement of STORE_READ (R71). -/
def judgeStoreRead (q : Request) (s : State) : Reply :=
  let start := natAt q.params 0 2
  let count := natAt q.params 2 1
  if runOk start count then
    Reply.ok s ((runAddresses start count).flatMap fun a => (s.store.read a).bytes)
  else Reply.refuse s .range

/-- STORE_READ (R71). -/
def execStoreRead (s : State) : Host.Outcome State Fault Refusal := .next (s.take .storeRead judgeStoreRead)

/-- An entry poisoned: its check state BAD, its offset and gain kept (R72). -/
def Store.poison (st : Store) (a : Nat) : Store := st.write a { st.read a with check := .bad }

/-- The judgement of STORE_POISON (R72). -/
def judgeStorePoison (q : Request) (s : State) : Reply :=
  let a := natAt q.params 0 2
  if a ≤ 2047 then s.writeStore [a] (s.store.poison a) (natBytes 2 a) else Reply.refuse s .range

/-- STORE_POISON (R72). -/
def execStorePoison (s : State) : Host.Outcome State Fault Refusal := .next (s.take .storePoison judgeStorePoison)

end Sys2Proof.Machine
end

