-- ==== Sys2Proof/Machine/Marks.lean ====
section
/-! DEFINITION. Machine/Marks: what making a mark does, whoever makes it: the new second, the holdover age, the relabel, the
lines, the command restart or the commit, the decimator's entry, tick 0 (R1, R2, R14, R17, R116, R131, R132, R152, R210). -/

namespace Sys2Proof.Machine

/-! ### Notices of the timebase (R19) -/

/-- A TIMEBASE notice with the state before it, and the state, second and D as they stand now (R19). -/
def State.timebaseNotice (s : State) (cause : TimebaseCause) (before : Discipline) (error : Option Int) : State :=
  s.offerNotice (.timebase cause before s.tb.discipline s.tb.second s.tb.trim error)

/-! ### The new second (R1, R2, R14) -/

/-- The length of the next second to begin: 10,000,000 + D + c (R1). -/
def Timebase.nextLength (t : Timebase) : Nat := ((Config.nominalSecond : Int) + t.trim + t.correction).toNat

/-- A mark begins the second numbered: its length is fixed and c is used up, the mark count advances, and the edges
attributed to the coming mark are now those of this one (R1, R2, R7). -/
def Timebase.beginSecond (t : Timebase) (number : Num32) : Timebase :=
  { t with
    period := 0
    length := t.nextLength
    correction := 0
    second := number
    markCount := t.markCount + 1
    attributed := t.nextAttributed
    nextAttributed := false
    halfChecked := false
    nextIndex := 0
    markLabel := none }

/-- The holdover age after a mark made in HOLDOVER (R14). -/
def Timebase.nextAge (t : Timebase) : Nat := min Config.ageLimit (t.holdoverAge + 1)

/-- This mark makes the holdover long (R14). -/
def Timebase.becomesLong (t : Timebase) : Bool :=
  t.discipline == .holdover && !t.holdoverLong && decide (t.holdoverLimit ≤ t.nextAge)

/-- The holdover age and flag at a mark (R14). -/
def Timebase.ageHoldover (t : Timebase) : Timebase :=
  if t.discipline = .holdover then
    { t with holdoverAge := t.nextAge, holdoverLong := t.holdoverLong || decide (t.holdoverLimit ≤ t.nextAge) }
  else t

/-- The time quality of a mark, by the table of R2. -/
def Timebase.markQuality (t : Timebase) : Quality :=
  match t.discipline with
  | .freeRun => .freeRun
  | .acquire => .acquire
  | .locked => .locked
  | .holdover => if t.holdoverLong then .holdoverLong else .holdover

/-- The timebase at a mark: the new second, the holdover age, the time quality (R2). -/
def Timebase.mark (t : Timebase) (number : Num32) : Timebase :=
  let t := (t.beginSecond number).ageHoldover
  { t with quality := t.markQuality }

/-- The timebase's own part of a mark, with the condition and the notice of a holdover that becomes long (R2, R14). -/
def State.markTimebase (s : State) (number : Num32) : State :=
  let long := s.tb.becomesLong
  let s := s.setTb (s.tb.mark number)
  if long then (s.setCondition .holdoverLong).timebaseNotice .holdoverLong .holdover none else s

/-! ### Lines (R193) -/

/-- A SECOND_MARK line is high from a mark on (R193). -/
def AuxLine.raise (l : AuxLine) : AuxLine := if l.settings.designation = .secondMark then { l with raised := true } else l

/-- Every SECOND_MARK line is raised, and falls 1,000,000 periods after this mark (R193). -/
def State.raiseLines (s : State) : State :=
  s.setAux { s.aux with
    lines := Vector.ofFn fun i => (s.aux.lines[i]).raise
    secondMarkEnd := some (s.tb.clock + Config.secondMarkPeriods) }

/-! ### Command restart (R210) -/

/-- The set values of R and D_a come into force (R22). -/
def Timebase.restart (t : Timebase) : Timebase := { t with rate := t.rateSet, depth := t.depthSet }

/-- What discarding a list of frames adds to the seconds-lost accumulator (R180). -/
def discardedSeconds : List Frame → Nat
  | [] => 0
  | ⟨.second r, _⟩ :: rest => r.lossWeight + discardedSeconds rest
  | _ :: rest => discardedSeconds rest

/-- What discarding a list of frames adds to the minutes-lost accumulator (R180). -/
def discardedMinutes : List Frame → Nat
  | [] => 0
  | ⟨.minute _, _⟩ :: rest => 1 + discardedMinutes rest
  | _ :: rest => discardedMinutes rest

/-- The output queue at a command restart: every data record but the one being sent is discarded into the accumulators,
and responses stay (R180). -/
def Link.restart (l : Link) : Link :=
  { l with
    output := l.sendingPart ++ l.waitingPart.filter fun f => !f.body.isData
    secondsLost := satAdd l.secondsLost (discardedSeconds l.waitingPart)
    minutesLost := satAdd l.minutesLost (discardedMinutes l.waitingPart) }

/-- The status unit at a command restart (R198). -/
def StatusUnit.restart (u : StatusUnit) : StatusUnit :=
  { u with
    conditions := 0
    counters := Vector.replicate 29 0
    capture := none
    faultCounts := Vector.replicate 5 0 }

/-- The staging state at a command restart: pending equal to active, the restart schedule empty (R157, R210). -/
def Staging.restart (g : Staging) : Staging := { g with pendingConfig := g.active, restartScheduled := false }

/-- A command restart, block by block, at the mark it is carried out; the START notice follows the output queue's discard
(R22, R40, R56, R94, R115, R138, R157, R180, R198, R210). -/
def State.commandRestart (s : State) : State :=
  let s := s.setTb s.tb.restart
  let s := (s.setPortA s.portA.restart).setPortB s.portB.restart
  let s := ((s.setAsm (s.asm.restart s.tb.depth)).setCorr Corrector.cleared).setScreens (Vector.replicate 2 Screen.cleared)
  let s := ((s.setDec Decimator.cleared).setStaging s.staging.restart).setLink s.link.restart
  let s := (s.setStatus s.status.restart).setSettings { s.settings with resetCause := .commanded }
  s.offerNotice (.start .commanded s.settings.image.validity s.tb.second)

/-! ### The mark (R2) -/

/-- The commit or the restart scheduled for this mark; never both (R155). -/
def State.scheduledWork (s : State) : State :=
  if s.staging.restartScheduled then s.commandRestart
  else if s.staging.commitScheduled then s.applyCommit s.tb.second
  else s

/-- The decimator's clears at a mark: those of a step, then those of a relabel (R131, R132; log 14). -/
def Decimator.markClears (d : Decimator) (byStep relabelled : Bool) (t0 second : Num32) : Decimator :=
  let d := if byStep then d.step t0 second else d
  if relabelled then d.relabelAtMark else d

/-- The pending second list entry of the second a mark begins; its tick 0 is the next tick issued (R116). -/
def Timebase.secondEntry (t : Timebase) (byStep relabelled committed : Bool) : PendingSecond where
  second := t.second
  t0 := t.tickCount + 1
  quality := t.quality
  flags := recordFlags byStep relabelled committed
  oldSeries := false
  samples := none

/-- The consumers of a mark: the lines, the scheduled commit or restart, the screens and the decimator, and tick 0.
At a restart's mark the screens and histories have just been cleared, so a step has nothing left to clear there (log 14). -/
def State.markConsumers (s : State) (byStep relabelled : Bool) : State :=
  let restarts := s.staging.restartScheduled
  let committed := s.staging.commitScheduled && !restarts
  let s := s.raiseLines.scheduledWork
  let s := if byStep && !restarts then s.setScreens (Vector.ofFn fun k => (s.screens[k]).awaitClear) else s
  let d := if restarts then s.dec else s.dec.markClears byStep relabelled (s.tb.tickCount + 1) s.tb.second
  let s := s.setDec (d.addSecond (s.tb.secondEntry byStep relabelled committed))
  s.issueTick

/-- A mark that begins the second numbered (R2). -/
def State.makeMark (s : State) (number : Num32) (byStep relabelled : Bool) : State :=
  (s.markTimebase number).markConsumers byStep relabelled

/-- A regular mark: a label that waited for it directs its number, and the relabel is reported (R2, R17, R19; log 15). -/
def State.regularMark (s : State) : State :=
  match s.tb.markLabel with
  | none => s.makeMark (s.tb.second + 1) false false
  | some l =>
    (s.makeMark l.number false true).timebaseNotice .relabel s.tb.discipline (some l.error)

/-- The mark that is due next, made when the period counter reaches L (R1, R2). -/
def State.dueMark (s : State) : State := (s.elapseToPeriod s.tb.length).regularMark

/-- MARK: the period counter reaches L, and the next mark is made (R1, R2). -/
def execMark (s : State) : Host.Outcome State Fault Refusal :=
  if s.running then .next s.dueMark else .next s

/-- The state an edge n periods from now finds. An edge in the same period as a mark belongs to the new second, so a mark that is
due by then is made before it (R7, R196; log 24). -/
def State.edgeMoment (s : State) (n : Nat) : State :=
  if s.running && decide (s.tb.length ≤ s.tb.period + n) then s.dueMark.elapse (n - (s.tb.length - s.tb.period))
  else s.elapse n

/-- An edge before the first mark leaves nothing but its moment (R6, R196; log 24). -/
def State.noteEarlyEdge (s : State) : State :=
  if s.phase = .off then s else s.setTb { s.tb with earlyEdge := some s.tb.clock }

/-! ### Start-up (R3, R208) -/

/-- The first mark: second 0, the ports by their flags, the code-2 interval after a load that used defaults, the START notice
(R3, R39, R192, R208). -/
def State.firstMark (s : State) : State :=
  let s := s.setPhase .running
  let s := (s.setPortA s.portA.byFlag).setPortB s.portB.byFlag
  let s := s.setStatus { s.status with
    code2 := if s.settings.image.validity = .invalid then some s.tb.clock else none }
  let s := s.makeMark 0 false false
  s.offerNotice (.start .powerOn s.settings.image.validity s.tb.second)

/-- START_UP_COMPLETE: once the load has ended, the timebase makes the first mark (R208). An edge in its period comes after it, which
`timely` asks of the queue (R7, R196; log 24). -/
def execStartUpComplete (elapsed : Nat) (s : State) : Host.Outcome State Fault Refusal :=
  if s.phase = .loaded then .next (s.elapse elapsed).firstMark else .next s

end Sys2Proof.Machine
end

