-- ==== Sys2Proof/Machine/Timebase.lean ====
section
/-! DEFINITION. Machine/Timebase: ticks, the strobe, PPS edges, the discipline, steps, labels, the timebase requests
(01_timebase_and_sample_strobe.md). -/

namespace Sys2Proof.Machine

/-! ### Ticks and the strobe (R4, R5) -/

/-- The position of the next tick of the second in progress: floor(k · L / R) (R4). -/
def Timebase.tickPosition (t : Timebase) : Nat := t.nextIndex * t.length / t.rate

/-- TICK: the next tick of the second falls due (R4). Tick index 0 belongs to the mark, so no second has more than R. A tick scheduled
at the very edge of a step is not issued: the step comes first in its period, which `timely` asks of the queue (R4; log 24). -/
def execTick (s : State) : Host.Outcome State Fault Refusal :=
  if s.running && decide (s.tb.nextIndex < s.tb.rate) then .next (s.elapseToPeriod s.tb.tickPosition).issueTick
  else .next s

/-- STROBE_END: STROBE is released at the end of its pulse (R5). -/
def execStrobeEnd (s : State) : Host.Outcome State Fault Refusal :=
  match s.tb.strobeUntil with
  | none => .next s
  | some t =>
    let s := s.elapseTo t
    .next (s.setTb { s.tb with strobeUntil := none })

/-! ### The discipline (R8 to R13) -/

/-- An update: D by an eighth of e, c to half of e, both rounded and clamped (R9). -/
def Timebase.update (t : Timebase) (e : Int) : Timebase :=
  { t with
    trim := clampInt (-Config.trimLimit) Config.trimLimit (t.trim + divRound .round e 8)
    correction := clampInt (-Config.correctionLimit) Config.correctionLimit (divRound .round e 2) }

/-- ACQUIRE entered with a good count: the missing count is 0, and the holdover is over (R8, R10, R12, R13, R15). -/
def Timebase.toAcquire (t : Timebase) (good : Nat) : Timebase :=
  { t with discipline := .acquire, goodCount := good, missingCount := 0, holdoverAge := 0, holdoverLong := false }

/-- FREE_RUN entered: c and the counts are 0, D is kept (R10). -/
def Timebase.toFreeRun (t : Timebase) : Timebase :=
  { t with discipline := .freeRun, correction := 0, goodCount := 0, outlierCount := 0, missingCount := 0 }

/-- LOCKED entered: outlier and missing count 0 (R8, R11; log 28). -/
def Timebase.toLocked (t : Timebase) : Timebase := { t with discipline := .locked, outlierCount := 0, missingCount := 0 }

/-- HOLDOVER entered: c 0, age 0, flag clear, good and missing count 0, D as it stands (R8, R12, R13). -/
def Timebase.toHoldover (t : Timebase) : Timebase :=
  { t with
    discipline := .holdover
    correction := 0
    holdoverAge := 0
    holdoverLong := false
    goodCount := 0
    missingCount := 0 }

/-- What a taken edge leads to: an update, an outlier that is counted, or a step (1.4). -/
inductive EdgeAction where
  | update
  | outlier
  | step
  deriving DecidableEq, Repr

/-- The action of the table of 1.4: beyond 500 periods an outlier in LOCKED and a step elsewhere, else an update. -/
def edgeAction (d : Discipline) (e : Int) : EdgeAction :=
  if Config.stepLimit < e.natAbs then
    match d with
    | .locked => .outlier
    | .freeRun | .acquire | .holdover => .step
  else .update

/-- An edge within ±10 periods of its mark (1.4). -/
def goodEdge (e : Int) : Bool := decide (e.natAbs ≤ Config.goodLimit)

/-- A good edge in ACQUIRE: the eighth in a row gives LOCKED (R11). -/
def Timebase.countGood (t : Timebase) : Timebase :=
  let t := { t with goodCount := t.goodCount + 1 }
  if Config.goodToLock ≤ t.goodCount then t.toLocked else t

/-- The state and its counts after an edge that was updated (R10 to R13). -/
def Timebase.afterUpdate (t : Timebase) (e : Int) : Timebase :=
  match t.discipline with
  | .freeRun | .holdover => t.toAcquire (if goodEdge e then 1 else 0)
  | .acquire => if goodEdge e then t.countGood else { t with goodCount := 0 }
  | .locked => { t with outlierCount := 0 }

/-- An outlier in LOCKED: the fourth in a row drops to ACQUIRE (R12). -/
def Timebase.countOutlier (t : Timebase) : Timebase :=
  let t := { t with outlierCount := t.outlierCount + 1 }
  if Config.outliersToDrop ≤ t.outlierCount then t.toAcquire 0 else t

/-! ### PPS edges (R6, R7) -/

/-- An edge is taken: 9,000,000 periods have passed since the last taken one, or none was taken (R6). -/
def Timebase.takesEdge (t : Timebase) : Bool :=
  match t.lastEdge with
  | none => true
  | some at_ => decide (at_ + Config.edgeSpacing ≤ t.clock)

/-- An edge before the half-point belongs to the mark that began the second (R7). -/
def Timebase.beforeHalf (t : Timebase) : Bool := decide (t.period < t.length / 2)

/-- The phase error of an edge at the present position, clamped (R7). -/
def Timebase.phaseError (t : Timebase) : Int :=
  clampInt (-5000000) 4999999 (if t.beforeHalf then (t.period : Int) else (t.period : Int) - (t.length : Int))

/-- A taken edge becomes the last taken edge, is attributed to its mark, ends a run of missing marks, and takes the pending
label (R6 to R8, R17). -/
def Timebase.noteEdge (t : Timebase) : Timebase :=
  { t with
    lastEdge := some t.clock
    missingCount := 0
    attributed := t.attributed || t.beforeHalf
    nextAttributed := t.nextAttributed || !t.beforeHalf
    label := none }

/-- A step's effect on the discipline: ACQUIRE, counts 0, c 0, D kept (R15). -/
def Timebase.stepDiscipline (t : Timebase) : Timebase := { t.toAcquire 0 with correction := 0, nextAttributed := true }

/-- A label differs from the number it would replace (R17). -/
def relabels (label : Option Num32) (number : Num32) : Bool :=
  match label with
  | some n => n != number
  | none => false

/-- A step: the edge is a mark, numbered by the label when there is one; TIME_STEPPED, STEPS and the notices follow
(R15, R17, R19; log 13). -/
def State.stepEdge (s : State) (e : Int) (label : Option Num32) : State :=
  let before := s.tb.discipline
  let next := s.tb.second + 1
  let relabelled := relabels label next
  let s := (s.setTb s.tb.stepDiscipline).makeMark (label.getD next) true relabelled
  let s := ((s.setCondition .timeStepped).count .timeSteps).timebaseNotice .step before (some e)
  if relabelled then s.timebaseNotice .relabel s.tb.discipline (some e) else s

/-- A label consumed by an edge without a step: it renumbers the second in progress at once when the edge's mark is made,
and waits for the coming mark otherwise (R17, R132). -/
def State.consumeLabel (s : State) (early : Bool) (e : Int) (label : Option Num32) : State :=
  match label with
  | none => s
  | some n =>
    if early then
      if n = s.tb.second then s
      else
        let s := s.setTb { s.tb with second := n }
        let s := s.setDec (s.dec.relabelNow s.tb.tick0 n)
        s.timebaseNotice .relabel s.tb.discipline (some e)
    else if n = s.tb.second + 1 then s
    else s.setTb { s.tb with markLabel := some ⟨n, e⟩ }

/-- A STATE_CHANGE notice, when the state changed (R19). -/
def State.reportChange (s : State) (before : Discipline) (error : Option Int) : State :=
  if s.tb.discipline = before then s else s.timebaseNotice .stateChange before error

/-- A taken edge, handled as the discipline state requires (R6 to R17). Where one edge changes the state and also relabels the second
in progress at once, that the STATE_CHANGE notice comes first, and so carries the number the second had before the relabel, is the
model's choice (log 43). -/
def State.takeEdge (s : State) : State :=
  let e := s.tb.phaseError
  let early := s.tb.beforeHalf
  let label := s.tb.label
  let before := s.tb.discipline
  let s := (s.setTb s.tb.noteEdge).setStatus { s.status with code2 := none }
  match edgeAction before e with
  | .step => s.stepEdge e label
  | .update => ((s.setTb ((s.tb.update e).afterUpdate e)).reportChange before (some e)).consumeLabel early e label
  | .outlier =>
    (((s.setTb s.tb.countOutlier).count .ppsOutlier).reportChange before (some e)).consumeLabel early e label

/-- PPS_EDGE: a rising edge on PPS; before the first mark it is neither taken nor counted (R6), and in the period of a mark it
belongs to the new second (R7). An edge that steps comes first in its period, which `timely` asks of the queue (R4, R196; log 24). -/
def execPpsEdge (elapsed : Nat) (s : State) : Host.Outcome State Fault Refusal :=
  let s := s.edgeMoment elapsed
  if s.running then
    if s.tb.takesEdge then .next s.takeEdge else .next (s.count .ppsGlitch)
  else .next s.noteEarlyEdge

/-! ### Missing marks (R8, R10 to R13) -/

/-- The third consecutive missing mark (R10 to R13). -/
def Timebase.loseEdges (t : Timebase) : Timebase :=
  match t.discipline with
  | .freeRun => t
  | .acquire => t.toFreeRun
  | .locked => t.toHoldover
  | .holdover => t

/-- The mark of this second is missing: PPS_MISSING, the missing count, and what the third in a row does (R8 to R13, R19). -/
def State.missMark (s : State) : State :=
  let before := s.tb.discipline
  let s := s.count .ppsMissing
  let s := s.setTb { s.tb with missingCount := min Config.missingToLose (s.tb.missingCount + 1) }
  if s.tb.missingCount = Config.missingToLose then
    let s := s.setTb s.tb.loseEdges
    let s := if s.tb.discipline = .holdover ∧ before = .locked then s.setCondition .holdover else s
    s.reportChange before none
  else s

/-- MISSING_MARK_CHECK: at the half-point, once a second, the mark is missing when no taken edge is attributed to it (R8). -/
def execMissingMarkCheck (s : State) : Host.Outcome State Fault Refusal :=
  if s.running && !s.tb.halfChecked then
    let s := s.elapseToPeriod (s.tb.length / 2)
    let s := s.setTb { s.tb with halfChecked := true }
    if s.tb.attributed then .next s else .next s.missMark
  else .next s

/-! ### Timebase requests (R16, R18) -/

/-- The judgement of TIME_LABEL: the number becomes the pending label (R16). -/
def judgeTimeLabel (q : Request) (s : State) : Reply :=
  Reply.ok (s.setTb { s.tb with label := some (BitVec.ofNat 32 (natAt q.params 0 4)) }) []

/-- TIME_LABEL (R16). -/
def execTimeLabel (s : State) : Host.Outcome State Fault Refusal := .next (s.take .timeLabel judgeTimeLabel)

/-- The rates of R18. -/
def rateOk (r : Nat) : Bool := r == 1 || r == 2 || r == 5 || r == 10 || r == 20

/-- R, D_a and H within R18. -/
def timebaseOk (r d h : Nat) : Bool :=
  rateOk r && decide (1 ≤ d) && decide (d ≤ 4) && decide (60 ≤ h) && decide (h ≤ 86400)

/-- The judgement of TIMEBASE_SET: R and D_a as set, H at once (R18). -/
def judgeTimebaseSet (q : Request) (s : State) : Reply :=
  let r := natAt q.params 0 1
  let d := natAt q.params 1 1
  let h := natAt q.params 2 4
  if timebaseOk r d h then
    Reply.ok (s.setTb { s.tb with rateSet := r, depthSet := d, holdoverLimit := h }).touchSettings []
  else Reply.refuse s .range

/-- TIMEBASE_SET (R18). -/
def execTimebaseSet (s : State) : Host.Outcome State Fault Refusal := .next (s.take .timebaseSet judgeTimebaseSet)

end Sys2Proof.Machine
end

