-- ==== Sys2Proof/Machine/Link.lean ====
section
/-! DEFINITION. Machine/Link: upstream reception, the request queue, the transmitter, the link rate, the output set
(09_station_link_and_requests.md). -/

namespace Sys2Proof.Machine

/-! ### Upstream reception (R160, R161) -/

/-- An upstream frame discarded or abandoned: UPSTREAM_BAD and LINK_CHECK (R160, R161, R178). -/
def State.upstreamBad (s : State) : State := (s.count .upstreamBad).setCondition .linkCheck

/-- The receiver returns to HUNT; a frame in collection is gone (R160). -/
def Link.hunt (l : Link) : Link := { l with framing := .hunt }

/-- The CRC-16 over LEN, KIND and the body agrees with the frame's two CRC bytes; `bytes` are KIND, body and CRC (R161). -/
def upstreamGood (len : Nat) (bytes : List Byte) : Bool :=
  (crc16 (natBytes 1 len ++ bytes.take (len + 1))).toNat == natAt bytes (len + 1) 2

/-- A checked frame confirms a trial that has not run out: the confirmed rate becomes the rate in force (R173, R199; log 31). -/
def State.confirmTrial (s : State) : State :=
  if s.link.rateState = .trial ∧ s.tb.clock ≤ s.link.trialStart + Config.trialPeriods then
    (s.setLink { s.link with confirmedRate := s.link.rate, rateState := .idle }).touchSettings
  else s

/-- A request joins the request queue, or is dropped when that holds 4 (R162). -/
def State.joinRequest (s : State) (q : Request) : State :=
  if s.link.requests.length < Config.requestPlaces then s.setLink { s.link with requests := s.link.requests ++ [q] }
  else (s.count .reqOverrun).setCondition .requestOverrun

/-- The KIND of a request (9.12). -/
def requestKind : Byte := 0x01

/-- A checked frame judged as a request (R161). -/
def State.judgeFrame (s : State) (len : Nat) (bytes : List Byte) : State :=
  if byteAt bytes 0 ≠ requestKind ∨ len < 2 then s.upstreamBad
  else s.joinRequest ⟨byteAt bytes 1, byteAt bytes 2, bytesAt bytes 3 (len - 2)⟩

/-- A frame has arrived: discarded when its CRC differs, else checked, a trial confirmed, and judged (R161). -/
def State.frameArrived (s : State) (len : Nat) (bytes : List Byte) : State :=
  if upstreamGood len bytes then s.confirmTrial.judgeFrame len bytes else s.upstreamBad

/-- The frame that an expiry in this very period found one byte short (R173). -/
def Link.lateAt (l : Link) (clock : Nat) : Option LateFrame := l.late.filter fun f => f.at_ == clock

/-- A frame that arrives together with the expiry of its trial, the expiry taken first: it is checked and judged, and confirms nothing
(R161, R173). That one whose CRC differs counts as UPSTREAM_BAD is the model's choice (log 31). -/
def State.lateFrameArrived (s : State) (len : Nat) (bytes : List Byte) : State :=
  if upstreamGood len bytes then s.judgeFrame len bytes else s.upstreamBad

/-- A byte in HUNT: it completes the frame that an expiry of its own period found one byte short, and that frame is judged; or it is
the sync byte; or it is discarded (R160, R173; log 31). -/
def State.huntByte (s : State) (b : Byte) : State :=
  match s.link.lateAt s.tb.clock with
  | some f => (s.setLink { s.link with late := none }).lateFrameArrived f.len (f.bytes ++ [b])
  | none =>
    if b = Config.linkSync then s.setLink { s.link with framing := .length, lastByteAt := s.tb.clock } else s

/-- A byte is delivered to the framing states (R160). -/
def State.linkByte (s : State) (b : Byte) : State :=
  let l := s.link
  match l.framing with
  | .hunt => s.huntByte b
  | .length =>
    if Config.maxLen < b.toNat then (s.setLink l.hunt).upstreamBad
    else s.setLink { l with framing := .collect b.toNat [], lastByteAt := s.tb.clock }
  | .collect len bytes =>
    if bytes.length + 1 < len + 3 then
      s.setLink { l with framing := .collect len (bytes ++ [b]), lastByteAt := s.tb.clock }
    else (s.setLink l.hunt).frameArrived len (bytes ++ [b])

/-- A byte is received; the receiver runs from the end of the load on (R179, R207). -/
def State.onLinkByte (s : State) (b : Byte) (elapsed : Nat) : State :=
  let s := s.elapse elapsed
  if s.linkUp then s.linkByte b else s

/-- UPSTREAM_FRAME_BYTE: a byte received on the upstream direction (R160). -/
def execUpstreamFrameByte (b : Byte) (elapsed : Nat) (s : State) : Host.Outcome State Fault Refusal :=
  .next (s.onLinkByte b elapsed)

/-- UPSTREAM_FRAME_ARRIVAL: the byte that completes an upstream frame (R160, R161; log 5). -/
def execUpstreamFrameArrival (b : Byte) (elapsed : Nat) (s : State) : Host.Outcome State Fault Refusal :=
  .next (s.onLinkByte b elapsed)

/-- UPSTREAM_LEN_REJECT: a LEN byte beyond 250 (R160; log 5). -/
def execUpstreamLenReject (b : Byte) (elapsed : Nat) (s : State) : Host.Outcome State Fault Refusal :=
  .next (s.onLinkByte b elapsed)

/-- A frame in LENGTH or COLLECT is abandoned; in HUNT nothing is counted (R160). -/
def State.abandonUpstream (s : State) : State :=
  match s.link.framing with
  | .hunt => s
  | .length => (s.setLink s.link.hunt).upstreamBad
  | .collect _ _ => (s.setLink s.link.hunt).upstreamBad

/-- UPSTREAM_FRAMING_ERROR: a character with a framing error (R158, R160). -/
def execUpstreamFramingError (elapsed : Nat) (s : State) : Host.Outcome State Fault Refusal :=
  let s := s.elapse elapsed
  if s.linkUp then .next s.abandonUpstream else .next s

/-- The rate as the bit timing takes it: an M of 0 is treated as 1 (R158). -/
def timingRate (m : Count16) : Nat := max m.toNat 1

/-- The whole periods in 200 bit times at a rate M: 200 · 16 · 65,536 / M (R158, R160). -/
def gapPeriods (m : Count16) : Nat := Config.linkGapBits * 16 * 65536 / timingRate m

/-- UPSTREAM_GAP_ABANDON: more than 200 bit times have passed since the last byte of a frame in LENGTH or COLLECT (R160). -/
def execUpstreamGapAbandon (s : State) : Host.Outcome State Fault Refusal :=
  if s.linkUp && s.link.framing != .hunt then
    .next (s.elapseTo (s.link.lastByteAt + gapPeriods s.link.rate + 1)).abandonUpstream
  else .next s

/-! ### The transmitter (R170) -/

/-- FRAME_START: the idle transmitter starts the oldest frame while HOLD_IN is released (R170). -/
def execFrameStart (s : State) : Host.Outcome State Fault Refusal :=
  if s.linkUp && !s.link.sending && !s.link.output.isEmpty && !s.link.holdIn then
    .next (s.setLink { s.link with sending := true })
  else .next s

/-- The rate returns to the confirmed one, and the receiver abandons a frame in collection without count (R174). -/
def Link.revert (l : Link) : Link := { l.hunt with rate := l.confirmedRate, revertPending := false }

/-- The frame in collection that lacks its last byte alone (R160). -/
def Link.lastByteMissing (l : Link) (clock : Nat) : Option LateFrame :=
  match l.framing with
  | .hunt => none
  | .length => none
  | .collect len bytes => if bytes.length + 1 = len + 3 then some ⟨len, bytes, clock⟩ else none

/-- The rate returns at the expiry itself: a frame that arrives together with it is complete and still judged as a request, without
confirming anything, so one that lacks its last byte is kept for that byte (R173, R174; log 31). -/
def Link.revertAtExpiry (l : Link) (clock : Nat) : Link := { l.revert with late := l.lastByteMissing clock }

/-- The waiting rate comes into force in both directions: the trial starts (R172). -/
def Link.startTrial (l : Link) (clock : Nat) : Link :=
  match l.waitingRate with
  | some m => { l.hunt with rate := m, rateState := .trial, waitingRate := none, trialStart := clock }
  | none => l

/-- The freed place goes to a held SAVE response (R165). -/
def Link.admitHeld (l : Link) : Link :=
  match l.heldSave with
  | some r => { l with output := l.output ++ [⟨.response r, false⟩], heldSave := none }
  | none => l

/-- The last byte of the frame being sent has been sent: its place is freed and the transmitter is idle; a return of the
rate or a trial takes effect; a held SAVE response takes the place (R165, R170, R172, R174). -/
def Link.sent (l : Link) (f : Frame) (rest : List Frame) (clock : Nat) : Link :=
  let l := { l with output := rest, sending := false }
  let l := if l.revertPending then l.revert else l
  let l := if f.tied ∧ l.rateState = .waiting then l.startTrial clock else l
  l.admitHeld

/-- FRAME_SENT: the last byte of the frame being sent has been sent (R170). -/
def execFrameSent (elapsed : Nat) (s : State) : Host.Outcome State Fault Refusal :=
  if s.link.sending then
    match s.link.output with
    | [] => .next s
    | f :: rest =>
      let s := s.elapse elapsed
      .next (s.setLink (s.link.sent f rest s.tb.clock))
  else .next s

/-- HOLD_IN_CHANGE: the logger asserts or releases HOLD_IN; it is read when a frame would start (R170). -/
def execHoldInChange (asserted : Bool) (elapsed : Nat) (s : State) : Host.Outcome State Fault Refusal :=
  let s := s.elapse elapsed
  .next (s.setLink { s.link with holdIn := asserted })

/-! ### Link rate (R171 to R174) -/

/-- LINK_TRIAL_EXPIRY: 100,000,000 periods of a trial have passed: LINK_REVERTED, the LINK notice, and the rate returns at
once or at the end of the frame being sent (R173, R174). A frame that arrives together with the expiry is judged either side of it:
before it it confirms the trial, after it it is a request alone (R173). That the rate change state is IDLE from the expiry on, also while a
return waits with the trial rate in force, is the model's choice (log 41). -/
def execLinkTrialExpiry (s : State) : Host.Outcome State Fault Refusal :=
  if s.link.rateState = .trial then
    let s := s.elapseTo (s.link.trialStart + Config.trialPeriods)
    let s := (s.setCondition .linkReverted).offerNotice (.link s.link.rate s.link.confirmedRate)
    let l := { s.link with rateState := .idle }
    .next (s.setLink (if l.sending then { l with revertPending := true } else l.revertAtExpiry s.tb.clock))
  else .next s

/-- No frame in the queue is tied to a rate change any more (R171). -/
def Link.untie (l : Link) : Link := { l with output := l.output.map fun f => { f with tied := false } }

/-- LINK_RATE's answer: OK with the M carried; `tied` ties a waiting change to it (R171). -/
def rateReply (s : State) (m : Count16) (tied : Bool) : Reply := { Reply.ok s (natBytes 2 m.toNat) with tied := tied }

/-- The judgement of LINK_RATE by the rate change state; in TRIAL, which R171 rules out, it changes nothing (R171; log 12). -/
def judgeLinkRate (q : Request) (s : State) : Reply :=
  let m : Count16 := BitVec.ofNat 16 (natAt q.params 0 2)
  let l := s.link
  match l.rateState with
  | .idle =>
    if m = l.confirmedRate then rateReply s m false
    else rateReply (s.setLink { l.untie with waitingRate := some m, rateState := .waiting }) m true
  | .waiting =>
    if m = l.confirmedRate then rateReply (s.setLink { l.untie with waitingRate := none, rateState := .idle }) m false
    else rateReply (s.setLink { l.untie with waitingRate := some m }) m true
  | .trial => rateReply s m false

/-- LINK_RATE (R171). -/
def execLinkRate (s : State) : Host.Outcome State Fault Refusal := .next (s.take .linkRate judgeLinkRate)

/-! ### Output set (R175) -/

/-- The judgement of OUTPUT_SET: a set of SECOND, MINUTE and EVENT alone (R175). -/
def judgeOutputSet (q : Request) (s : State) : Reply :=
  let mask := natAt q.params 0 1
  if mask < 8 then Reply.ok (s.setLink { s.link with outputSet := BitVec.ofNat 3 mask }).touchSettings []
  else Reply.refuse s .range

/-- OUTPUT_SET (R175). -/
def execOutputSet (s : State) : Host.Outcome State Fault Refusal := .next (s.take .outputSet judgeOutputSet)

end Sys2Proof.Machine
end

