-- ==== Sys2Proof/Machine/StatusUnit.lean ====
section
/-! DEFINITION. Machine/StatusUnit: the requests of the status unit and the end of the code-2 interval
(10_conditions_fault_capture_and_auxiliary_lines.md). -/

namespace Sys2Proof.Machine

/-! ### Conditions and masks (R183, R184, R189) -/

/-- A mask of the fourteen conditions: bits 14 and 15 clear (R183, R184). -/
def conditionMaskAt (l : List Byte) : Option ConditionSet :=
  if natAt l 0 2 < 16384 then some (BitVec.ofNat 14 (natAt l 0 2)) else none

/-- The judgement of CONDITIONS_CLEAR: the named conditions leave the set, which is returned (R183). -/
def judgeConditionsClear (q : Request) (s : State) : Reply :=
  match conditionMaskAt q.params with
  | some m =>
    let left := s.status.conditions &&& ~~~m
    Reply.ok (s.setStatus { s.status with conditions := left }) (natBytes 2 left.toNat)
  | none => Reply.refuse s .range

/-- CONDITIONS_CLEAR (R183). -/
def execConditionsClear (s : State) : Host.Outcome State Fault Refusal :=
  .next (s.take .conditionsClear judgeConditionsClear)

/-- The judgement of ALERT_MASK_SET (R184). -/
def judgeAlertMaskSet (q : Request) (s : State) : Reply :=
  match conditionMaskAt q.params with
  | some m => Reply.ok (s.setStatus { s.status with alertMask := m }).touchSettings []
  | none => Reply.refuse s .range

/-- ALERT_MASK_SET (R184). -/
def execAlertMaskSet (s : State) : Host.Outcome State Fault Refusal := .next (s.take .alertMaskSet judgeAlertMaskSet)

/-- The judgement of CAPTURE_MASK_SET: bits 5 to 7 clear (R189). -/
def judgeCaptureMaskSet (q : Request) (s : State) : Reply :=
  let mask := natAt q.params 0 1
  if mask < 32 then Reply.ok (s.setStatus { s.status with captureMask := BitVec.ofNat 5 mask }).touchSettings []
  else Reply.refuse s .range

/-- CAPTURE_MASK_SET (R189). -/
def execCaptureMaskSet (s : State) : Host.Outcome State Fault Refusal :=
  .next (s.take .captureMaskSet judgeCaptureMaskSet)

/-! ### Counters (R185, R186) -/

/-- The counters of a group as they stand, two bytes each, in the order of R185. -/
def State.groupData (s : State) (g : Nat) : List Byte :=
  (counterGroup g).flatMap fun i => natBytes 2 (s.status.counters[i]).toNat

/-- The counters of a group set to 0 (R186). -/
def State.clearGroup (s : State) (g : Nat) : State :=
  s.setStatus { s.status with
    counters := Vector.ofFn fun i => if (counterGroup g).contains i then 0 else s.status.counters[i] }

/-- A group number, 0 to 6 (R186). -/
def groupOk (g : Nat) : Bool := decide (g ≤ 6)

/-- The judgement of COUNTERS_READ (R186). -/
def judgeCountersRead (q : Request) (s : State) : Reply :=
  let g := natAt q.params 0 1
  if groupOk g then Reply.ok s (s.groupData g) else Reply.refuse s .range

/-- COUNTERS_READ (R186). -/
def execCountersRead (s : State) : Host.Outcome State Fault Refusal := .next (s.take .countersRead judgeCountersRead)

/-- The judgement of COUNTERS_CLEAR: the values as they stood are returned (R186). -/
def judgeCountersClear (q : Request) (s : State) : Reply :=
  let g := natAt q.params 0 1
  if groupOk g then Reply.ok (s.clearGroup g) (s.groupData g) else Reply.refuse s .range

/-- COUNTERS_CLEAR (R186). -/
def execCountersClear (s : State) : Host.Outcome State Fault Refusal := .next (s.take .countersClear judgeCountersClear)

/-! ### Fault capture (R190, R191) -/

/-- The data of FAULT_READ and FAULT_RELEASE: EMPTY 0 or FROZEN 1 (log 11), the record or zeros, the five fault counts (R190). No
layout gives a fault count its width: 2 bytes are the model's choice (log 10). -/
def StatusUnit.captureData (u : StatusUnit) : List Byte :=
  (match u.capture with
   | none => natBytes 14 0
   | some f => natBytes 1 1 ++ f.bytes) ++
    [0, 1, 2, 3, 4].flatMap fun i : Fin 5 => natBytes 2 (u.faultCounts[i]).toNat

/-- The judgement of FAULT_READ (R190). -/
def judgeFaultRead (_ : Request) (s : State) : Reply := Reply.ok s s.status.captureData

/-- FAULT_READ (R190). -/
def execFaultRead (s : State) : Host.Outcome State Fault Refusal := .next (s.take .faultRead judgeFaultRead)

/-- The record emptied and the fault counts set to 0 (R191). -/
def StatusUnit.release (u : StatusUnit) : StatusUnit := { u with capture := none, faultCounts := Vector.replicate 5 0 }

/-- The judgement of FAULT_RELEASE: what stood before is returned (R191). -/
def judgeFaultRelease (_ : Request) (s : State) : Reply := Reply.ok (s.setStatus s.status.release) s.status.captureData

/-- FAULT_RELEASE (R191). -/
def execFaultRelease (s : State) : Host.Outcome State Fault Refusal := .next (s.take .faultRelease judgeFaultRelease)

/-! ### The code-2 interval (R192) -/

/-- CODE2_INTERVAL_END: 100,000,000 periods have passed since the first mark, and code 2 ends (R192). -/
def execCode2IntervalEnd (s : State) : Host.Outcome State Fault Refusal :=
  match s.status.code2 with
  | none => .next s
  | some t =>
    let s := s.elapseTo (t + Config.code2Periods)
    .next (s.setStatus { s.status with code2 := none })

end Sys2Proof.Machine
end

