-- ==== Sys2Proof/Machine/Lines.lean ====
section
/-! DEFINITION. Machine/Lines: the auxiliary lines and the marker input (R193 to R196). -/

namespace Sys2Proof.Machine

/-! ### LINE_SET (R193, R194) -/

/-- The line settings that LINE_SET carries from byte 1 on; none for a value out of range (R194). -/
def lineSettingsAt (l : List Byte) : Option LineSettings :=
  match choiceAt designationChoice (byteAt l 1), choiceAt dutyChoice (byteAt l 3) with
  | some designation, some duty =>
    let k := natAt l 2 1
    if 7 < k then none
    else if designation = .clockOut ∧ k ≤ 1 ∧ duty ≠ .d50 then none
    else some ⟨designation, k, duty⟩
  | some _, none => none
  | none, _ => none

/-- The line that is MARKER_IN, other than the one named (R194). -/
def Auxiliary.otherMarker (a : Auxiliary) (i : Fin 4) : Option (Fin 4) :=
  allLines.find? fun j => j != i && (a.lines[j]).settings.designation == .markerIn

/-- A line set: it stays high only if it was and stays SECOND_MARK, and a clock output begins a new cycle when it becomes
one or its k or duty changes (R193; log 30). -/
def AuxLine.set (old : AuxLine) (new : LineSettings) (clock : Nat) : AuxLine where
  settings := new
  raised := old.raised && old.settings.designation == .secondMark && new.designation == .secondMark
  cycleStart := if new.designation = .clockOut ∧ old.settings ≠ new then clock else old.cycleStart

/-- The judgement of LINE_SET: RANGE, then CONFLICT with the number of the line that is MARKER_IN (R194). -/
def judgeLineSet (q : Request) (s : State) : Reply :=
  match choiceAt lineChoice (byteAt q.params 0), lineSettingsAt q.params with
  | some i, some new =>
    match (if new.designation = .markerIn then s.aux.otherMarker i else none) with
    | some j => Reply.of s .conflict (natBytes 1 j.val)
    | none =>
      Reply.ok (s.setAux { s.aux with lines := s.aux.lines.set i ((s.aux.lines[i]).set new s.tb.clock) }).touchSettings []
  | some _, none => Reply.refuse s .range
  | none, _ => Reply.refuse s .range

/-- LINE_SET (R194). -/
def execLineSet (s : State) : Host.Outcome State Fault Refusal := .next (s.take .lineSet judgeLineSet)

/-- SECOND_MARK_END: 1,000,000 periods after the last mark the SECOND_MARK lines fall (R193). -/
def execSecondMarkEnd (s : State) : Host.Outcome State Fault Refusal :=
  match s.aux.secondMarkEnd with
  | none => .next s
  | some t =>
    let s := s.elapseTo t
    .next (s.setAux { s.aux with
      lines := Vector.ofFn fun i => { s.aux.lines[i] with raised := false }
      secondMarkEnd := none })

/-! ### Marker input (R195, R196) -/

/-- The judgement of MARKER_SET (R195). -/
def judgeMarkerSet (q : Request) (s : State) : Reply :=
  match choiceAt selectionChoice (byteAt q.params 0) with
  | some x => Reply.ok (s.setAux { s.aux with selection := x }).touchSettings []
  | none => Reply.refuse s .range

/-- MARKER_SET (R195). -/
def execMarkerSet (s : State) : Host.Outcome State Fault Refusal := .next (s.take .markerSet judgeMarkerSet)

/-- The edge's direction is in the selection (R196). -/
def EdgeSelection.takes (x : EdgeSelection) (edge : Edge) : Bool :=
  match x, edge with
  | .rising, .rising => true
  | .rising, .falling => false
  | .falling, .rising => false
  | .falling, .falling => true
  | .both, _ => true

/-- 100,000 periods have passed since the last taken marker edge, or none was taken (R196). -/
def State.markerSpaced (s : State) : Bool :=
  match s.aux.lastMarker with
  | none => true
  | some t => decide (t + Config.markerSpacing ≤ s.tb.clock)

/-- A line is MARKER_IN (R196). -/
def Auxiliary.hasMarker (a : Auxiliary) : Bool := allLines.any fun i => (a.lines[i]).settings.designation == .markerIn

/-- A marker edge is taken (R196). -/
def State.takesMarker (s : State) (edge : Edge) : Bool :=
  s.aux.hasMarker && s.aux.selection.takes edge && s.running && s.markerSpaced

/-- A taken marker edge: its position is kept, and its event record is offered when EVENT is in the output set (R196). -/
def State.takeMarker (s : State) (edge : Edge) : State :=
  let s := s.setAux { s.aux with lastMarker := some s.tb.clock }
  if s.link.outputSet.getLsbD 2 then s.offerData (.event ⟨s.tb.second, s.tb.period, edge, s.tb.quality⟩) else s

/-- MARKER_EDGE: an edge on the MARKER_IN line, taken or ignored; in the period of a mark it belongs to the new second, so the mark of a
step in its period comes before it, which `timely` asks of the queue (R196; log 24). -/
def execMarkerEdge (edge : Edge) (elapsed : Nat) (s : State) : Host.Outcome State Fault Refusal :=
  let s := s.edgeMoment elapsed
  if s.takesMarker edge then .next (s.takeMarker edge)
  else if s.running then .next s
  else .next s.noteEarlyEdge

end Sys2Proof.Machine
end

