-- ==== Sys2Proof/Machine/SettingsStore.lean ====
section
/-! DEFINITION. Machine/SettingsStore: saves, protection, the restart schedule, power-on and power loss
(11_settings_store_and_start_up.md). -/

namespace Sys2Proof.Machine

/-! ### Saving (R204, R205) -/

/-- A save starts: the snapshot is taken, the change note cleared, the image INVALID and rewritten in place, so that no whole
image is there until the save ends (R200, R204; log 8). -/
def State.startSave (s : State) (tag : Byte) : State :=
  s.setSettings { s.settings with
    save := some ⟨s.workingSettings, tag, s.tb.clock⟩
    changeNote := false
    image := { s.settings.image with contents := none, validity := .invalid } }

/-- The judgement of SAVE: BUSY, LOCKED, or a save that is answered at its end (R165, R204). -/
def judgeSave (q : Request) (s : State) : Reply :=
  if s.staging.commitScheduled || s.settings.save.isSome then Reply.refuse s .busy
  else if s.settings.level ≠ .opened then Reply.refuse s .locked
  else { Reply.ok (s.startSave q.tag) [] with answered := false }

/-- SAVE (R204). -/
def execSave (s : State) : Host.Outcome State Fault Refusal := .next (s.take .save judgeSave)

/-- The image that a verified save leaves (R200, R205). -/
def Image.written (contents : Settings) : Image := ⟨some contents, crc32 (Config.imageBytes contents), .valid⟩

/-- The settings store at the end of a save (R205). -/
def SettingsStore.endSave (x : SettingsStore) (r : RunningSave) (verified : Bool) : SettingsStore :=
  if verified then { x with save := none, image := Image.written r.snapshot, unsaved := x.changeNote }
  else { x with save := none, unsaved := true }

/-- The SAVE response built at the end of a save (R164, R205). -/
def saveResponse (tag : Byte) (verified : Bool) : Response :=
  ⟨tag, RequestName.code .save, if verified then .ok else .saveFailed, 0, []⟩

/-- The SAVE response joins the output queue, or is held while no place is free (R165). -/
def Link.offerSave (l : Link) (r : Response) : Link :=
  if l.output.length < Config.outputPlaces then { l with output := l.output ++ [⟨.response r, false⟩] }
  else { l with heldSave := some r }

/-- SAVE_END: the running save ends with its write verify, which passes or fails (R205; log 8). -/
def execSaveEnd (verified : Bool) (elapsed : Nat) (s : State) : Host.Outcome State Fault Refusal :=
  match s.settings.save with
  | none => .next s
  | some r =>
    let s := s.elapse elapsed
    let s := s.setSettings (s.settings.endSave r verified)
    let s := if verified then s else s.setCondition .saveFailed
    .next (s.setLink (s.link.offerSave (saveResponse r.tag verified)))

/-! ### Restart and protection (R202, R203, R209) -/

/-- The judgement of RESTART: BUSY while a commit or a restart is scheduled, else scheduled for the next mark (R209). -/
def judgeRestart (_ : Request) (s : State) : Reply :=
  if s.staging.commitScheduled then Reply.refuse s .busy
  else if s.staging.restartScheduled then Reply.refuse s .busy
  else Reply.ok (s.setStaging { s.staging with restartScheduled := true }) []

/-- RESTART (R209). -/
def execRestart (s : State) : Host.Outcome State Fault Refusal := .next (s.take .restart judgeRestart)

/-- The level LOCK_SESSION leaves (R202). -/
def Protection.locked : Protection → Protection
  | .opened => .sessionLocked
  | .sessionLocked => .sessionLocked
  | .fixed => .fixed

/-- The judgement of LOCK_SESSION (R202). -/
def judgeLockSession (_ : Request) (s : State) : Reply :=
  let level := s.settings.level.locked
  Reply.ok (s.setSettings { s.settings with level := level }) (posByte level.position)

/-- LOCK_SESSION (R202). -/
def execLockSession (s : State) : Host.Outcome State Fault Refusal := .next (s.take .lockSession judgeLockSession)

/-- The FIXED flag written and the level FIXED (R203). -/
def SettingsStore.fix (x : SettingsStore) : SettingsStore :=
  { x with identity := { x.identity with fixed := true }, level := .fixed }

/-- The judgement of FIX_PERMANENT (R203). -/
def judgeFixPermanent (_ : Request) (s : State) : Reply :=
  if s.settings.save.isSome then Reply.refuse s .busy
  else if s.settings.level ≠ .opened then Reply.refuse s .locked
  else Reply.ok (s.setSettings s.settings.fix) (posByte Protection.fixed.position)

/-- FIX_PERMANENT (R203). -/
def execFixPermanent (s : State) : Host.Outcome State Fault Refusal := .next (s.take .fixPermanent judgeFixPermanent)

/-! ### Power (R206, R207) -/

/-- The check of power-on: the CRC-32 over the image is computed and compared with the stored one; VALID when they agree. What
an interrupted or failed save leaves is no whole image and is INVALID (R200, R206, R207 item 2). -/
def Image.check (x : Image) : Validity :=
  match x.contents with
  | some c => if crc32 (Config.imageBytes c) = x.crc then .valid else .invalid
  | none => .invalid

/-- The image with the validity that the check of power-on finds (R200, R207). -/
def Image.checked (x : Image) : Image := { x with validity := x.check }

/-- The working settings a power-on loads: the image's when the check finds it VALID, the defaults otherwise (R207). -/
def Image.load (x : Image) : Settings :=
  match x.check with
  | .valid => x.contents.getD Settings.default
  | .invalid => Settings.default

/-- The settings store after a load (R201, R207): the image checked, the identity area kept, the level by the FIXED flag. -/
def SettingsStore.loaded (x : SettingsStore) : SettingsStore where
  image := x.image.checked
  identity := x.identity
  level := if x.identity.fixed then .fixed else .opened
  unsaved := x.image.check == .invalid
  changeNote := false
  save := none
  resetCause := .powerOn

/-- The device once its settings load has ended: every block at its power-on values, STORE_INVALID after defaults (R207). -/
def State.powerOn (s : State) : State :=
  let x := s.settings.loaded
  let fresh := State.fresh .loaded s.settings.image.load x s.link.holdIn s.pending
  if x.image.validity = .invalid then fresh.setCondition .storeInvalid else fresh

/-- POWER_ON: power is applied and the settings load runs to its end (R207; the image's bytes are log 8, a powered device
log 34). -/
def execPowerOn (s : State) : Host.Outcome State Fault Refusal := .next s.powerOn

/-- What survives without power: the image and the identity area; a save that was running did not end (R206; log 9). -/
def SettingsStore.unpowered (x : SettingsStore) : SettingsStore :=
  { SettingsStore.newDevice with image := x.image, identity := x.identity }

/-- POWER_LOSS: run-time state and working settings are lost (R206; log 9). -/
def execPowerLoss (s : State) : Host.Outcome State Fault Refusal :=
  .next (State.fresh .off Settings.default s.settings.unpowered s.link.holdIn s.pending)

end Sys2Proof.Machine
end

