-- ==== Sys2Proof/Machine/Report.lean ====
section
/-! DEFINITION. Machine/Report: IDENT and STATUS (R176, R177, R92, R113). The widths of items that no layout table gives are
the model's (log 10), and two-valued items follow log 11. -/

namespace Sys2Proof.Machine

/-! ### IDENT (R177) -/

/-- The data of IDENT: family code, part number, hardware revision, serial number, station code, protection level (R177). -/
def SettingsStore.identData (x : SettingsStore) : List Byte :=
  natBytes 1 Config.familyCode ++ natBytes 2 Config.partNumber ++ [x.identity.revision] ++
    natBytes 4 x.identity.serial.toNat ++ x.identity.station.toList ++ posByte x.level.position

/-- The judgement of IDENT (R177). -/
def judgeIdent (_ : Request) (s : State) : Reply := Reply.ok s s.settings.identData

/-- IDENT (R177). -/
def execIdent (s : State) : Host.Outcome State Fault Refusal := .next (s.take .ident judgeIdent)

/-! ### STATUS (R176) -/

/-- The sections of STATUS (R176, R181). -/
inductive Section where
  | timebase
  | ports
  | corrector
  | triads
  | device
  deriving DecidableEq, Repr

def sectionChoice : List Section := [.timebase, .ports, .corrector, .triads, .device]

/-- Section TIMEBASE (R18, R176). No rule gives the holdover age a width: the 4 bytes of the limit H it is judged against are the
model's choice (log 10). -/
def Timebase.statusData (t : Timebase) : List Byte :=
  posByte t.discipline.position ++ intBytes 2 t.trim ++ natBytes 1 t.rate ++ natBytes 1 t.depth ++
    natBytes 1 t.rateSet ++ natBytes 1 t.depthSet ++ natBytes 4 t.holdoverLimit ++ natBytes 4 t.holdoverAge ++
    bitByte t.holdoverLong ++ natBytes 4 t.second.toNat ++ natBytes 4 t.markCount.toNat ++
    natBytes 4 t.tickCount.toNat ++ optNatBytes 4 (t.label.map BitVec.toNat)

/-- One port of section PORTS (R34, R176). -/
def SensorPort.statusData (p : SensorPort) : List Byte :=
  posByte p.mode.position ++ firstByte p.settings.enabled ++ natBytes 1 p.fifo.length ++ firstByte p.paceLatch ++
    firstByte p.paceLine ++ natBytes 1 p.settings.threshold ++ posByte p.settings.policy.position ++
    heldErrorBytes p.heldError

/-- The held temperature of a TEMPERATURE channel with its age, when present (R92); the channel number before it is the model's
choice (log 10). -/
def State.heldData (s : State) (n : Fin 16) : List Byte :=
  natBytes 1 n.val ++
    (match s.corr.held[n] with
     | none => natBytes 7 0
     | some h => natBytes 1 1 ++ intBytes 2 h.value ++ natBytes 4 (h.age s.tb.markCount))

/-- The last good correction of a channel that holds a segment, when present (R92); the channel number before it is the model's
choice (log 10). -/
def State.lastGoodData (s : State) (n : Fin 16) : List Byte :=
  natBytes 1 n.val ++
    (match s.corr.lastGood[n] with
     | none => natBytes 6 0
     | some g => natBytes 1 1 ++ intBytes 3 g.offset ++ intBytes 2 g.gain)

/-- The channels of kind TEMPERATURE, and those that hold a segment, of a configuration (R92). -/
def Configuration.temperatureKind (c : Configuration) : List (Fin 16) :=
  allChannels.filter fun n => (c.channels[n]).kind == .temperature

def Configuration.segmentHolders (c : Configuration) : List (Fin 16) :=
  allChannels.filter fun n => (c.channels[n]).segment.isSome

/-- Section CORRECTOR (R92, R176). -/
def State.correctorData (s : State) : List Byte :=
  countedBytes s.heldData s.staging.active.temperatureKind ++
    countedBytes s.lastGoodData s.staging.active.segmentHolders

/-- A held suspect's tick count and components, when one is held (R113). -/
def suspectBytes : Option Suspect → List Byte
  | none => natBytes 17 0
  | some p => natBytes 1 1 ++ natBytes 4 p.tick.count.toNat ++ p.vector.bytes 4

/-- One triad of section TRIADS: the state CLEAR 0 or SUSPECT 1 first (R113, R176). -/
def Screen.statusData (sc : Screen) : List Byte :=
  bitByte sc.suspect.isSome ++ optVectorBytes sc.reference ++ natBytes 1 sc.run ++ suspectBytes sc.suspect ++
    bitByte sc.pendingClear

/-- Section DEVICE (R176): generation, commit state IDLE 0 or SCHEDULED 1, and the rest in the order of the table. -/
def State.deviceData (s : State) : List Byte :=
  natBytes 4 s.staging.generation.toNat ++ bitByte s.staging.commitScheduled ++ bitByte s.staging.restartScheduled ++
    bitByte s.settings.save.isSome ++ bitByte s.settings.unsaved ++ posByte s.settings.level.position ++
    posByte s.settings.resetCause.position ++ natBytes 2 s.link.rate.toNat ++ natBytes 2 s.link.confirmedRate.toNat ++
    posByte s.link.rateState.position ++ natBytes 1 s.link.outputSet.toNat ++
    natBytes 1 (s.link.output.countP fun f => !f.body.isData) ++ natBytes 1 (s.link.output.countP fun f => f.body.isData) ++
    natBytes 1 s.link.requests.length ++ natBytes 2 s.link.secondsLost.toNat ++ natBytes 2 s.link.minutesLost.toNat ++
    natBytes 2 s.status.conditions.toNat ++ firstByte s.alert ++ natBytes 1 s.indicator ++
    bitByte s.status.capture.isSome

/-- The data of a section, as it stands when the request is taken (R176). -/
def State.sectionData (s : State) : Section → List Byte
  | .timebase => s.tb.statusData
  | .ports => s.portA.statusData ++ s.portB.statusData
  | .corrector => s.correctorData
  | .triads => (s.screens[0]).statusData ++ (s.screens[1]).statusData
  | .device => s.deviceData

/-- The judgement of STATUS (R176). The request has left the request queue when the section is read (R163). -/
def judgeStatus (q : Request) (s : State) : Reply :=
  match choiceAt sectionChoice (byteAt q.params 0) with
  | some x => Reply.ok s (s.sectionData x)
  | none => Reply.refuse s .range

/-- STATUS (R176). -/
def execStatus (s : State) : Host.Outcome State Fault Refusal := .next (s.take .status judgeStatus)

end Sys2Proof.Machine
end

