-- ==== Sys2Proof/Machine/Dispatch.lean ====
section
/-! DEFINITION. Machine/Dispatch: one arm per command of the table, in its order. -/

namespace Sys2Proof.Machine

def exec (i : Instr) (s : State) : Host.Outcome State Fault Refusal :=
  match i with
  | .powerOn => Sys2Proof.Machine.execPowerOn s
  | .startUpComplete elapsed => Sys2Proof.Machine.execStartUpComplete elapsed s
  | .mark => Sys2Proof.Machine.execMark s
  | .tick => Sys2Proof.Machine.execTick s
  | .strobeEnd => Sys2Proof.Machine.execStrobeEnd s
  | .missingMarkCheck => Sys2Proof.Machine.execMissingMarkCheck s
  | .ppsEdge elapsed => Sys2Proof.Machine.execPpsEdge elapsed s
  | .sampleFrameArrival port byte elapsed => Sys2Proof.Machine.execSampleFrameArrival port byte elapsed s
  | .frameAbandon port => Sys2Proof.Machine.execFrameAbandon port s
  | .entryTake => Sys2Proof.Machine.execEntryTake s
  | .tickClose elapsed => Sys2Proof.Machine.execTickClose elapsed s
  | .upstreamFrameArrival byte elapsed => Sys2Proof.Machine.execUpstreamFrameArrival byte elapsed s
  | .upstreamLenReject byte elapsed => Sys2Proof.Machine.execUpstreamLenReject byte elapsed s
  | .upstreamFramingError elapsed => Sys2Proof.Machine.execUpstreamFramingError elapsed s
  | .upstreamGapAbandon => Sys2Proof.Machine.execUpstreamGapAbandon s
  | .requestUnknownCode => Sys2Proof.Machine.execRequestUnknownCode s
  | .ident => Sys2Proof.Machine.execIdent s
  | .status => Sys2Proof.Machine.execStatus s
  | .outputSet => Sys2Proof.Machine.execOutputSet s
  | .linkRate => Sys2Proof.Machine.execLinkRate s
  | .timeLabel => Sys2Proof.Machine.execTimeLabel s
  | .timebaseSet => Sys2Proof.Machine.execTimebaseSet s
  | .portReset => Sys2Proof.Machine.execPortReset s
  | .portEnable => Sys2Proof.Machine.execPortEnable s
  | .portSet => Sys2Proof.Machine.execPortSet s
  | .channelSet => Sys2Proof.Machine.execChannelSet s
  | .channelGet => Sys2Proof.Machine.execChannelGet s
  | .triadSet => Sys2Proof.Machine.execTriadSet s
  | .triadGet => Sys2Proof.Machine.execTriadGet s
  | .filterShape => Sys2Proof.Machine.execFilterShape s
  | .filterTaps => Sys2Proof.Machine.execFilterTaps s
  | .filterGet => Sys2Proof.Machine.execFilterGet s
  | .discard => Sys2Proof.Machine.execDiscard s
  | .commit => Sys2Proof.Machine.execCommit s
  | .storeWrite => Sys2Proof.Machine.execStoreWrite s
  | .storeRead => Sys2Proof.Machine.execStoreRead s
  | .storePoison => Sys2Proof.Machine.execStorePoison s
  | .conditionsClear => Sys2Proof.Machine.execConditionsClear s
  | .countersRead => Sys2Proof.Machine.execCountersRead s
  | .countersClear => Sys2Proof.Machine.execCountersClear s
  | .faultRead => Sys2Proof.Machine.execFaultRead s
  | .faultRelease => Sys2Proof.Machine.execFaultRelease s
  | .alertMaskSet => Sys2Proof.Machine.execAlertMaskSet s
  | .captureMaskSet => Sys2Proof.Machine.execCaptureMaskSet s
  | .lineSet => Sys2Proof.Machine.execLineSet s
  | .markerSet => Sys2Proof.Machine.execMarkerSet s
  | .save => Sys2Proof.Machine.execSave s
  | .restart => Sys2Proof.Machine.execRestart s
  | .lockSession => Sys2Proof.Machine.execLockSession s
  | .fixPermanent => Sys2Proof.Machine.execFixPermanent s
  | .saveEnd verified elapsed => Sys2Proof.Machine.execSaveEnd verified elapsed s
  | .frameStart => Sys2Proof.Machine.execFrameStart s
  | .frameSent elapsed => Sys2Proof.Machine.execFrameSent elapsed s
  | .holdInChange asserted elapsed => Sys2Proof.Machine.execHoldInChange asserted elapsed s
  | .linkTrialExpiry => Sys2Proof.Machine.execLinkTrialExpiry s
  | .markerEdge edge elapsed => Sys2Proof.Machine.execMarkerEdge edge elapsed s
  | .secondMarkEnd => Sys2Proof.Machine.execSecondMarkEnd s
  | .code2IntervalEnd => Sys2Proof.Machine.execCode2IntervalEnd s
  | .sampleFrameByte port byte elapsed => Sys2Proof.Machine.execSampleFrameByte port byte elapsed s
  | .upstreamFrameByte byte elapsed => Sys2Proof.Machine.execUpstreamFrameByte byte elapsed s
  | .powerLoss => Sys2Proof.Machine.execPowerLoss s

end Sys2Proof.Machine
end

