-- ==== Sys2Proof/Machine/Step.lean ====
section
/-! DEFINITION. Machine/Step: one step takes the command at the front of the queue; on an empty queue the block idles (log 1). -/

namespace Sys2Proof.Machine

/-- One step: the command at the front of the queue, run on the state with the queue's rest; nothing to do on an empty queue. -/
def step (s : State) : Host.Outcome State Fault Refusal :=
  match s.pending with
  | [] => .next s
  | c :: rest => exec c (s.setPending rest)

/-- The state with the command a table word spells put at the front of the queue; no word spells one (log 3). -/
def State.withFetchWord (s : State) (nbits w : Nat) : State :=
  match decodeTableWord nbits w with
  | some c => s.setPending (c :: s.pending)
  | none => s

end Sys2Proof.Machine
end

