-- ==== Sys2Proof/WellFormed.lean ====
section
/-! DEFINITION. WellFormed: the checks on a command's operands that need no state.
Marks come at most 10,002,050 periods apart (R1), so no event lies farther from the event before it; a close ends within
50,000 periods of its beginning (R43). START_UP_COMPLETE is free: the spec bounds no load time (R207). -/

namespace Sys2Proof

/-- The periods that pass before a command, where it carries them. -/
def Instr.elapsed : Instr → Nat
  | .startUpComplete n => n
  | .ppsEdge n => n
  | .sampleFrameArrival _ _ n => n
  | .tickClose n => n
  | .upstreamFrameArrival _ n => n
  | .upstreamLenReject _ n => n
  | .upstreamFramingError n => n
  | .saveEnd _ n => n
  | .frameSent n => n
  | .holdInChange _ n => n
  | .markerEdge _ n => n
  | .sampleFrameByte _ _ n => n
  | .upstreamFrameByte _ n => n
  | .powerOn | .mark | .tick | .strobeEnd | .missingMarkCheck | .frameAbandon _ | .entryTake
  | .upstreamGapAbandon | .requestUnknownCode | .ident | .status | .outputSet | .linkRate | .timeLabel
  | .timebaseSet | .portReset | .portEnable | .portSet | .channelSet | .channelGet | .triadSet | .triadGet
  | .filterShape | .filterTaps | .filterGet | .discard | .commit | .storeWrite | .storeRead | .storePoison
  | .conditionsClear | .countersRead | .countersClear | .faultRead | .faultRelease | .alertMaskSet
  | .captureMaskSet | .lineSet | .markerSet | .save | .restart | .lockSession | .fixPermanent | .frameStart
  | .linkTrialExpiry | .secondMarkEnd | .code2IntervalEnd | .powerLoss => 0

/-- The greatest `elapsed` a command may carry; none where the spec bounds no time. -/
def Instr.elapsedLimit : Instr → Option Nat
  | .startUpComplete _ => none
  | .tickClose _ => some Config.closeLimit
  | .powerOn | .mark | .tick | .strobeEnd | .missingMarkCheck | .ppsEdge _ | .sampleFrameArrival _ _ _
  | .frameAbandon _ | .entryTake | .upstreamFrameArrival _ _ | .upstreamLenReject _ _
  | .upstreamFramingError _ | .upstreamGapAbandon | .requestUnknownCode | .ident | .status | .outputSet
  | .linkRate | .timeLabel | .timebaseSet | .portReset | .portEnable | .portSet | .channelSet | .channelGet
  | .triadSet | .triadGet | .filterShape | .filterTaps | .filterGet | .discard | .commit | .storeWrite
  | .storeRead | .storePoison | .conditionsClear | .countersRead | .countersClear | .faultRead
  | .faultRelease | .alertMaskSet | .captureMaskSet | .lineSet | .markerSet | .save | .restart
  | .lockSession | .fixPermanent | .saveEnd _ _ | .frameStart | .frameSent _ | .holdInChange _ _
  | .linkTrialExpiry | .markerEdge _ _ | .secondMarkEnd | .code2IntervalEnd | .sampleFrameByte _ _ _
  | .upstreamFrameByte _ _ | .powerLoss => some Config.longestSecond

/-- A LEN byte that rejects its frame exceeds 250 (R160). -/
def Instr.lenByteOk : Instr → Bool
  | .upstreamLenReject b _ => decide (Config.maxLen < b.toNat)
  | .powerOn | .startUpComplete _ | .mark | .tick | .strobeEnd | .missingMarkCheck | .ppsEdge _
  | .sampleFrameArrival _ _ _ | .frameAbandon _ | .entryTake | .tickClose _ | .upstreamFrameArrival _ _
  | .upstreamFramingError _ | .upstreamGapAbandon | .requestUnknownCode | .ident | .status | .outputSet
  | .linkRate | .timeLabel | .timebaseSet | .portReset | .portEnable | .portSet | .channelSet | .channelGet
  | .triadSet | .triadGet | .filterShape | .filterTaps | .filterGet | .discard | .commit | .storeWrite
  | .storeRead | .storePoison | .conditionsClear | .countersRead | .countersClear | .faultRead
  | .faultRelease | .alertMaskSet | .captureMaskSet | .lineSet | .markerSet | .save | .restart
  | .lockSession | .fixPermanent | .saveEnd _ _ | .frameStart | .frameSent _ | .holdInChange _ _
  | .linkTrialExpiry | .markerEdge _ _ | .secondMarkEnd | .code2IntervalEnd | .sampleFrameByte _ _ _
  | .upstreamFrameByte _ _ | .powerLoss => true

/-- A command is well formed when its elapsed time lies within its bound and a rejecting LEN exceeds 250. -/
def Instr.wellFormed (i : Instr) : Bool :=
  (match i.elapsedLimit with
   | some m => decide (i.elapsed ≤ m)
   | none => true) && i.lenByteOk

end Sys2Proof
end

