-- ==== Sys2Proof/Safety.lean ====
section
/-! DEFINITION. Safety: what the model guards. A step is safe when it answers a next state: the device itself never stops.
A command is timely when the device's own schedule and the outside could bring that event about in the state: its occasion is
there, it comes no later than anything else that is due, and it keeps the order that the spec fixes within one period: a mark, also
the mark of a step, comes before the edges and the tick of its period (R4, R7, R196). The meanings do not ask for it (logs 2, 24). -/

namespace Sys2Proof.Machine

/-- The step stops neither with a fault nor with a refusal. -/
def safe (s : State) : Prop := ∃ t, step s = .next t

/-- The request a request row takes. -/
def requestRow : Instr → Option RequestName
  | .ident => some .ident
  | .status => some .status
  | .outputSet => some .outputSet
  | .linkRate => some .linkRate
  | .timeLabel => some .timeLabel
  | .timebaseSet => some .timebaseSet
  | .portReset => some .portReset
  | .portEnable => some .portEnable
  | .portSet => some .portSet
  | .channelSet => some .channelSet
  | .channelGet => some .channelGet
  | .triadSet => some .triadSet
  | .triadGet => some .triadGet
  | .filterShape => some .filterShape
  | .filterTaps => some .filterTaps
  | .filterGet => some .filterGet
  | .discard => some .discard
  | .commit => some .commit
  | .storeWrite => some .storeWrite
  | .storeRead => some .storeRead
  | .storePoison => some .storePoison
  | .conditionsClear => some .conditionsClear
  | .countersRead => some .countersRead
  | .countersClear => some .countersClear
  | .faultRead => some .faultRead
  | .faultRelease => some .faultRelease
  | .alertMaskSet => some .alertMaskSet
  | .captureMaskSet => some .captureMaskSet
  | .lineSet => some .lineSet
  | .markerSet => some .markerSet
  | .save => some .save
  | .restart => some .restart
  | .lockSession => some .lockSession
  | .fixPermanent => some .fixPermanent
  | .powerOn | .startUpComplete _ | .mark | .tick | .strobeEnd | .missingMarkCheck | .ppsEdge _
  | .sampleFrameArrival _ _ _ | .frameAbandon _ | .entryTake | .tickClose _ | .upstreamFrameArrival _ _
  | .upstreamLenReject _ _ | .upstreamFramingError _ | .upstreamGapAbandon | .requestUnknownCode | .saveEnd _ _
  | .frameStart | .frameSent _ | .holdInChange _ _ | .linkTrialExpiry | .markerEdge _ _ | .secondMarkEnd
  | .code2IntervalEnd | .sampleFrameByte _ _ _ | .upstreamFrameByte _ _ | .powerLoss => none

/-- The clock at a position of the second in progress. -/
def State.clockAt (s : State) (position : Nat) : Nat := s.tb.clock + (position - s.tb.period)

/-- The moments by which something of the timebase is due: the mark, the next tick, the half-point check (R1, R4, R8). -/
def State.timebaseDue (s : State) : List Nat :=
  if s.running then
    [s.clockAt s.tb.length] ++ (if s.tb.nextIndex < s.tb.rate then [s.clockAt s.tb.tickPosition] else []) ++
      (if s.tb.halfChecked then [] else [s.clockAt (s.tb.length / 2)])
  else []

/-- The moment a port's frame in collection is due to be abandoned (R23). -/
def SensorPort.due (p : SensorPort) : List Nat :=
  match p.framing with
  | .hunt => []
  | .collect _ => [p.lastByteAt + Config.portGap + 1]

/-- The moment an upstream frame is due to be abandoned, and a trial to expire (R160, R173). -/
def Link.due (l : Link) : List Nat :=
  (if l.framing = .hunt then [] else [l.lastByteAt + gapPeriods l.rate + 1]) ++
    (if l.rateState = .trial then [l.trialStart + Config.trialPeriods] else [])

/-- Every moment by which something is due (R1, R4, R5, R8, R23, R43, R160, R173, R192, R193, R204). -/
def State.due (s : State) : List Nat :=
  s.timebaseDue ++ s.tb.strobeUntil.toList ++ s.portA.due ++ s.portB.due ++ s.link.due ++ s.aux.secondMarkEnd.toList ++
    (s.status.code2.map (· + Config.code2Periods)).toList ++
    (s.asm.closing.map (·.beganAt + Config.closeLimit)).toList ++
    (s.settings.save.map (·.startedAt + Config.saveLimit)).toList

/-- The moment at which a command's event happens: the due moment of a scheduled event, `elapsed` later otherwise. -/
def commandMoment (c : Instr) (s : State) : Nat :=
  match c with
  | .mark => s.clockAt s.tb.length
  | .tick => s.clockAt s.tb.tickPosition
  | .missingMarkCheck => s.clockAt (s.tb.length / 2)
  | .strobeEnd => max s.tb.clock (s.tb.strobeUntil.getD 0)
  | .frameAbandon p => max s.tb.clock ((s.port p).lastByteAt + Config.portGap + 1)
  | .upstreamGapAbandon => max s.tb.clock (s.link.lastByteAt + gapPeriods s.link.rate + 1)
  | .linkTrialExpiry => max s.tb.clock (s.link.trialStart + Config.trialPeriods)
  | .secondMarkEnd => max s.tb.clock (s.aux.secondMarkEnd.getD 0)
  | .code2IntervalEnd => max s.tb.clock (s.status.code2.getD 0 + Config.code2Periods)
  | c => s.tb.clock + c.elapsed

/-- The byte completes a frame in collection at a port (R23). -/
def SensorPort.completes (p : SensorPort) : Bool :=
  match p.framing with
  | .hunt => false
  | .collect body => decide (Config.portBodyBytes ≤ body.length + 1)

/-- A byte at the clock given completes an upstream frame: the one in collection, or one that an expiry of that very period found one
byte short (R160, R173). -/
def Link.completes (l : Link) (clock : Nat) : Bool :=
  match l.framing with
  | .hunt => (l.lateAt clock).isSome
  | .length => false
  | .collect len bytes => decide (len + 3 ≤ bytes.length + 1)

/-- The occasion of a command's event is there in the state. -/
def commandPossible (c : Instr) (s : State) : Bool :=
  match requestRow c with
  | some name => s.takeable.any fun q => RequestName.ofCode q.code == some name
  | none =>
    match c with
    | .powerOn => s.phase == .powered || s.phase == .off
    | .startUpComplete _ => s.phase == .loaded
    | .mark => s.running
    | .tick => s.running && decide (s.tb.nextIndex < s.tb.rate)
    | .strobeEnd => s.strobe
    | .missingMarkCheck => s.running && !s.tb.halfChecked
    | .sampleFrameArrival p _ _ => (s.port p).completes
    | .sampleFrameByte p _ _ => s.phase != .off && !(s.port p).completes
    | .frameAbandon p => (s.port p).framing != .hunt
    | .entryTake => s.asm.closeQueue.isEmpty && s.nextServed.isSome
    | .tickClose _ => s.asm.closing.isSome
    | .upstreamFrameArrival _ n => s.linkUp && s.link.completes (s.tb.clock + n)
    | .upstreamLenReject _ _ => s.linkUp && s.link.framing == .length
    | .upstreamFrameByte b n =>
      s.linkUp && !s.link.completes (s.tb.clock + n) && !(s.link.framing == .length && decide (Config.maxLen < b.toNat))
    | .upstreamFramingError _ => s.linkUp
    | .upstreamGapAbandon => s.linkUp && s.link.framing != .hunt
    | .requestUnknownCode => s.takeable.any fun q => (RequestName.ofCode q.code).isNone
    | .saveEnd _ _ => s.settings.save.isSome
    | .frameStart => s.linkUp && !s.link.sending && !s.link.output.isEmpty && !s.link.holdIn
    | .frameSent _ => s.link.sending
    | .linkTrialExpiry => s.link.rateState == .trial
    | .secondMarkEnd => s.aux.secondMarkEnd.isSome
    | .code2IntervalEnd => s.status.code2.isSome
    | _ => s.phase != .off

/-- An edge in the period of a mark comes after the mark (R7, R196). -/
def edgeInItsSecond (c : Instr) (s : State) : Bool :=
  match c with
  | .ppsEdge n | .markerEdge _ n => !s.running || decide (s.tb.period + n < s.tb.length)
  | _ => true

/-- An edge on PPS now would be a step (R6, R15). -/
def State.stepsNow (s : State) : Bool :=
  s.running && s.tb.takesEdge && edgeAction s.tb.discipline s.tb.phaseError == .step

/-- The latest tick of this second was issued in the present period (R4). -/
def Timebase.tickedNow (t : Timebase) : Bool := decide ((t.nextIndex - 1) * t.length / t.rate = t.period)

/-- The half-point check of this second is due in the present period and not made yet (R8). -/
def Timebase.checkDueNow (t : Timebase) : Bool := !t.halfChecked && decide (t.length / 2 = t.period)

/-- A mark that a command makes finds its period free of what has to come after it: a tick that the step leaves unissued (R4) and a
taken marker edge, which belongs to the new second (R196); before the first mark, an edge on PPS or on a line (R7, R196). A second cut
short at its very half-point is checked before it ends (R8). -/
def markComesFirst (c : Instr) (s : State) : Bool :=
  match c with
  | .ppsEdge n =>
    let s := s.elapse n
    !s.stepsNow || !s.tb.tickedNow && s.aux.lastMarker != some s.tb.clock && !s.tb.checkDueNow
  | .startUpComplete n => s.tb.earlyEdge != some (s.tb.clock + n)
  | _ => true

/-- A command that keeps to the device's schedule: well formed, its occasion there, nothing due before it, an edge not before a mark of
its own period, and a mark not after what its own period puts behind it. -/
def timely (c : Instr) (s : State) : Bool :=
  c.wellFormed && commandPossible c s && edgeInItsSecond c s && markComesFirst c s &&
    s.due.all fun d => decide (commandMoment c s ≤ d)

end Sys2Proof.Machine
end

