-- ==== Sys2Proof/Certificates/Slice0/Obligations.lean ====
section
/-! DEFINITION. Certificates/Slice0/Obligations: the statements for the provers.
The words under 'Claims' are the statements' own: what a taken request leaves, what passing time leaves.
A conclusion of the form `exec c s = .next t` gives the whole next state: everything that `t` does not name is unchanged.
Statements about a change that offers a notice suppose fewer than 60 places occupied (R167); what happens otherwise is stated
once, in DataRecordOffered. -/

open Sys2Proof Sys2Proof.Machine

/-! ### Claims: the words of the statements -/

/-- The handler takes the oldest request `q` now, and it is a request of the name given, of the right length (R163, R208). -/
def Sys2Proof.Claims.Ready (s : State) (name : RequestName) (q : Request) : Prop :=
  s.phase = .running ∧ s.link.heldSave = none ∧ (∃ rest, s.link.requests = q :: rest) ∧
    s.link.output.length + (if name = .filterGet then 2 else 1) ≤ 64 ∧ q.code = name.code ∧ name.lengthOk q.params = true

/-- The state once its oldest request has left the request queue (R162). -/
def Sys2Proof.Claims.taken (s : State) : State := { s with link := { s.link with requests := s.link.requests.tail } }

/-- The state once the request `q` is answered with a result and data in one frame (R164, R166). -/
def Sys2Proof.Claims.answered (s : State) (q : Request) (r : Result) (data : List Byte) : State :=
  { s with link := { s.link with output := s.link.output ++ [⟨.response ⟨q.tag, q.code, r, 0, data⟩, false⟩] } }

/-- The unsaved-changes flag set, and the change note while a save runs (R199). -/
def Sys2Proof.Claims.unsavedSet (s : State) : State :=
  { s with settings := { s.settings with
      unsaved := true
      changeNote := s.settings.changeNote || s.settings.save.isSome } }

/-- An event record or a notice at the young end of the output queue (R166). -/
def Sys2Proof.Claims.admitted (s : State) (b : Body) : State :=
  { s with link := { s.link with output := s.link.output ++ [⟨b, false⟩] } }

/-- One counter advanced by one, stopping at 65,535 (R185). -/
def Sys2Proof.Claims.counted (s : State) (c : Counter) : State :=
  { s with status := { s.status with
      counters := s.status.counters.set c.index (BitVec.ofNat 16 (min 65535 ((s.status.counters[c.index]).toNat + 1))) } }

/-- One condition set (R182). -/
def Sys2Proof.Claims.conditionSet (s : State) (c : Condition) : State :=
  { s with status := { s.status with conditions := s.status.conditions ||| BitVec.ofNat 14 (2 ^ c.index) } }

/-- A fault raised while a FAULT notice would find a place: counted, and captured when the record is empty and its class in
the capture mask (R187, R188). -/
def Sys2Proof.Claims.raised (s : State) (f : RaisedFault) : State :=
  let i := f.cls.index
  let counts := s.status.faultCounts.set i (BitVec.ofNat 16 (min 65535 ((s.status.faultCounts[i]).toNat + 1)))
  let s : State := { s with status := { s.status with faultCounts := counts } }
  if s.status.capture = none ∧ s.status.captureMask.getLsbD i.val = true then
    Sys2Proof.Claims.admitted (Sys2Proof.Claims.conditionSet { s with status := { s.status with capture := some f } }
      .faultCaptured) (.notice (.fault f))
  else s

/-- n periods passed on a powered device (R1; log 1). -/
def Sys2Proof.Claims.passed (s : State) (n : Nat) : State :=
  { s with tb := { s.tb with
      clock := s.tb.clock + n
      period := if s.phase = .running then s.tb.period + n else s.tb.period } }

/-- A TIMEBASE notice as the state stands (R19). -/
def Sys2Proof.Claims.timebaseReport (s : State) (cause : TimebaseCause) (before : Discipline) (error : Option Int) : State :=
  Sys2Proof.Claims.admitted s (.notice (.timebase cause before s.tb.discipline s.tb.second s.tb.trim error))

/-- The end of a strobe pulse that begins at a clock with a tick of the count given, with the pulse before it (R5). -/
def Sys2Proof.Claims.pulseEnd (before : Option Nat) (clock : Nat) (count : Num32) : Option Nat :=
  let finish := clock + (if count.toNat % 256 = 0 then 400 else 100)
  match before with
  | none => some finish
  | some t => some (max t finish)

/-- The timebase after a tick that falls at the clock and position it shows (R4, R5). -/
def Sys2Proof.Claims.ticked (t : Timebase) : Timebase :=
  { t with
    tickCount := t.tickCount + 1
    nextIndex := t.nextIndex + 1
    tick0 := if t.nextIndex = 0 then t.tickCount + 1 else t.tick0
    strobeUntil := Sys2Proof.Claims.pulseEnd t.strobeUntil t.clock (t.tickCount + 1) }

/-- The timebase after a mark that begins the second numbered, before its tick 0 (R1, R2, R14). -/
def Sys2Proof.Claims.marked (t : Timebase) (number : Num32) : Timebase :=
  let age := min 86400 (t.holdoverAge + 1)
  let long := t.holdoverLong || decide (t.holdoverLimit ≤ age)
  { t with
    period := 0
    length := (10000000 + t.trim + t.correction).toNat
    correction := 0
    second := number
    markCount := t.markCount + 1
    quality :=
      match t.discipline with
      | .freeRun => .freeRun
      | .acquire => .acquire
      | .locked => .locked
      | .holdover => if long then .holdoverLong else .holdover
    holdoverAge := if t.discipline = .holdover then age else t.holdoverAge
    holdoverLong := if t.discipline = .holdover then long else t.holdoverLong
    attributed := t.nextAttributed
    nextAttributed := false
    halfChecked := false
    nextIndex := 0
    markLabel := none }

/-- The pending second list entry of a mark (R116): bit 0 TIME_STEP, bit 1 RELABEL, bit 2 COMMIT_APPLIED. -/
def Sys2Proof.Claims.markEntry (t : Timebase) (flags : RecordFlags) : PendingSecond :=
  ⟨t.second, t.tickCount + 1, t.quality, flags, false, none⟩

/-- The assembler after the issue of a tick (R42): the oldest open tick of a full open set joins the close queue. -/
def Sys2Proof.Claims.opened (a : Assembler) (depth : Nat) (id : TickId) : Assembler :=
  let young : OpenTick := ⟨id, Vector.replicate 16 .empty⟩
  let full := decide (depth ≤ a.openSet.length)
  { a with
    openSet := (if full then a.openSet.drop 1 else a.openSet) ++ [young]
    closeQueue := if full then a.closeQueue ++ a.openSet.take 1 else a.closeQueue
    issued := (a.issued ++ [id]).drop ((a.issued ++ [id]).length - 4) }

/-- The close that begins when none is in progress and a tick waits, with the configuration then active (R43, R50). -/
def Sys2Proof.Claims.closeBegun (s : State) : State :=
  if s.asm.closing = none ∧ s.asm.closeQueue ≠ [] then
    { s with asm := { s.asm with
        closing := some ⟨s.staging.active, s.staging.generation, s.tb.markCount,
          #v[s.screens[0].pendingClear, s.screens[1].pendingClear], s.tb.clock⟩ } }
  else s

/-- A state after the issue of the tick its timebase has next (R4, R42, R50). -/
def Sys2Proof.Claims.tickIssued (s : State) : State :=
  Sys2Proof.Claims.closeBegun { s with
    tb := Sys2Proof.Claims.ticked s.tb
    asm := Sys2Proof.Claims.opened s.asm s.tb.depth ⟨s.tb.tickCount + 1, s.tb.nextIndex, s.tb.second⟩ }

/-- Every SECOND_MARK line high, to fall 1,000,000 periods later (R193). -/
def Sys2Proof.Claims.linesRaised (s : State) : State :=
  { s with aux := { s.aux with
      lines := Vector.ofFn fun i =>
        if (s.aux.lines[i]).settings.designation = .secondMark then { s.aux.lines[i] with raised := true }
        else s.aux.lines[i]
      secondMarkEnd := some (s.tb.clock + 1000000) } }

/-- An edge may be taken: the first mark is made, and 9,000,000 periods lie behind the last taken edge, if any (R6). -/
def Sys2Proof.Claims.takesEdge (s : State) (n : Nat) : Prop :=
  s.phase = .running ∧ ∀ a, s.tb.lastEdge = some a → a + 9000000 ≤ s.tb.clock + n

/-- The phase error of an edge n periods from now, by the half-point of the second in progress, before the clamp (R7). -/
def Sys2Proof.Claims.edgeError (s : State) (n : Nat) : Int :=
  if s.tb.period + n < s.tb.length / 2 then ((s.tb.period + n : Nat) : Int)
  else ((s.tb.period + n : Nat) : Int) - (s.tb.length : Int)

/-- A taken edge noted: it is the last taken edge, attributed to its mark, a run of missing marks ends, the pending label is
consumed, the code-2 interval ends (R6, R7, R8, R17, R192). -/
def Sys2Proof.Claims.edgeNoted (s : State) (n : Nat) : State :=
  let u := passed s n
  let early := decide (s.tb.period + n < s.tb.length / 2)
  { u with
    tb := { u.tb with
      lastEdge := some (s.tb.clock + n)
      missingCount := 0
      attributed := s.tb.attributed || early
      nextAttributed := s.tb.nextAttributed || !early
      label := none }
    status := { s.status with code2 := none } }

/-- D and c after an update with phase error e (R9). -/
def Sys2Proof.Claims.edgeUpdated (t : Timebase) (e : Int) : Timebase :=
  { t with
    trim := max (-2000) (min 2000 (t.trim + divRound .round e 8))
    correction := max (-50) (min 50 (divRound .round e 2)) }

/-- The edge n periods from now falls before the mark that ends the second in progress (R7, R196). -/
def Sys2Proof.Claims.inSecond (s : State) (n : Nat) : Prop := s.tb.period + n < s.tb.length

/-- Running number a precedes b (07, opening). -/
def Sys2Proof.Claims.before (a b : Num32) : Bool := decide (1 ≤ (b - a).toNat) && decide ((b - a).toNat ≤ 2147483648)

/-- A running number precedes a step point, when there is one (R117, R123). -/
def Sys2Proof.Claims.beforePoint (point : Option Num32) (x : Num32) : Bool :=
  match point with
  | some p => Sys2Proof.Claims.before x p
  | none => false

/-- The n youngest members of a list. -/
def Sys2Proof.Claims.youngest {α : Type} (n : Nat) (l : List α) : List α := l.drop (l.length - n)

/-- What the discard of a restart adds to the seconds-lost accumulator for one frame (R180). -/
def Sys2Proof.Claims.secondWeight (f : Frame) : Nat :=
  match f.body with
  | .second r => 1 + ((r.lost.map BitVec.toNat).getD 0)
  | .minute _ | .event _ | .notice _ | .response _ => 0

/-- What the discard of a restart adds to the minutes-lost accumulator for one frame (R180). -/
def Sys2Proof.Claims.minuteWeight (f : Frame) : Nat :=
  match f.body with
  | .minute _ => 1
  | .second _ | .event _ | .notice _ | .response _ => 0

/-- The frame is a response (R166). -/
def Sys2Proof.Claims.isResponse (f : Frame) : Bool :=
  match f.body with
  | .response _ => true
  | .second _ | .minute _ | .event _ | .notice _ => false

/-- The record flags of a mark: bit 0 TIME_STEP, bit 1 RELABEL, bit 2 COMMIT_APPLIED (R116, R181). -/
def Sys2Proof.Claims.flagsOf (byStep relabelled committed : Bool) : RecordFlags :=
  BitVec.ofNat 3 ((if byStep then 1 else 0) + (if relabelled then 2 else 0) + (if committed then 4 else 0))

/-- The timebase's part of a mark, with HOLDOVER_LONG and its notice when this mark makes the holdover long (R2, R14, R19). -/
def Sys2Proof.Claims.timed (s : State) (number : Num32) : State :=
  let u : State := { s with tb := Sys2Proof.Claims.marked s.tb number }
  if s.tb.discipline = .holdover ∧ s.tb.holdoverLong = false ∧ s.tb.holdoverLimit ≤ min 86400 (s.tb.holdoverAge + 1) then
    Sys2Proof.Claims.timebaseReport (Sys2Proof.Claims.conditionSet u .holdoverLong) .holdoverLong .holdover none
  else u

/-- The decimator told of a mark: what a step clears and sets, and what a relabel clears and turns to old series (R131, R132). -/
def Sys2Proof.Claims.told (d : Decimator) (byStep relabelled : Bool) (t0 second : Num32) : Decimator :=
  let cleared := byStep || relabelled
  { d with
    pendingSeconds := if relabelled then d.pendingSeconds.map fun x => { x with oldSeries := true } else d.pendingSeconds
    tickHistory := if byStep then Vector.replicate 2 [] else d.tickHistory
    secondHistory := if cleared then Vector.replicate 2 [] else d.secondHistory
    scalarHistory := if cleared then [] else d.scalarHistory
    tempHistory := if cleared then Vector.replicate 16 [] else d.tempHistory
    captures := if cleared then Vector.replicate 16 none else d.captures
    nextMinute := if relabelled then none else d.nextMinute
    tickStep := if byStep then some t0 else d.tickStep
    secondStep := if relabelled then none else if byStep then some second else d.secondStep }

/-- A scheduled commit applied at the mark that has just begun the second in progress: pending becomes active, the generation
advances, the unsaved-changes flag is set, a COMMIT notice names what differs (R152, R153). -/
def Sys2Proof.Claims.committed (s : State) : State :=
  let old := s.staging.active
  let new := s.staging.pendingConfig
  let notice : Notice := .commit (s.staging.generation + 1) s.tb.second
    (allChannels.filter fun n => old.channels[n] != new.channels[n])
    (allTriads.filter fun k => old.triads[k] != new.triads[k])
    ((if old.second != new.second then [.second] else []) ++ (if old.minute != new.minute then [.minute] else []))
  Sys2Proof.Claims.admitted (Sys2Proof.Claims.unsavedSet { s with
    staging := { s.staging with active := new, generation := s.staging.generation + 1, commitScheduled := false } })
    (.notice notice)

/-- A mark that begins the second numbered, made by a step or not, its number set by a label or not, with the commit that is
scheduled, if one is, and no restart (R2, R14, R116, R131, R132, R152, R193). -/
def Sys2Proof.Claims.markMade (s : State) (number : Num32) (byStep relabelled : Bool) : State :=
  let u := Sys2Proof.Claims.linesRaised (Sys2Proof.Claims.timed s number)
  let v := if s.staging.commitScheduled then Sys2Proof.Claims.committed u else u
  let d := Sys2Proof.Claims.told s.dec byStep relabelled (s.tb.tickCount + 1) number
  let entry := Sys2Proof.Claims.markEntry u.tb (Sys2Proof.Claims.flagsOf byStep relabelled s.staging.commitScheduled)
  Sys2Proof.Claims.tickIssued { v with
    screens := if byStep then Vector.ofFn fun k => { s.screens[k] with pendingClear := true } else s.screens
    dec := { d with pendingSeconds := d.pendingSeconds ++ [entry] } }

/-- A port at a command restart (R40). -/
def Sys2Proof.Claims.portRestarted (p : SensorPort) : SensorPort :=
  { p with
    fifo := []
    paceLatch := false
    heldError := none
    mode := if p.settings.enabled then .active else .disabled }

/-- The frames of the output queue that a restart keeps: the one being sent, and the responses (R180). -/
def Sys2Proof.Claims.keptFrames (l : Link) : List Frame :=
  (if l.sending then l.output.take 1 else []) ++ ((if l.sending then l.output.drop 1 else l.output).filter Sys2Proof.Claims.isResponse)

/-- The output queue at a command restart that begins the second numbered: data records discarded into the accumulators, then the
START notice (R180, R210). -/
def Sys2Proof.Claims.linkRestarted (l : Link) (validity : Validity) (second : Num32) : Link :=
  let waiting := if l.sending then l.output.drop 1 else l.output
  { l with
    output := Sys2Proof.Claims.keptFrames l ++ [⟨.notice (.start .commanded validity second), false⟩]
    secondsLost := BitVec.ofNat 16 (min 65535 (l.secondsLost.toNat + (waiting.map Sys2Proof.Claims.secondWeight).sum))
    minutesLost := BitVec.ofNat 16 (min 65535 (l.minutesLost.toNat + (waiting.map Sys2Proof.Claims.minuteWeight).sum)) }

/-- A mark that carries out the scheduled restart, made by a step or not, its number set by a label or not: every block of the
table of R210, the open set the D_a − 1 ticks issued last, which this mark's tick 0 joins (R56). -/
def Sys2Proof.Claims.restartMade (s : State) (number : Num32) (byStep relabelled : Bool) : State :=
  let u := Sys2Proof.Claims.linesRaised (Sys2Proof.Claims.timed s number)
  Sys2Proof.Claims.tickIssued { u with
    tb := { u.tb with rate := s.tb.rateSet, depth := s.tb.depthSet }
    portA := Sys2Proof.Claims.portRestarted s.portA
    portB := Sys2Proof.Claims.portRestarted s.portB
    asm :=
      { openSet := (Sys2Proof.Claims.youngest (s.tb.depthSet - 1) s.asm.issued).map fun id => ⟨id, Vector.replicate 16 .empty⟩
        closeQueue := []
        closing := none
        lastServed := .b
        issued := s.asm.issued }
    corr := ⟨Vector.replicate 16 none, Vector.replicate 16 none⟩
    screens := Vector.replicate 2 ⟨none, none, 0, none, false⟩
    dec :=
      { pendingSeconds := [Sys2Proof.Claims.markEntry u.tb (Sys2Proof.Claims.flagsOf byStep relabelled false)]
        tickHistory := Vector.replicate 2 []
        secondHistory := Vector.replicate 2 []
        scalarHistory := []
        scalarChannel := none
        tempHistory := Vector.replicate 16 []
        captures := Vector.replicate 16 none
        nextMinute := none
        tickStep := none
        secondStep := none }
    staging := { s.staging with pendingConfig := s.staging.active, restartScheduled := false }
    link := Sys2Proof.Claims.linkRestarted u.link s.settings.image.validity number
    status := { s.status with
      conditions := 0
      counters := Vector.replicate 29 0
      capture := none
      faultCounts := Vector.replicate 5 0 }
    settings := { s.settings with resetCause := .commanded } }

/-- The state at the edge of a step, its discipline turned to ACQUIRE, before its mark (R15). -/
def Sys2Proof.Claims.edgeStepped (s : State) (n : Nat) : State :=
  let u := Sys2Proof.Claims.edgeNoted s n
  { u with tb := { u.tb with
      discipline := .acquire
      goodCount := 0
      correction := 0
      holdoverAge := 0
      holdoverLong := false
      nextAttributed := true } }

/-- A step n periods from now: its mark, made with the number of a pending label or else the next one, then TIME_STEPPED, STEPS,
the STEP notice, and a RELABEL notice when the label's number is not the next one (R15, R17, R19; their order is log 13). -/
def Sys2Proof.Claims.stepMade (s : State) (n : Nat) (mark : State → Num32 → Bool → State) : State :=
  let e := max (-5000000) (min 4999999 (Sys2Proof.Claims.edgeError s n))
  let number := s.tb.label.getD (s.tb.second + 1)
  let relabelled := decide (number ≠ s.tb.second + 1)
  let u := Sys2Proof.Claims.timebaseReport (Sys2Proof.Claims.counted (Sys2Proof.Claims.conditionSet
    (mark (Sys2Proof.Claims.edgeStepped s n) number relabelled) .timeStepped) .timeSteps) .step s.tb.discipline (some e)
  if relabelled then Sys2Proof.Claims.timebaseReport u .relabel .acquire (some e) else u

/-- The second in progress relabelled at once by an edge of phase error e: its entry takes the number and RELABEL, the older ones
become old series, the second-level histories are emptied, a RELABEL notice reports it (R17, R19, R132). -/
def Sys2Proof.Claims.relabelledNow (s : State) (number : Num32) (e : Int) : State :=
  Sys2Proof.Claims.timebaseReport { s with
    tb := { s.tb with second := number }
    dec := { s.dec with
      pendingSeconds := s.dec.pendingSeconds.map fun x =>
        if x.t0 = s.tb.tick0 then { x with second := number, flags := x.flags ||| 2 } else { x with oldSeries := true }
      secondHistory := Vector.replicate 2 []
      scalarHistory := []
      tempHistory := Vector.replicate 16 []
      captures := Vector.replicate 16 none
      nextMinute := none
      secondStep := none } } .relabel s.tb.discipline (some e)

open Sys2Proof.Claims

/-! ### The queue of commands -/

/-- A step runs the command at the front of the queue on the state with the queue's rest, and idles on an empty queue (the
model's queue, log 1). -/
def Obligations.StepRunsTheFrontCommand : Prop :=
  (∀ (c : Instr) (rest : List Instr) (s : State), s.pending = c :: rest → step s = exec c { s with pending := rest }) ∧
    ∀ s : State, s.pending = [] → step s = .next s

/-- The device never stops: every command in every state answers a next state, and no command touches the
queue (what a command does without its occasion is log 2; the queue is log 1). -/
def Obligations.EveryCommandAnswersNext : Prop :=
  ∀ (c : Instr) (s : State), ∃ t, exec c s = .next t ∧ t.pending = s.pending

/-! ### Reset, power, start-up -/

/-- The default settings are those of the table of R207 and of R74, R114, R156. -/
def Obligations.DefaultSettings : Prop :=
  (∀ n : Fin 16, Settings.default.config.channels[n] =
      ⟨false, .axis, .a, BitVec.ofNat 4 n.val, 65536, 0, .round, none, none, none⟩) ∧
    Settings.default.config.triads = #v[
      ⟨false, ⟨0, 1, 2⟩, ⟨4194304, 0, 0⟩, ⟨0, 4194304, 0⟩, ⟨0, 0, 4194304⟩, ⟨0, 0, 0⟩, 0, .round⟩,
      ⟨false, ⟨3, 4, 5⟩, ⟨4194304, 0, 0⟩, ⟨0, 4194304, 0⟩, ⟨0, 0, 4194304⟩, ⟨0, 0, 0⟩, 0, .round⟩] ∧
    (Settings.default.config.second.length = 1 ∧ Settings.default.config.second.fraction = 1024 ∧
      ∀ i : Fin 127, Settings.default.config.second.places[i] = if i.val = 0 then 1 else 0) ∧
    (Settings.default.config.minute.length = 61 ∧ Settings.default.config.minute.fraction = 922 ∧
      ∀ i : Fin 127, Settings.default.config.minute.places[i] = if i.val ≤ 60 then 1 else 0) ∧
    (∀ a : Nat, Store.read Settings.default.store a = ⟨0, 0, .good⟩) ∧
    (Settings.default.rateSet = 10 ∧ Settings.default.depthSet = 2 ∧ Settings.default.holdoverLimit = 3600 ∧
      Settings.default.trim = 0) ∧
    (Settings.default.portA = ⟨true, 16, .skip⟩ ∧ Settings.default.portB = ⟨true, 16, .skip⟩) ∧
    Settings.default.lines = #v[⟨.secondMark, 0, .d50⟩, ⟨.alert, 0, .d50⟩, ⟨.off, 0, .d50⟩, ⟨.markerIn, 0, .d50⟩] ∧
    Settings.default.selection = .rising ∧ Settings.default.linkRate = 12080 ∧ Settings.default.outputSet = 0b111 ∧
    Settings.default.alertMask = 0b11111111111111 ∧ Settings.default.captureMask = 0b11111

/-- POWER_ON computes the CRC-32 over the image and compares it with the stored one: it loads the image when they agree and the
defaults, with STORE_INVALID and the unsaved-changes flag, when they differ or no whole image is there; every block takes its
power-on values (R200, R207, R21, R39, R55, R93, R137, R156, R179, R197, R201; the image's bytes are log 8, a POWER_ON of a
powered device is log 34, the tick count before tick 0 is log 18, the early edge and the late frame are logs 24 and 31). -/
def Obligations.PowerOnLoadsImageOrDefaults : Prop :=
  ∀ s : State, ∃ t, exec .powerOn s = .next t ∧ t.phase = .loaded ∧ t.indicator = 1 ∧
    (∀ x, s.settings.image.contents = some x → crc32 (Config.imageBytes x) = s.settings.image.crc →
      t.workingSettings = x ∧ t.settings.image.validity = .valid ∧ t.settings.unsaved = false ∧ t.status.conditions = 0) ∧
    ((∀ x, s.settings.image.contents = some x → crc32 (Config.imageBytes x) ≠ s.settings.image.crc) →
      t.workingSettings = Settings.default ∧ t.settings.image.validity = .invalid ∧ t.settings.unsaved = true ∧
        t.status.conditions = BitVec.ofNat 14 (2 ^ 11)) ∧
    t.settings = { s.settings with
      image := { s.settings.image with validity := t.settings.image.validity }
      level := if s.settings.identity.fixed then .fixed else .opened
      unsaved := t.settings.unsaved
      changeNote := false
      save := none
      resetCause := .powerOn } ∧
    ((∀ i : Fin 29, t.status.counters[i] = 0) ∧ t.status.capture = none ∧ ∀ i : Fin 5, t.status.faultCounts[i] = 0) ∧
    (t.tb.discipline = .freeRun ∧ t.tb.correction = 0 ∧ t.tb.goodCount = 0 ∧ t.tb.outlierCount = 0 ∧
      t.tb.missingCount = 0 ∧ t.tb.holdoverAge = 0 ∧ t.tb.holdoverLong = false ∧ t.tb.markCount = 0 ∧
      t.tb.tickCount + 1 = 0 ∧ t.tb.lastEdge = none ∧ t.tb.earlyEdge = none ∧ t.tb.label = none ∧ t.tb.rate = t.tb.rateSet ∧
      t.tb.depth = t.tb.depthSet) ∧
    (∀ p : Port, (t.port p).framing = .hunt ∧ (t.port p).fifo = [] ∧ (t.port p).paceLatch = false ∧
      (t.port p).mode = .disabled ∧ (t.port p).heldError = none ∧ (t.port p).paceLine = true) ∧
    (t.asm.openSet = [] ∧ t.asm.closeQueue = [] ∧ t.asm.closing = none ∧ t.asm.lastServed = .b) ∧
    (∀ n : Fin 16, t.corr.held[n] = none ∧ t.corr.lastGood[n] = none) ∧
    (∀ k : Fin 2, t.screens[k] = ⟨none, none, 0, none, false⟩) ∧
    (t.dec.pendingSeconds = [] ∧ (∀ k : Fin 2, t.dec.tickHistory[k] = [] ∧ t.dec.secondHistory[k] = []) ∧
      t.dec.scalarHistory = [] ∧ (∀ n : Fin 16, t.dec.tempHistory[n] = [] ∧ t.dec.captures[n] = none) ∧
      t.dec.nextMinute = none ∧ t.dec.tickStep = none ∧ t.dec.secondStep = none) ∧
    (t.staging.pendingConfig = t.staging.active ∧ t.staging.generation = 0 ∧ t.staging.commitScheduled = false ∧
      t.staging.restartScheduled = false) ∧
    (t.link.framing = .hunt ∧ t.link.late = none ∧ t.link.requests = [] ∧ t.link.heldSave = none ∧ t.link.output = [] ∧
      t.link.sending = false ∧ t.link.secondsLost = 0 ∧ t.link.minutesLost = 0 ∧ t.link.rate = t.link.confirmedRate ∧
      t.link.rateState = .idle ∧ t.link.waitingRate = none) ∧
    t.aux.lastMarker = none ∧ t.pending = s.pending

/-- POWER_LOSS leaves the image and the identity area, and the POWER_ON after it finds a save that was running not ended: the
check finds no whole image, and the defaults are loaded (R206; what else the model's unpowered device holds is log 9, what a
running save leaves of the image is log 8). -/
def Obligations.PowerLossKeepsImageAndIdentity : Prop :=
  ∀ s : State, ∃ t, exec .powerLoss s = .next t ∧ t.phase = .off ∧ t.settings.image = s.settings.image ∧
    t.settings.identity = s.settings.identity ∧ t.settings.save = none ∧ t.link.requests = [] ∧ t.link.output = [] ∧
    ∃ u, exec .powerOn t = .next u ∧ u.settings.save = none ∧ u.settings.identity = s.settings.identity ∧
      u.settings.image.contents = s.settings.image.contents ∧ u.settings.image.crc = s.settings.image.crc ∧
      (∀ x, s.settings.image.contents = some x → crc32 (Config.imageBytes x) = s.settings.image.crc →
        u.settings.image.validity = .valid ∧ u.workingSettings = x) ∧
      (s.settings.image.contents = none → u.settings.image.validity = .invalid ∧ u.workingSettings = Settings.default)

/-- START_UP_COMPLETE makes the first mark: second 0, tick 0, the ports by their flags, the indicator past code 1, one START
notice (R3, R39, R192, R208). -/
def Obligations.StartUpMakesTheFirstMark : Prop :=
  ∀ (n : Nat) (s : State), s.phase = .loaded → s.tb.discipline = .freeRun → s.staging.commitScheduled = false →
    s.staging.restartScheduled = false → s.asm.openSet = [] → s.asm.closeQueue = [] → s.asm.closing = none →
    s.link.output = [] → s.status.capture = none →
    ∃ t, exec (.startUpComplete n) s = .next t ∧ t.phase = .running ∧
      t.tb = ticked (marked { s.tb with clock := s.tb.clock + n } 0) ∧
      (∀ p : Port, t.port p = { s.port p with mode := if (s.port p).settings.enabled then .active else .disabled }) ∧
      t.asm.openSet = [⟨⟨s.tb.tickCount + 1, 0, 0⟩, Vector.replicate 16 .empty⟩] ∧ t.asm.closeQueue = [] ∧
      t.dec.pendingSeconds = s.dec.pendingSeconds ++ [⟨0, s.tb.tickCount + 1, .freeRun, 0, false, none⟩] ∧
      t.link.output = [⟨.notice (.start .powerOn s.settings.image.validity 0), false⟩] ∧
      t.indicator = (if s.settings.image.validity = .valid then 3 else 2) ∧
      (∀ i : Fin 4, (t.aux.lines[i]).raised =
        ((s.aux.lines[i]).raised || decide ((s.aux.lines[i]).settings.designation = .secondMark))) ∧
      t.store = s.store ∧ t.corr = s.corr ∧ t.screens = s.screens ∧ t.staging = s.staging ∧ t.settings = s.settings ∧
      t.status.conditions = s.status.conditions ∧ t.status.counters = s.status.counters

/-! ### Marks and ticks -/

/-- A regular mark with nothing scheduled and no label waiting: the second number advances by one, the length 10,000,000 + D + c
is fixed and c used up, the holdover ages, the lines rise, the decimator gets its entry, tick index 0 is issued (R1, R2, R14,
R116, R193). -/
def Obligations.MarkBeginsTheNextSecond : Prop :=
  ∀ s : State, s.phase = .running → s.tb.markLabel = none → s.staging.commitScheduled = false →
    s.staging.restartScheduled = false → s.link.output.length < 60 →
    let tb := marked { s.tb with clock := s.tb.clock + (s.tb.length - s.tb.period) } (s.tb.second + 1)
    let long := s.tb.discipline = .holdover ∧ s.tb.holdoverLong = false ∧
      s.tb.holdoverLimit ≤ min 86400 (s.tb.holdoverAge + 1)
    let u : State := { s with tb := tb }
    let v : State := if long then timebaseReport (conditionSet u .holdoverLong) .holdoverLong .holdover none else u
    exec .mark s = .next (tickIssued { linesRaised v with
      dec := { s.dec with pendingSeconds := s.dec.pendingSeconds ++ [markEntry tb 0] } })

/-- A scheduled commit is applied at the next mark, of whatever kind: a regular one in any discipline state, one whose number a
label directs, or the mark of a step. Pending becomes active, the generation advances, the protected set follows, the entry carries
COMMIT_APPLIED, the unsaved-changes flag is set, a COMMIT notice is offered (R15, R66, R152, R153; the order of a mark's parts is
log 14, the number and the order of a step's notices log 13, the states and the kept phase error of a RELABEL notice log 15). -/
def Obligations.MarkAppliesTheCommit : Prop :=
  ∀ s : State, s.phase = .running → s.staging.commitScheduled = true → s.staging.restartScheduled = false →
    let room (k : Nat) : Prop := s.link.output.length + (if s.tb.discipline = .holdover then 1 else 0) + k < 60
    let u := passed s (s.tb.length - s.tb.period)
    (s.tb.markLabel = none → room 0 → exec .mark s = .next (markMade u (s.tb.second + 1) false false)) ∧
    (∀ number e, s.tb.markLabel = some ⟨number, e⟩ → room 1 →
      exec .mark s = .next (timebaseReport (markMade u number false true) .relabel s.tb.discipline (some e))) ∧
    ∀ n : Nat, takesEdge s n → inSecond s n → s.tb.discipline ≠ .locked → 500 < (edgeError s n).natAbs →
      s.link.output.length + 2 < 60 →
      exec (.ppsEdge n) s = .next (stepMade s n fun x number relabelled => markMade x number true relabelled)

/-- A scheduled restart is carried out at the next mark, of whatever kind, block by block (R210 and R15, R22, R40, R56, R94, R115,
R138, R157, R180, R198); the open set becomes the D_a ticks issued last, this mark's tick 0 among them; the START notice follows
the discard. Which ticks reopen when D_a rises is log 16, the order of a mark's parts log 14, the SAVE response that stays held
log 36, the number and the order of a step's notices log 13, the states and the kept phase error of a RELABEL notice log 15. -/
def Obligations.MarkCarriesOutTheRestart : Prop :=
  ∀ s : State, s.phase = .running → s.staging.restartScheduled = true →
    let room (k : Nat) : Prop := (keptFrames s.link).length + k < 60
    let u := passed s (s.tb.length - s.tb.period)
    (s.tb.markLabel = none → room 0 → exec .mark s = .next (restartMade u (s.tb.second + 1) false false)) ∧
    (∀ number e, s.tb.markLabel = some ⟨number, e⟩ → room 1 →
      exec .mark s = .next (timebaseReport (restartMade u number false true) .relabel s.tb.discipline (some e))) ∧
    ∀ n : Nat, takesEdge s n → inSecond s n → s.tb.discipline ≠ .locked → 500 < (edgeError s n).natAbs → room 2 →
      exec (.ppsEdge n) s = .next (stepMade s n fun x number relabelled => restartMade x number true relabelled)

/-- A mark whose number a label directs, in any discipline state: it begins that second, the decimator clears its second-level
histories and turns the older entries to old series, the new entry carries RELABEL, a RELABEL notice follows (R14, R17, R19, R132;
the notice's fields are log 15). -/
def Obligations.LabelledMarkRelabels : Prop :=
  ∀ (s : State) (n : Num32) (e : Int), s.phase = .running → s.tb.markLabel = some ⟨n, e⟩ →
    s.staging.commitScheduled = false → s.staging.restartScheduled = false →
    s.link.output.length + (if s.tb.discipline = .holdover then 1 else 0) < 60 →
    exec .mark s = .next
      (timebaseReport (markMade (passed s (s.tb.length - s.tb.period)) n false true) .relabel s.tb.discipline (some e))

/-- TICK: the tick of index k falls at floor(k·L/R) after the mark; the tick count advances, STROBE is asserted, the tick opens
and the oldest open tick may begin its close (R4, R5, R42, R50). A tick scheduled at the edge of a step is not issued: an edge that
steps is not timely once its own period has issued a tick (R4; that the queue keeps the order is log 24). -/
def Obligations.TickIssued : Prop :=
  (∀ s : State, s.phase = .running → s.tb.nextIndex < s.tb.rate → 1 ≤ s.tb.depth →
    let wait := s.tb.nextIndex * s.tb.length / s.tb.rate - s.tb.period
    exec .tick s = .next (tickIssued (passed s wait))) ∧
  ∀ s : State, takesEdge s 0 → s.tb.discipline ≠ .locked → 500 < (edgeError s 0).natAbs →
    (s.tb.nextIndex - 1) * s.tb.length / s.tb.rate = s.tb.period → timely (.ppsEdge 0) s = false

/-- STROBE_END, SECOND_MARK_END, CODE2_INTERVAL_END: STROBE is released at the end of its pulse, the SECOND_MARK lines fall
1,000,000 periods after the mark that raised them, code 2 ends 100,000,000 periods after the first mark, and nothing else
changes (R5, R192, R193). IND0 to IND2 show the indicator code in binary, IND0 the least significant, by the first case of R192
that applies. From the load on each auxiliary line carries what its designation says, a clock output high for the set share of each
cycle of 2^k periods, and before the load none is driven (R193, R197; where a clock's cycle begins at the load is log 42, that a line
follows the state of the moment log 26). -/
def Obligations.PulsesAndIntervalsEnd : Prop :=
  (∀ (s : State) (u : Nat), s.phase = .running →
    (s.tb.strobeUntil = some u →
      let v := passed s (u - s.tb.clock)
      exec .strobeEnd s = .next { v with tb := { v.tb with strobeUntil := none } } ∧
        ({ v with tb := { v.tb with strobeUntil := none } } : State).strobe = false) ∧
    (s.aux.secondMarkEnd = some u →
      let v := passed s (u - s.tb.clock)
      exec .secondMarkEnd s = .next { v with aux := { s.aux with
        lines := Vector.ofFn fun i => { s.aux.lines[i] with raised := false }
        secondMarkEnd := none } }) ∧
    (s.status.code2 = some u →
      let v := passed s (u + 100000000 - s.tb.clock)
      exec .code2IntervalEnd s = .next { v with status := { s.status with code2 := none } })) ∧
  ∀ s : State,
    (∀ i : Fin 3, s.indicatorLine i = decide (s.indicator / 2 ^ i.val % 2 = 1)) ∧
    (s.phase = .powered → s.indicator = 0) ∧ (s.phase = .loaded → s.indicator = 1) ∧
    (s.phase = .running → s.status.code2 ≠ none → s.indicator = 2) ∧
    (s.phase = .running → s.status.code2 = none → s.status.capture ≠ none → s.indicator = 7) ∧
    (s.phase = .running → s.status.code2 = none → s.status.capture = none →
      s.indicator = match s.tb.discipline with | .freeRun => 3 | .acquire => 4 | .locked => 5 | .holdover => 6) ∧
    ∀ i : Fin 4,
      let line := s.aux.lines[i]
      let shows (x : LineLevel) : Prop := s.lineLevel i = x
      (s.phase = .off ∨ s.phase = .powered → shows .undriven) ∧
      (s.phase = .loaded ∨ s.phase = .running →
        match line.settings.designation with
        | .off => shows .undriven
        | .levelLow => shows .low
        | .levelHigh => shows .high
        | .secondMark => shows (if line.raised then .high else .low)
        | .alert => shows (if s.status.conditions &&& s.status.alertMask = 0 then .low else .high)
        | .markerIn => shows .undriven
        | .clockOut =>
          let k := line.settings.k
          let place := (s.tb.clock - line.cycleStart) % 2 ^ k
          (k = 0 → shows .oscillator) ∧ (k = 1 → shows (if place < 1 then .high else .low)) ∧
          (2 ≤ k → line.settings.duty = .d25 → shows (if place < 2 ^ (k - 2) then .high else .low)) ∧
          (2 ≤ k → line.settings.duty = .d50 → shows (if place < 2 ^ (k - 1) then .high else .low)) ∧
          (2 ≤ k → line.settings.duty = .d75 → shows (if place < 3 * 2 ^ (k - 2) then .high else .low)))

/-- MISSING_MARK_CHECK: an attributed edge leaves the mark present; otherwise PPS_MISSING is counted, the missing count advances
and stops at 3, and the third in a row ends ACQUIRE and LOCKED (R8, R10 to R13, R19). -/
def Obligations.MissingMarkChecked : Prop :=
  ∀ s : State, s.phase = .running → s.tb.halfChecked = false → s.link.output.length < 60 →
    let at_ := passed s (s.tb.length / 2 - s.tb.period)
    let u : State := { at_ with tb := { at_.tb with halfChecked := true } }
    let m := min 3 (s.tb.missingCount + 1)
    let v : State := counted { u with tb := { u.tb with missingCount := m } } .ppsMissing
    (s.tb.attributed = true → exec .missingMarkCheck s = .next u) ∧
    (s.tb.attributed = false → (m < 3 ∨ s.tb.discipline = .freeRun ∨ s.tb.discipline = .holdover) →
      exec .missingMarkCheck s = .next v) ∧
    (s.tb.attributed = false → m = 3 → s.tb.discipline = .acquire →
      exec .missingMarkCheck s = .next (timebaseReport { v with tb := { v.tb with
        discipline := .freeRun, correction := 0, goodCount := 0, outlierCount := 0, missingCount := 0 } }
        .stateChange .acquire none)) ∧
    (s.tb.attributed = false → m = 3 → s.tb.discipline = .locked →
      exec .missingMarkCheck s = .next (timebaseReport (conditionSet { v with tb := { v.tb with
        discipline := .holdover, correction := 0, holdoverAge := 0, holdoverLong := false, goodCount := 0,
        missingCount := 0 } } .holdover) .stateChange .locked none))

/-! ### PPS edges -/

/-- PPS_EDGE before the first mark is neither taken nor counted; within 9,000,000 periods of the last taken edge it is ignored
and counted as PPS_GLITCH, its position not kept (R6). An edge in the period of a mark, or after it, belongs to the new second: the
mark is made first, and the edge then lies at p = 0 with e = 0 in the period of the mark itself (R7; log 24); so the first mark is not
timely once its own period has seen an edge, which is why the moment of an edge before it is kept (log 24). -/
def Obligations.EdgeIgnored : Prop :=
  (∀ (n : Nat) (s : State),
    (s.phase = .powered ∨ s.phase = .loaded →
      let u := passed s n
      exec (.ppsEdge n) s = .next { u with tb := { u.tb with earlyEdge := some (s.tb.clock + n) } }) ∧
    (s.tb.earlyEdge = some (s.tb.clock + n) → timely (.startUpComplete n) s = false) ∧
    ∀ a : Nat, s.phase = .running → inSecond s n → s.tb.lastEdge = some a → s.tb.clock + n < a + 9000000 →
      exec (.ppsEdge n) s = .next (counted (passed s n) .ppsGlitch)) ∧
  ∀ (n : Nat) (s t : State), s.phase = .running → s.tb.length ≤ s.tb.period + n → exec .mark s = .next t →
    let late := n - (s.tb.length - s.tb.period)
    late < t.tb.length →
    exec (.ppsEdge n) s = exec (.ppsEdge late) t ∧ t.tb.period = 0 ∧ (2 ≤ t.tb.length → edgeError t 0 = 0)

/-- A taken edge within 500 periods and without a label is an update; the state and its counts follow the table of 1.4, and a
change of state is reported (R7, R9, R10 to R13, R19; that the good count keeps its 8 in LOCKED is log 28). -/
def Obligations.EdgeUpdates : Prop :=
  ∀ (n : Nat) (s : State), takesEdge s n → inSecond s n → s.tb.label = none → (edgeError s n).natAbs ≤ 500 → s.link.output.length < 60 →
    let e := edgeError s n
    let u := edgeNoted s n
    let t := edgeUpdated u.tb e
    let acquired (good : Nat) : State :=
      { u with tb := { t with
          discipline := .acquire, goodCount := good, missingCount := 0, holdoverAge := 0, holdoverLong := false } }
    (s.tb.discipline = .freeRun ∨ s.tb.discipline = .holdover →
      exec (.ppsEdge n) s = .next
        (timebaseReport (acquired (if e.natAbs ≤ 10 then 1 else 0)) .stateChange s.tb.discipline (some e))) ∧
    (s.tb.discipline = .acquire → 10 < e.natAbs →
      exec (.ppsEdge n) s = .next { u with tb := { t with goodCount := 0 } }) ∧
    (s.tb.discipline = .acquire → e.natAbs ≤ 10 → s.tb.goodCount + 1 < 8 →
      exec (.ppsEdge n) s = .next { u with tb := { t with goodCount := s.tb.goodCount + 1 } }) ∧
    (s.tb.discipline = .acquire → e.natAbs ≤ 10 → s.tb.goodCount + 1 = 8 →
      exec (.ppsEdge n) s = .next (timebaseReport
        { u with tb := { t with goodCount := 8, discipline := .locked, outlierCount := 0, missingCount := 0 } }
        .stateChange .acquire (some e))) ∧
    (s.tb.discipline = .locked → exec (.ppsEdge n) s = .next { u with tb := { t with outlierCount := 0 } })

/-- A taken edge beyond 500 periods in LOCKED is an outlier: neither update nor step, PPS_OUTLIER counted, and the fourth in a
row drops the state to ACQUIRE (R12; that the outlier count then keeps its 4 is log 28). -/
def Obligations.OutlierInLocked : Prop :=
  ∀ (n : Nat) (s : State), takesEdge s n → inSecond s n → s.tb.label = none → s.tb.discipline = .locked →
    500 < (edgeError s n).natAbs → s.link.output.length < 60 →
    let e := max (-5000000) (min 4999999 (edgeError s n))
    let u := counted (edgeNoted s n) .ppsOutlier
    (s.tb.outlierCount + 1 < 4 →
      exec (.ppsEdge n) s = .next { u with tb := { u.tb with outlierCount := s.tb.outlierCount + 1 } }) ∧
    (s.tb.outlierCount + 1 = 4 →
      exec (.ppsEdge n) s = .next (timebaseReport
        { u with tb := { u.tb with
            outlierCount := 4, discipline := .acquire, goodCount := 0, missingCount := 0, holdoverAge := 0,
            holdoverLong := false } } .stateChange .locked (some e)))

/-- A taken edge beyond 500 periods outside LOCKED is a step: the edge is a mark whose second is 10,000,000 + D long, the state
is ACQUIRE, the decimator and the screens are told, TIME_STEPPED, STEPS and a STEP notice report it (R15, R111, R131). -/
def Obligations.StepMakesTheEdgeAMark : Prop :=
  ∀ (n : Nat) (s : State), takesEdge s n → inSecond s n → s.tb.label = none → s.tb.discipline ≠ .locked →
    500 < (edgeError s n).natAbs → s.staging.commitScheduled = false → s.staging.restartScheduled = false →
    s.link.output.length < 60 →
    let e := max (-5000000) (min 4999999 (edgeError s n))
    let u := edgeNoted s n
    let tb := { marked { u.tb with
        discipline := .acquire, goodCount := 0, correction := 0, holdoverAge := 0, holdoverLong := false }
        (s.tb.second + 1) with attributed := true }
    let w : State := { u with tb := tb }
    exec (.ppsEdge n) s = .next (timebaseReport (counted (conditionSet (tickIssued { linesRaised w with
      screens := Vector.ofFn fun k => { s.screens[k] with pendingClear := true }
      dec := { s.dec with
        pendingSeconds := s.dec.pendingSeconds ++ [markEntry tb 1]
        tickHistory := Vector.replicate 2 []
        secondHistory := Vector.replicate 2 []
        scalarHistory := []
        tempHistory := Vector.replicate 16 []
        captures := Vector.replicate 16 none
        tickStep := some (s.tb.tickCount + 1)
        secondStep := some (s.tb.second + 1) } }) .timeStepped) .timeSteps) .step s.tb.discipline (some e))

/-- A taken edge consumes the pending label. Where it does not step, the edge does all it would do without a label; then an equal
number changes nothing more, and a different one renumbers the second in progress at once when its mark is made, and otherwise
waits for the coming mark (R17, R132; the notice's fields are log 15, its place after a STATE_CHANGE log 43). Where it steps, the
label numbers the step's mark, and a RELABEL notice follows the STEP notice when the number is not the next one (log 13). -/
def Obligations.LabelConsumedByTheEdge : Prop :=
  ∀ (n : Nat) (number : Num32) (s : State), takesEdge s n → inSecond s n → s.tb.label = some number →
    s.link.output.length + 1 < 60 →
    let e := max (-5000000) (min 4999999 (edgeError s n))
    (s.tb.discipline = .locked ∨ (edgeError s n).natAbs ≤ 500 →
      ∃ v, exec (.ppsEdge n) { s with tb := { s.tb with label := none } } = .next v ∧ v.tb.label = none ∧
        (s.tb.period + n < s.tb.length / 2 → number = s.tb.second → exec (.ppsEdge n) s = .next v) ∧
        (s.tb.period + n < s.tb.length / 2 → number ≠ s.tb.second →
          exec (.ppsEdge n) s = .next (relabelledNow v number e)) ∧
        (s.tb.length / 2 ≤ s.tb.period + n → number = s.tb.second + 1 → exec (.ppsEdge n) s = .next v) ∧
        (s.tb.length / 2 ≤ s.tb.period + n → number ≠ s.tb.second + 1 →
          exec (.ppsEdge n) s = .next { v with tb := { v.tb with markLabel := some ⟨number, e⟩ } })) ∧
    (s.tb.discipline ≠ .locked → 500 < (edgeError s n).natAbs → s.staging.commitScheduled = false →
      s.staging.restartScheduled = false →
      exec (.ppsEdge n) s = .next (stepMade s n fun x number relabelled => markMade x number true relabelled))

/-- LOCKED is entered only from ACQUIRE, by a taken PPS edge within ±10 periods of its mark that finds seven good edges
counted (R11). An edge in the period of the coming mark, or after it, is judged in the second that mark begins (R7; log 24). -/
def Obligations.LockedOnlyFromEightGoodEdges : Prop :=
  ∀ (c : Instr) (s t : State), exec c s = .next t → t.tb.discipline = .locked → s.tb.discipline ≠ .locked →
    s.tb.discipline = .acquire ∧ 7 ≤ s.tb.goodCount ∧
      ∃ n k u, c = .ppsEdge n ∧ takesEdge u k ∧ (edgeError u k).natAbs ≤ 10 ∧
        ((inSecond s n ∧ u = s ∧ k = n) ∨
          (¬inSecond s n ∧ exec .mark s = .next u ∧ k = n - (s.tb.length - s.tb.period)))

/-! ### Sensor ports -/

/-- A byte at a port outside the completion of a frame: HUNT discards any byte but 0xC3, which enters COLLECT, and COLLECT
takes up to five body bytes; both byte rows receive alike (R23; log 5). FRAME_ABANDON: a frame in collection is abandoned after its
gap, and FRAGMENTS is counted while the port is ACTIVE and not otherwise (R23; the moment is log 17). -/
def Obligations.PortBytesCollected : Prop :=
  (∀ (c : Instr) (p : Port) (b : Byte) (n : Nat) (s : State),
    c = .sampleFrameByte p b n ∨ c = .sampleFrameArrival p b n → s.phase ≠ .off →
    let u := passed s n
    let kept (f : PortFraming) : State := u.setPort p { s.port p with framing := f, lastByteAt := s.tb.clock + n }
    ((s.port p).framing = .hunt → b ≠ 0xC3 → exec c s = .next u) ∧
    ((s.port p).framing = .hunt → b = 0xC3 → exec c s = .next (kept (.collect []))) ∧
    ∀ body, (s.port p).framing = .collect body → body.length < 5 → exec c s = .next (kept (.collect (body ++ [b])))) ∧
  ∀ (p : Port) (body : List Byte) (s : State), s.phase ≠ .off → (s.port p).framing = .collect body →
    let u := (passed s ((s.port p).lastByteAt + 20001 - s.tb.clock)).setPort p { s.port p with framing := .hunt }
    ((s.port p).mode = .active → exec (.frameAbandon p) s = .next (counted u (.fragments p))) ∧
    ((s.port p).mode ≠ .active → exec (.frameAbandon p) s = .next u)

/-- A frame that arrives while its port is DISABLED or HALTED is discarded whole; from power-on to the first mark both ports are
DISABLED (R29; that both byte rows complete a frame alike is log 5). -/
def Obligations.FrameDiscardedUnlessActive : Prop :=
  (∀ (c : Instr) (p : Port) (b : Byte) (n : Nat) (s : State) (body : List Byte),
    c = .sampleFrameByte p b n ∨ c = .sampleFrameArrival p b n → s.phase ≠ .off →
    (s.port p).framing = .collect body → body.length = 5 → (s.port p).mode ≠ .active →
    exec c s = .next ((passed s n).setPort p { s.port p with framing := .hunt, lastByteAt := s.tb.clock + n })) ∧
  (∀ s t : State, exec .powerOn s = .next t → t.portA.mode = .disabled ∧ t.portB.mode = .disabled) ∧
  ∀ (c : Instr) (s t : State), exec c s = .next t → s.phase ≠ .running → t.phase ≠ .running →
    s.portA.mode = .disabled → s.portB.mode = .disabled → t.portA.mode = .disabled ∧ t.portB.mode = .disabled

/-- The entry decoded from a frame's six body bytes: source address, flags, tick sequence, signed 24-bit value (R24, R26). -/
def Sys2Proof.Claims.decoded (b0 b1 b2 b3 b4 : Byte) (check : CheckState) : FifoEntry :=
  let v : Nat := b2.toNat * 65536 + b3.toNat * 256 + b4.toNat
  { source := BitVec.ofNat 4 (b0.toNat / 16)
    overrange := b0.getLsbD 3
    digitizer := b0.getLsbD 2
    sequence := b1
    value := if v < 8388608 then (v : Int) else (v : Int) - 16777216
    check := check }

/-- An entry at the young end of a FIFO; the pace latch is set when the count reaches the threshold (R26, R32). -/
def Sys2Proof.Claims.entered (p : SensorPort) (e : FifoEntry) : SensorPort :=
  { p with
    fifo := p.fifo ++ [e]
    paceLatch := p.paceLatch || decide (p.settings.threshold ≤ p.fifo.length + 1) }

open Sys2Proof.Claims

/-- A frame that arrives while its port is ACTIVE: dropped when the FIFO is full, dropped or halting the port when its CRC-8
fails, entered otherwise (R24, R26, R27, R28, R32, R37; that both byte rows complete a frame alike is log 5). -/
def Obligations.FrameArrivesInActive : Prop :=
  ∀ (c : Instr) (p : Port) (b0 b1 b2 b3 b4 b : Byte) (n : Nat) (s : State),
    c = .sampleFrameByte p b n ∨ c = .sampleFrameArrival p b n → s.phase ≠ .off →
    (s.port p).framing = .collect [b0, b1, b2, b3, b4] → (s.port p).mode = .active → s.link.output.length + 1 < 60 →
    let hunting : SensorPort := { s.port p with framing := .hunt, lastByteAt := s.tb.clock + n }
    let u := (passed s n).setPort p hunting
    let bad := decoded b0 b1 b2 b3 b4 .bad
    let fault : RaisedFault := ⟨.frameCheck, .port p, s.lastTick.second, s.lastTick.index, .source bad.source⟩
    let failed := raised (counted u (.checkErrors p)) fault
    (32 ≤ (s.port p).fifo.length →
      exec c s = .next (conditionSet (counted u (.overflow p)) (match p with | .a => .portAOverflow | .b => .portBOverflow))) ∧
    ((s.port p).fifo.length < 32 → crc8 [b0, b1, b2, b3, b4] = b →
      exec c s = .next (u.setPort p (entered hunting (decoded b0 b1 b2 b3 b4 .good)))) ∧
    ((s.port p).fifo.length < 32 → crc8 [b0, b1, b2, b3, b4] ≠ b → (s.port p).settings.policy = .skip →
      exec c s = .next failed) ∧
    ((s.port p).fifo.length < 32 → crc8 [b0, b1, b2, b3, b4] ≠ b → (s.port p).settings.policy = .stop →
      let held : HeldError := ⟨bad.source, bad.sequence, bad.overrange, bad.digitizer, s.tb.second, s.lastTick.index⟩
      exec c s = .next (admitted
        (conditionSet (failed.setPort p { entered hunting bad with mode := .halted, heldError := some held })
          (match p with | .a => .portAHalted | .b => .portBHalted))
        (.notice (.port p .halted .active .halted ((s.port p).fifo.length + 1) (some held)))))

/-- The number of a port as a parameter (R181). -/
def Sys2Proof.Claims.portByte (p : Port) : Byte :=
  match p with
  | .a => 0
  | .b => 1

open Sys2Proof.Claims

/-- PORT_ENABLE: refused with CONFLICT on a HALTED port, else the port is ACTIVE with its flag on or DISABLED with its flag off,
FIFO and latch kept (R33, R34). PORT_SET: a threshold of 8, 16 or 24 and a policy are written in every port state, and a
threshold at or below the count sets the latch; any other threshold is refused with RANGE (R35). PORT_RESET: answered OK in
every port state; FIFO emptied, latch cleared, held error absent, DISABLED, flag off; a PORT notice follows the response when
the port was HALTED (R36, R37). A port other than A and B, a setting beyond off and a policy beyond STOP are refused with RANGE in
every port state (R33, R35, R36, R181). The bytes of on and off are log 11. -/
def Obligations.PortRequests : Prop :=
  (∀ (p : Port) (q : Request) (s : State),
    (∀ on : Bool, Ready s .portEnable q → q.params = [portByte p, if on then 0 else 1] →
      ((s.port p).mode = .halted → exec .portEnable s = .next (answered (taken s) q .conflict [])) ∧
      ((s.port p).mode ≠ .halted → exec .portEnable s = .next (answered (taken (unsavedSet (s.setPort p { s.port p with
        mode := if on then .active else .disabled
        settings := { (s.port p).settings with enabled := on } }))) q .ok []))) ∧
    (∀ (threshold : Byte) (policy : Policy), Ready s .portSet q →
      q.params = [portByte p, threshold, match policy with | .skip => 0 | .stop => 1] →
      (threshold = 8 ∨ threshold = 16 ∨ threshold = 24 →
        exec .portSet s = .next (answered (taken (unsavedSet (s.setPort p { s.port p with
          settings := { (s.port p).settings with threshold := threshold.toNat, policy := policy }
          paceLatch := (s.port p).paceLatch || decide (threshold.toNat ≤ (s.port p).fifo.length) }))) q .ok [])) ∧
      (threshold ≠ 8 → threshold ≠ 16 → threshold ≠ 24 →
        exec .portSet s = .next (answered (taken s) q .range []))) ∧
    (Ready s .portReset q → q.params = [portByte p] → s.link.output.length + 1 < 60 →
      let u := answered (taken (unsavedSet (s.setPort p { s.port p with
        fifo := []
        paceLatch := false
        heldError := none
        mode := .disabled
        settings := { (s.port p).settings with enabled := false } }))) q .ok []
      ((s.port p).mode = .halted →
        exec .portReset s = .next (admitted u (.notice (.port p .reset .halted .disabled 0 none)))) ∧
      ((s.port p).mode ≠ .halted → exec .portReset s = .next u))) ∧
  ∀ (q : Request) (s : State),
    let range : Host.Outcome State Fault Refusal := .next (answered (taken s) q .range [])
    (∀ port setting : Byte, Ready s .portEnable q → q.params = [port, setting] → 2 ≤ port.toNat ∨ 2 ≤ setting.toNat →
      exec .portEnable s = range) ∧
    (∀ port threshold policy : Byte, Ready s .portSet q → q.params = [port, threshold, policy] →
      2 ≤ port.toNat ∨ (threshold ≠ 8 ∧ threshold ≠ 16 ∧ threshold ≠ 24) ∨ 2 ≤ policy.toNat → exec .portSet s = range) ∧
    ∀ port : Byte, Ready s .portReset q → q.params = [port] → 2 ≤ port.toNat → exec .portReset s = range

/-! ### Assembly -/

/-- The port ENTRY_TAKE serves: the one with entries, and of two with entries the one the pointer does not name (R45). -/
def Sys2Proof.Claims.served (s : State) (p : Port) : Prop :=
  match p with
  | .a => s.portA.fifo ≠ [] ∧ (s.portB.fifo = [] ∨ s.asm.lastServed = .b)
  | .b => s.portB.fifo ≠ [] ∧ (s.portA.fifo = [] ∨ s.asm.lastServed = .a)

/-- The state once a port's oldest entry is taken: the latch clears when the FIFO empties, the pointer names the port (R26,
R32, R45). -/
def Sys2Proof.Claims.entryGone (s : State) (p : Port) (rest : List FifoEntry) : State :=
  let u := s.setPort p { s.port p with fifo := rest, paceLatch := (s.port p).paceLatch && !rest.isEmpty }
  { u with asm := { s.asm with lastServed := p } }

/-- The enabled channel that claims a port and source address, unique by the commit check (R46). -/
def Sys2Proof.Claims.claims (s : State) (n : Fin 16) (p : Port) (a : BitVec 4) : Prop :=
  ∀ m : Fin 16, ((s.staging.active.channels[m]).enabled = true ∧ (s.staging.active.channels[m]).port = p ∧
    (s.staging.active.channels[m]).source = a) ↔ m = n

/-- What a frame fills its slot with (R48). -/
def Sys2Proof.Claims.slotOf (e : FifoEntry) (p : Port) : Slot :=
  if e.overrange = false ∧ e.digitizer = false then .filled e.value p e.source
  else .missing e.overrange e.digitizer p e.source

open Sys2Proof.Claims

/-- ENTRY_TAKE: a BAD entry is discarded and counts nothing; a GOOD one is dropped as UNCLAIMED, LATE, UNEXPECTED or DUPLICATE,
or filed in its channel's slot of its tick (R30, R45 to R48). -/
def Obligations.EntryTaken : Prop :=
  ∀ (p : Port) (e : FifoEntry) (rest : List FifoEntry) (s : State), s.asm.closeQueue = [] → served s p →
    (s.port p).fifo = e :: rest →
    let u := entryGone s p rest
    (e.check = .bad → exec .entryTake s = .next u) ∧
    (e.check = .good →
      (∀ m : Fin 16, ¬((s.staging.active.channels[m]).enabled = true ∧ (s.staging.active.channels[m]).port = p ∧
        (s.staging.active.channels[m]).source = e.source)) → exec .entryTake s = .next (counted u .unclaimed)) ∧
    ∀ n : Fin 16, e.check = .good → claims s n p e.source →
      ((∀ t ∈ s.asm.openSet, BitVec.truncate 8 t.id.count ≠ e.sequence) → exec .entryTake s = .next (counted u .late)) ∧
      ∀ (old new : List OpenTick) (t : OpenTick), s.asm.openSet = old ++ t :: new →
        (∀ x ∈ old, BitVec.truncate 8 x.id.count ≠ e.sequence) → BitVec.truncate 8 t.id.count = e.sequence →
        ((s.staging.active.channels[n]).kind ≠ .axis → t.id.index ≠ 0 →
          exec .entryTake s = .next (counted u .unexpected)) ∧
        ((s.staging.active.channels[n]).kind = .axis ∨ t.id.index = 0 → t.slots[n] ≠ .empty →
          exec .entryTake s = .next (counted u .duplicate)) ∧
        ((s.staging.active.channels[n]).kind = .axis ∨ t.id.index = 0 → t.slots[n] = .empty →
          exec .entryTake s = .next { u with asm := { u.asm with
            openSet := old ++ { t with slots := t.slots.set n (slotOf e p) } :: new } })

/-! ### The close and its stages -/

/-- Division with rounding: TRUNCATE rounds toward zero; ROUND gives an integer within half a divisor of the quotient, and at a
tie the one farther from zero (00_scope.md 3.3). The bounds of the manual follow: stage A of a field channel lies within
±1,082,130,432, the gain term within ±2,113,536 and the corrected value within ±1,092,632,576 (R77, R88). -/
def Obligations.DivisionRoundsWithinBounds : Prop :=
  (∀ (n : Int) (d : Nat), 0 < d →
    divRound .truncate n d = Int.tdiv n d ∧ 2 * (divRound .round n d * d - n).natAbs ≤ d ∧
      (2 * (divRound .round n d * d - n).natAbs = d → n.natAbs < (divRound .round n d * d).natAbs)) ∧
  ∀ (d : ChannelDescriptor) (mode : Rounding) (counts gain offset : Int), counts.natAbs ≤ 8388608 →
    d.scale.natAbs ≤ 8388608 → d.offset.natAbs ≤ 8388608 → gain.natAbs ≤ 32768 → offset.natAbs ≤ 8388608 →
    let v1 := d.stageA counts
    v1.natAbs ≤ 1082130432 ∧ (divRound mode (v1 * gain) 16777216).natAbs ≤ 2113536 ∧
      (applyCorrection mode v1 offset gain).natAbs ≤ 1092632576

/-- TICK_CLOSE completes the close in progress: its tick leaves the close queue, the next one begins with the configuration then
active, and the close touches neither the open set, the ports, the store, the lines, the staging nor the settings; of the link
only the output queue and the accumulators, of the conditions it sets only FAULT_CAPTURED and RECORD_LOSS (R43, R44, R50). -/
def Obligations.TickCloseEndsTheClose : Prop :=
  ∀ (n : Nat) (cc : CloseContext) (t : OpenTick) (rest : List OpenTick) (s : State),
    s.asm.closing = some cc → s.asm.closeQueue = t :: rest → s.phase ≠ .off →
    ∃ u, exec (.tickClose n) s = .next u ∧ u.asm.closeQueue = rest ∧ (rest = [] → u.asm.closing = none) ∧
      (rest ≠ [] → u.asm.closing = some ⟨s.staging.active, s.staging.generation, s.tb.markCount,
        #v[u.screens[0].pendingClear, u.screens[1].pendingClear], s.tb.clock + n⟩) ∧
      u.asm.openSet = s.asm.openSet ∧ u.asm.lastServed = s.asm.lastServed ∧ u.asm.issued = s.asm.issued ∧
      u.tb = (passed s n).tb ∧ u.phase = s.phase ∧ u.portA = s.portA ∧ u.portB = s.portB ∧ u.store = s.store ∧
      u.aux = s.aux ∧ u.staging = s.staging ∧ u.settings = s.settings ∧ u.pending = s.pending ∧
      { u.link with
        output := s.link.output, secondsLost := s.link.secondsLost, minutesLost := s.link.minutesLost } = s.link ∧
      u.status.conditions ||| BitVec.ofNat 14 (2 ^ 9 + 2 ^ 10) = s.status.conditions ||| BitVec.ofNat 14 (2 ^ 9 + 2 ^ 10) ∧
      u.status.conditions &&& s.status.conditions = s.status.conditions ∧
      u.status.alertMask = s.status.alertMask ∧ u.status.captureMask = s.status.captureMask ∧
      u.status.code2 = s.status.code2

/-- A triad whose screen was built under other axes, or that is disabled in the configuration of the close (R110, R133). -/
def Sys2Proof.Claims.foreign (sc : Screen) (d : TriadDescriptor) : Bool :=
  !d.enabled || (match sc.binding with | some b => b != d.axes | none => false)

/-- What revalidation finds a slot to be: the counter that its emptying counts, if it is emptied (R51). -/
def Sys2Proof.Claims.emptied (d : ChannelDescriptor) (index : Nat) (slot : Slot) : Option Counter :=
  let judge (p : Port) (a : BitVec 4) : Option Counter :=
    if d.enabled = true ∧ d.port = p ∧ d.source = a then
      if d.kind = .axis ∨ index = 0 then none else some .unexpected
    else some .unclaimed
  match slot with
  | .empty => none
  | .filled _ p a => judge p a
  | .missing _ _ p a => judge p a

/-- The corrector's records that still belong to the descriptors of a close (R80, R90). -/
def Sys2Proof.Claims.recordsKept (k : Corrector) (c : Configuration) : Corrector where
  held := Vector.ofFn fun n =>
    let d := c.channels[n]
    (k.held[n]).filter fun h => decide (d.enabled = true ∧ d.kind = .temperature ∧ h.descriptor.enabled = true ∧
      h.descriptor.kind = .temperature ∧ h.descriptor.port = d.port ∧ h.descriptor.source = d.source ∧
      h.descriptor.scale = d.scale ∧ h.descriptor.offset = d.offset ∧ h.descriptor.mode = d.mode)
  lastGood := Vector.ofFn fun n =>
    let d := c.channels[n]
    (k.lastGood[n]).filter fun g =>
      decide (d.enabled = true ∧ d.segment = some g.segment ∧ d.tempSource = some g.source)

/-- The slots of a closing tick after revalidation (R51). -/
def Sys2Proof.Claims.slotsLeft (c : Configuration) (t : OpenTick) : Vector Slot 16 := Vector.ofFn fun n =>
  if (Sys2Proof.Claims.emptied (c.channels[n]) t.id.index (t.slots[n])).isSome then .empty else t.slots[n]

/-- UNCLAIMED and UNEXPECTED advanced by what revalidation emptied, stopping at 65,535 (R51, R185). -/
def Sys2Proof.Claims.emptiedCounted (s : State) (c : Configuration) (t : OpenTick) : State :=
  let number (x : Counter) : Nat :=
    (List.finRange 16).countP fun n => decide (Sys2Proof.Claims.emptied (c.channels[n]) t.id.index (t.slots[n]) = some x)
  let more (i : Fin 29) : Nat := if i.val = 6 then number .unclaimed else if i.val = 8 then number .unexpected else 0
  { s with status := { s.status with
      counters := Vector.ofFn fun i => BitVec.ofNat 16 (min 65535 ((s.status.counters[i]).toNat + more i)) } }

/-- The numbers of a close's TEMPERATURE channels, ascending, and of its SCALAR channel (R118, R127). -/
def Sys2Proof.Claims.temperaturesOf (c : Configuration) : List (Fin 16) :=
  (List.finRange 16).filter fun n => (c.channels[n]).enabled && decide ((c.channels[n]).kind = .temperature)

def Sys2Proof.Claims.scalarOf (c : Configuration) : Option (Fin 16) :=
  (List.finRange 16).find? fun n => (c.channels[n]).enabled && decide ((c.channels[n]).kind = .scalar)

/-- The triads enabled in a configuration, ascending (R120). -/
def Sys2Proof.Claims.triadsOf (c : Configuration) : List (Fin 2) := (List.finRange 2).filter fun k => (c.triads[k]).enabled

open Sys2Proof.Claims

/-- TICK_CLOSE runs the stages of a close in their order: revalidation empties what the configuration of the close no longer claims
and counts it; the corrector's records that no longer belong are dropped, then the TEMPERATURE channels are corrected and then the
field channels, each ascending; the triads are combined; the decimation step follows, told which triads' screens were foreign; the
tick leaves the close queue and the next close may begin (R43, R44, R50, R51, R52, R80, R90, R110, R133; that the whole close stands
at its end is log 23). -/
def Obligations.CloseRunsItsStages : Prop :=
  ∀ (n : Nat) (cc : CloseContext) (t : OpenTick) (rest : List OpenTick) (s : State),
    s.asm.closing = some cc → s.asm.closeQueue = t :: rest → s.phase ≠ .off →
    let u := emptiedCounted (passed s n) cc.config t
    let slots := slotsLeft cc.config t
    let start : Correcting := ⟨{ u with corr := recordsKept s.corr cc.config }, Vector.replicate 16 ⟨none, 0⟩⟩
    let warmed := (List.finRange 16).foldl (temperatureStep cc t slots) start
    let corrected := (List.finRange 16).foldl (fieldStep cc t slots) warmed
    let combined := corrected.state.combineTriads cc t.id corrected.samples
    let strangers := (foreign s.screens[0] cc.config.triads[0], foreign s.screens[1] cc.config.triads[1])
    let v := combined.1.decimate cc t.id corrected.samples strangers combined.2
    exec (.tickClose n) s = .next (closeBegun { v with asm := { s.asm with closeQueue := rest, closing := none } })

/-- Stage A of a TEMPERATURE channel: the value is counts times K over 65,536 plus the offset, saturated; the sample carries
SATURATED and a SATURATION fault is raised exactly when it lay outside; the value becomes the held temperature (R78, R79). The first
pass leaves a channel that is disabled or of another kind, and one whose slot is EMPTY; a MISSING slot is an absent sample with its
OVERRANGE and DIGITIZER flags, and the held temperature stays (R52, R76, R79). -/
def Obligations.StageATemperature : Prop :=
  (∀ (cc : CloseContext) (t : OpenTick) (slots : Vector Slot 16) (acc : Correcting) (n : Fin 16) (counts : Int) (p : Port)
    (a : BitVec 4),
    (cc.config.channels[n]).enabled = true → (cc.config.channels[n]).kind = .temperature →
    slots[n] = .filled counts p a → acc.state.link.output.length < 60 →
    let d := cc.config.channels[n]
    let v := divRound d.mode (counts * d.scale) 65536 + d.offset
    let held (s : State) (x : Int) : State :=
      { s with corr := { s.corr with held := s.corr.held.set n (some ⟨x, cc.markCount, d⟩) } }
    (-32768 ≤ v → v ≤ 32767 →
      temperatureStep cc t slots acc n = ⟨held acc.state v, acc.samples.set n ⟨some v, 0⟩⟩) ∧
    (v < -32768 ∨ 32767 < v →
      let x := if v < 0 then -32768 else 32767
      temperatureStep cc t slots acc n =
        ⟨held (raised acc.state ⟨.saturation, .channel n, t.id.second, t.id.index, .none⟩) x,
          acc.samples.set n ⟨some x, BitVec.ofNat 15 (2 ^ 7)⟩⟩)) ∧
  ∀ (cc : CloseContext) (t : OpenTick) (slots : Vector Slot 16) (acc : Correcting) (n : Fin 16),
    let d := cc.config.channels[n]
    (d.enabled = false ∨ d.kind ≠ .temperature ∨ slots[n] = .empty → temperatureStep cc t slots acc n = acc) ∧
    ∀ (o f : Bool) (p : Port) (a : BitVec 4), d.enabled = true → d.kind = .temperature → slots[n] = .missing o f p a →
      temperatureStep cc t slots acc n = ⟨acc.state,
        acc.samples.set n ⟨none, BitVec.ofNat 15 ((if o then 2 ^ 8 else 0) + (if f then 2 ^ 9 else 0))⟩⟩

/-- The placement of a held value in an ASCENDING and in a DESCENDING segment, with the examples of the manual (R83, R84). -/
def Obligations.PlacementInASegment : Prop :=
  (∀ (g : Segment) (t : Int), 2 ≤ g.length → 1 ≤ g.step →
    let far : Int := ((g.length - 1) * g.step : Nat)
    (g.direction = .ascending →
      (g.start ≤ t → t ≤ g.start + far →
        (g.place t).clamped = false ∧ ((g.place t).index : Int) = (t - g.start) / g.step ∧
          ((g.place t).rem : Int) = (t - g.start) % g.step ∧ (g.place t).index ≤ g.length - 1 ∧
          (g.place t).rem < g.step) ∧
      (t < g.start → g.place t = ⟨0, 0, true⟩) ∧ (g.start + far < t → g.place t = ⟨g.length - 1, 0, true⟩) ∧
      g.place g.start = ⟨0, 0, false⟩ ∧ g.place (g.start + far) = ⟨g.length - 1, 0, false⟩ ∧
      (32767 < g.start + far → t ≤ 32767 → ¬(g.start + far < t))) ∧
    (g.direction = .descending →
      (g.start - far ≤ t → t ≤ g.start →
        (g.place t).clamped = false ∧ ((g.place t).index : Int) = (g.start - t) / g.step ∧
          ((g.place t).rem : Int) = (g.start - t) % g.step) ∧
      (g.start < t → g.place t = ⟨0, 0, true⟩) ∧ (t < g.start - far → g.place t = ⟨g.length - 1, 0, true⟩))) ∧
  (let asc : Segment := ⟨0, 9, 1000, 500, .ascending⟩
   let desc : Segment := ⟨0, 9, 5000, 500, .descending⟩
   asc.place 1234 = ⟨0, 234, false⟩ ∧ asc.addresses (asc.place 1234) = [0, 1] ∧
   asc.place 5000 = ⟨8, 0, false⟩ ∧ asc.addresses (asc.place 5000) = [8] ∧
   asc.place 400 = ⟨0, 0, true⟩ ∧ asc.addresses (asc.place 400) = [0] ∧
   desc.place 4130 = ⟨1, 370, false⟩ ∧ desc.addresses (desc.place 4130) = [1, 2] ∧
   desc.place 1000 = ⟨8, 0, false⟩ ∧ desc.addresses (desc.place 1000) = [8] ∧
   desc.place 800 = ⟨8, 0, true⟩ ∧ desc.addresses (desc.place 800) = [8] ∧ desc.place 5200 = ⟨0, 0, true⟩)

/-- A lookup whose entries are all GOOD: one entry gives its own offset and gain, two entries the straight line between them in
the channel's mode, which lies between the two, within any range that holds both, and whose quotient is no greater than the
difference (R87). -/
def Obligations.LookupInterpolates : Prop :=
  (∀ (st : Store) (g : Segment) (mode : Rounding) (p : Placement), st.firstBad (g.addresses p) = none →
    let e := st.read (g.base + p.index)
    let f := st.read (g.base + p.index + 1)
    (p.clamped = true ∨ g.length ≤ p.index + 1 → st.lookup g mode p = .good e.offset e.gain) ∧
    (p.clamped = false → p.index + 1 < g.length → st.lookup g mode p = .good
      (e.offset + divRound mode ((f.offset - e.offset) * p.rem) g.step)
      (e.gain + divRound mode ((f.gain - e.gain) * p.rem) g.step))) ∧
  (∀ (mode : Rounding) (x y : Int) (r step : Nat), r < step →
    (divRound mode ((y - x) * r) step).natAbs ≤ (y - x).natAbs ∧
    min x y ≤ x + divRound mode ((y - x) * r) step ∧ x + divRound mode ((y - x) * r) step ≤ max x y ∧
    ∀ lo hi : Int, lo ≤ x → x ≤ hi → lo ≤ y → y ≤ hi →
      lo ≤ x + divRound mode ((y - x) * r) step ∧ x + divRound mode ((y - x) * r) step ≤ hi) ∧
  divRound .round 1 2 = 1 ∧ divRound .truncate 1 2 = 0

/-- Stage B of a channel, by its held temperature: absent, the value of stage A with TEMP_ABSENT; present, with TEMP_STALE when its
age is beyond the limit of its TEMPERATURE channel and with TABLE_CLAMP, flag and fault, when the lookup is clamped. A successful
lookup corrects by its offset and gain and becomes the last good correction. A lookup that uses a BAD entry counts STORE_ERRORS once,
raises STORE_ERROR with the lowest BAD address, falls back on the last good correction, or on 0 and 0, and sets STORE_ERROR (R81,
R82, R85, R88, R89, R90; a channel without a limit is log 35). A close runs it for a FILLED slot of an enabled field channel that holds a temperature source and a segment;
a MISSING slot is absent with its flags (R52, R76, R77). -/
def Obligations.StageBCorrectsOrFallsBack : Prop :=
  (∀ (s : State) (cc : CloseContext) (tick : TickId) (n source : Fin 16) (g : Segment) (v1 : Int), s.link.output.length < 60 →
    let corrected (o gain : Int) : Int := v1 + divRound (cc.config.channels[n]).mode (v1 * gain) 16777216 + o
    let fault (cls : FaultClass) (detail : FaultDetail) : RaisedFault := ⟨cls, .channel n, tick.second, tick.index, detail⟩
    (s.corr.held[source] = none → s.stageB cc tick n source g v1 = (s, v1, BitVec.ofNat 15 (2 ^ 5))) ∧
    ∀ h, s.corr.held[source] = some h →
      let stale : DataFlags :=
        match (cc.config.channels[source]).staleness with
        | some limit => if limit < (cc.markCount - h.stamp).toNat then BitVec.ofNat 15 (2 ^ 4) else 0
        | none => 0
      let p := g.place h.value
      let u := if p.clamped then raised s (fault .tableClamp (.temperature h.value)) else s
      let flags := if p.clamped then stale ||| BitVec.ofNat 15 (2 ^ 3) else stale
      (∀ o gain, s.store.lookup g (cc.config.channels[n]).mode p = .good o gain →
        s.stageB cc tick n source g v1 =
          ({ u with corr := { s.corr with lastGood := s.corr.lastGood.set n (some ⟨o, gain, g, source⟩) } },
            corrected o gain, flags)) ∧
      ∀ a, s.store.firstBad (g.addresses p) = some a →
        let o : Int := match s.corr.lastGood[n] with | some r => r.offset | none => 0
        let gain : Int := match s.corr.lastGood[n] with | some r => r.gain | none => 0
        s.stageB cc tick n source g v1 =
          (raised (counted u .storeErrors) (fault .storeError (.address a)), corrected o gain,
            flags ||| BitVec.ofNat 15 (2 ^ 6))) ∧
  ∀ (cc : CloseContext) (t : OpenTick) (slots : Vector Slot 16) (acc : Correcting) (n : Fin 16),
    let d := cc.config.channels[n]
    let run := fieldStep cc t slots acc n
    let put (x : CorrectedSample) : Correcting := ⟨acc.state, acc.samples.set n x⟩
    (d.enabled = false ∨ d.kind = .temperature ∨ slots[n] = .empty → run = acc) ∧
    (d.enabled = true → d.kind ≠ .temperature →
      (∀ (o f : Bool) (p : Port) (a : BitVec 4), slots[n] = .missing o f p a →
        run = put ⟨none, BitVec.ofNat 15 ((if o then 2 ^ 8 else 0) + (if f then 2 ^ 9 else 0))⟩) ∧
      ∀ (counts : Int) (p : Port) (a : BitVec 4), slots[n] = .filled counts p a →
        let v1 := divRound d.mode (counts * d.scale) 65536 + d.offset
        (d.tempSource = none ∨ d.segment = none → run = put ⟨some v1, 0⟩) ∧
        ∀ source g, d.tempSource = some source → d.segment = some g →
          let r := acc.state.stageB cc t.id n source g v1
          run = ⟨r.1, acc.samples.set n ⟨some r.2.1, r.2.2⟩⟩)

/-- Stage C: three present axis samples give the matrix product over 2^22 plus the offset, with the union of their flags; each
component outside the signed 32-bit range is held to its nearer end, counts SATURATIONS and raises SATURATION, in the order X, Y,
Z, and the vector carries SATURATED; a missing axis gives a gap with AXIS_GAP and the OVERRANGE and DIGITIZER flags of the absent
samples (R97 to R100). -/
def Obligations.StageCSaturates : Prop :=
  ∀ (s : State) (d : TriadDescriptor) (k : Fin 2) (tick : TickId) (samples : Vector CorrectedSample 16),
    let x := samples[d.axes.x]
    let y := samples[d.axes.y]
    let z := samples[d.axes.z]
    let line (row : Vec3) (b vx vy vz : Int) : Int := divRound d.mode (row.x * vx + row.y * vy + row.z * vz) 4194304 + b
    let out (v : Int) : Bool := decide (v < -2147483648) || decide (2147483647 < v)
    let ends (v : Int) : Int := max (-2147483648) (min 2147483647 v)
    let judged (component : Fin 3) (v : Int) (u : State) : State :=
      if out v then raised (counted u (.saturations k)) ⟨.saturation, .triad k, tick.second, tick.index, .component component⟩
      else u
    let lost (c : CorrectedSample) : DataFlags :=
      match c.value with
      | some _ => 0
      | none => c.flags &&& BitVec.ofNat 15 (2 ^ 8 + 2 ^ 9)
    (∀ vx vy vz : Int, x.value = some vx → y.value = some vy → z.value = some vz → s.link.output.length < 60 →
      let a := line d.rowX d.offset.x vx vy vz
      let b := line d.rowY d.offset.y vx vy vz
      let c := line d.rowZ d.offset.z vx vy vz
      s.combine d k tick samples =
        (judged 2 c (judged 1 b (judged 0 a s)),
          ⟨some ⟨ends a, ends b, ends c⟩, x.flags ||| y.flags ||| z.flags |||
            if out a || out b || out c then BitVec.ofNat 15 (2 ^ 7) else 0⟩)) ∧
    (x.value = none ∨ y.value = none ∨ z.value = none →
      s.combine d k tick samples = (s, ⟨none, BitVec.ofNat 15 (2 ^ 10) ||| lost x ||| lost y ||| lost z⟩))

/-- Stage D with the screen off, and in state CLEAR: a vector within L of the reference, or without one, is accepted and becomes
the reference; one beyond L is held; a gap passes; the screen turned off releases a suspect without STEP (R102, R103). -/
def Obligations.ScreenInClear : Prop :=
  ∀ (sc : Screen) (limit : Nat) (tick : TickId) (v : Vec3) (flags : DataFlags),
    let acc (w : Vec3) : Screen := { sc with reference := some w, suspect := none, run := 0 }
    let vec : TickOutcome := ⟨some v, flags⟩
    let gap : TickOutcome := ⟨none, flags⟩
    (sc.suspect = none → limit = 0 ∨ sc.reference = none ∨ (∃ r, sc.reference = some r ∧ v.distance r ≤ limit) →
      sc.stageD limit tick vec = ⟨acc v, [⟨tick, vec⟩], 0, false, false⟩) ∧
    (∀ r, sc.suspect = none → 0 < limit → sc.reference = some r → limit < v.distance r →
      sc.stageD limit tick vec = ⟨{ sc with suspect := some ⟨v, flags, tick⟩ }, [], 0, false, false⟩) ∧
    (sc.suspect = none → sc.stageD limit tick gap = ⟨sc, [⟨tick, gap⟩], 0, false, false⟩) ∧
    ∀ p, sc.suspect = some p → limit = 0 →
      sc.stageD limit tick vec =
        ⟨acc v, [⟨p.tick, ⟨some p.vector, p.flags⟩⟩, ⟨tick, vec⟩], 0, false, false⟩ ∧
      sc.stageD limit tick gap =
        ⟨acc p.vector, [⟨p.tick, ⟨some p.vector, p.flags⟩⟩, ⟨tick, gap⟩], 0, false, false⟩

/-- Stage D in state SUSPECT with L greater than 0, over the whole step of an enabled triad at a close: return, field step,
neither level, reseed, gap, with the counts and the fault (R104 to R108). -/
def Obligations.ScreenInSuspect : Prop :=
  ∀ (s : State) (cc : CloseContext) (k : Fin 2) (tick : TickId) (samples : Vector CorrectedSample 16) (u : State)
    (o : TickOutcome) (p : Suspect) (r : Vec3),
    let d := cc.config.triads[k]
    let limit := d.limit
    d.enabled = true → 0 < limit → s.combine d k tick samples = (u, o) → (u.screens[k]).suspect = some p →
    (u.screens[k]).reference = some r → (u.screens[k]).run ≤ 3 → u.link.output.length < 60 →
    let sc := u.screens[k]
    let with_ (x : Screen) : State := { u with screens := u.screens.set k x }
    let clear (v : Vec3) : Screen := { sc with reference := some v, suspect := none, run := 0 }
    let spike : Decision := ⟨p.tick, ⟨none, p.flags ||| BitVec.ofNat 15 (2 ^ 0)⟩⟩
    (∀ v, o.vector = some v → v.distance r ≤ limit →
      s.runTriad cc k tick samples = ⟨counted (with_ (clear v)) (.spikes k), [spike, ⟨tick, o⟩]⟩) ∧
    (∀ v, o.vector = some v → limit < v.distance r → v.distance p.vector ≤ limit →
      s.runTriad cc k tick samples = ⟨counted (with_ (clear v)) (.fieldSteps k),
        [⟨p.tick, ⟨some p.vector, p.flags ||| BitVec.ofNat 15 (2 ^ 1)⟩⟩,
          ⟨tick, ⟨some v, o.flags ||| BitVec.ofNat 15 (2 ^ 1)⟩⟩]⟩) ∧
    (∀ v, o.vector = some v → limit < v.distance r → limit < v.distance p.vector → sc.run + 1 < 3 →
      s.runTriad cc k tick samples =
        ⟨counted (with_ { sc with suspect := some ⟨v, o.flags, tick⟩, run := sc.run + 1 }) (.spikes k), [spike]⟩) ∧
    (∀ v, o.vector = some v → limit < v.distance r → limit < v.distance p.vector → 3 ≤ sc.run + 1 →
      s.runTriad cc k tick samples =
        ⟨raised (counted (counted (with_ (clear v)) (.spikes k)) (.reseeds k))
          ⟨.reseed, .triad k, tick.second, tick.index, .none⟩,
          [spike, ⟨tick, ⟨some v, o.flags ||| BitVec.ofNat 15 (2 ^ 2)⟩⟩]⟩) ∧
    (o.vector = none →
      s.runTriad cc k tick samples =
        ⟨counted (with_ { sc with suspect := none, run := min 3 (sc.run + 1) }) (.spikes k), [spike, ⟨tick, o⟩]⟩)

/-- The triad combination step: both triads are checked and cleared, then triad 0 and triad 1 run, and each hands on its decisions in
tick order (R44, R97, R109). A screen built under other axes, or of a disabled triad, is cleared without a decision, and the binding
becomes the axes in force; a pending clear that waited rejects a held suspect as a spike, clears the screen and itself (R110, R111;
which clears a close acts on is log 22). A disabled triad runs no stage; an enabled one runs stage C, then stage D, which in state
CLEAR or with L = 0 counts nothing (R97, R102, R103). -/
def Obligations.TriadsPreparedAndRun : Prop :=
  ∀ (s : State) (cc : CloseContext) (tick : TickId) (samples : Vector CorrectedSample 16),
    (let prepared := (s.prepareTriad cc 0).state.prepareTriad cc 1
     let run0 := prepared.state.runTriad cc 0 tick samples
     let run1 := run0.state.runTriad cc 1 tick samples
     s.combineTriads cc tick samples =
      (run1.state, (s.prepareTriad cc 0).decisions ++ run0.decisions, prepared.decisions ++ run1.decisions)) ∧
    ∀ k : Fin 2,
      let d := cc.config.triads[k]
      let sc := s.screens[k]
      let with_ (u : State) (x : Screen) : State := { u with screens := u.screens.set k x }
      let bound : Screen := { sc with binding := if d.enabled then some d.axes else none }
      let cleared : Screen := { bound with reference := none, suspect := none, run := 0 }
      (cc.clears[k] = false → foreign sc d = false → s.prepareTriad cc k = ⟨with_ s bound, []⟩) ∧
      (cc.clears[k] = false → foreign sc d = true → s.prepareTriad cc k = ⟨with_ s cleared, []⟩) ∧
      (cc.clears[k] = true → foreign sc d = true ∨ sc.suspect = none →
        s.prepareTriad cc k = ⟨with_ s { cleared with pendingClear := false }, []⟩) ∧
      (∀ p, cc.clears[k] = true → foreign sc d = false → sc.suspect = some p →
        s.prepareTriad cc k = ⟨counted (with_ s { cleared with pendingClear := false }) (.spikes k),
          [⟨p.tick, ⟨none, p.flags ||| BitVec.ofNat 15 (2 ^ 0)⟩⟩]⟩) ∧
      (d.enabled = false → s.runTriad cc k tick samples = ⟨s, []⟩) ∧
      ∀ (u : State) (o : TickOutcome), d.enabled = true → s.combine d k tick samples = (u, o) →
        (u.screens[k]).suspect = none ∨ d.limit = 0 →
        let r := (u.screens[k]).stageD d.limit tick o
        s.runTriad cc k tick samples = ⟨with_ u r.screen, r.decisions⟩

/-- The weight of a place, 0 beyond place 126 (R141). -/
def Sys2Proof.Claims.weight (f : Filter) (i : Nat) : Nat := if h : i < 127 then (f.places[i]).toNat else 0

/-- One component of a value over a window: full weight, present weight, the test P × 1,024 ≥ Wt × q, the weighted sum over P with
the mode; GAP when it is absent, PARTIAL when it is present and P is less than Wt (R120, R121). -/
def Sys2Proof.Claims.Mean (f : Filter) (mode : Rounding) (found : Nat → Option Int) (value : Option Int) (flags : DataFlags) : Prop :=
  let places := List.range f.length
  let full := (places.map (Sys2Proof.Claims.weight f)).sum
  let present := (places.map fun i => if (found i).isSome then Sys2Proof.Claims.weight f i else 0).sum
  let sum : Int := (places.map fun i =>
    match found i with
    | some v => (Sys2Proof.Claims.weight f i : Int) * v
    | none => 0).sum
  (full * f.fraction ≤ present * 1024 →
    value = some (divRound mode sum present) ∧ flags.getLsbD 11 = false ∧ flags.getLsbD 12 = decide (present < full)) ∧
  (present * 1024 < full * f.fraction → value = none ∧ flags.getLsbD 11 = true ∧ flags.getLsbD 12 = false)

/-- A vector over a window: each component by the same test, and the samples used, whatever their weights (R120, R121). -/
def Sys2Proof.Claims.VectorMean (f : Filter) (mode : Rounding) (found : Nat → Option Vec3) (value : TriadValue) : Prop :=
  Sys2Proof.Claims.Mean f mode (fun i => (found i).map Vec3.x) (value.vector.map Vec3.x) value.flags ∧
  Sys2Proof.Claims.Mean f mode (fun i => (found i).map Vec3.y) (value.vector.map Vec3.y) value.flags ∧
  Sys2Proof.Claims.Mean f mode (fun i => (found i).map Vec3.z) (value.vector.map Vec3.z) value.flags ∧
  value.used = (List.range f.length).countP fun i => (found i).isSome

/-- The eleven flags SPIKE to AXIS_GAP of a value: the union over the entries of its window (R121). -/
def Sys2Proof.Claims.Unioned (entries : List DataFlags) (flags : DataFlags) : Prop :=
  ∀ i, i < 11 → flags.getLsbD i = entries.any fun x => x.getLsbD i

/-- Two different generations occur (R122). -/
def Sys2Proof.Claims.Straddle (generations : List Num32) : Prop := ∃ g h, g ∈ generations ∧ h ∈ generations ∧ g ≠ h

open Sys2Proof.Claims

/-- A triad second value over its window of ticks t0 − h + i: the weighted mean of the present places, the samples used, the union of
the entries' flags, GAP and PARTIAL; COMMIT_STRADDLE when the entries' generations differ; TIME_STEP when the window's first tick
precedes the tick step point; and the generation of the newest entry (R120 to R123; a present weight of 0 is log 33). -/
def Obligations.SecondValueIsTheWeightedMean : Prop :=
  ∀ (f : Filter) (mode : Rounding) (history : List TickEntry) (t0 : Num32) (step : Option Num32),
    let first := t0 - BitVec.ofNat 32 ((f.length - 1) / 2)
    let entry (i : Nat) : Option TickEntry := history.find? fun e => e.count == first + BitVec.ofNat 32 i
    let entries := (List.range f.length).filterMap entry
    let value := secondValue f mode history t0 step
    VectorMean f mode (fun i => (entry i).bind fun e => e.outcome.vector) value ∧
      Unioned (entries.map fun e => e.outcome.flags) value.flags ∧
      (value.flags.getLsbD 13 = true ↔ Straddle (entries.map TickEntry.generation)) ∧
      value.flags.getLsbD 14 = beforePoint step first ∧
      value.generation = entries.getLast?.map TickEntry.generation

/-- ΔF: formed exactly when F and triad 0's second value are present, from the integer nearest the square root of the exact sum
of squares, saturated with DF_SATURATED (R126). -/
def Obligations.DeltaFOfASecond : Prop :=
  (∀ v : Vec3, v.x.natAbs ≤ 2147483648 → v.y.natAbs ≤ 2147483648 → v.z.natAbs ≤ 2147483648 →
    let total : Int := v.x * v.x + v.y * v.y + v.z * v.z
    total < 2 ^ 64 ∧ ∃ root : Int, 0 ≤ root ∧ (total = 0 → root = 0) ∧
      (1 ≤ total → (2 * root - 1) ^ 2 < 4 * total ∧ 4 * total < (2 * root + 1) ^ 2) ∧
      ∀ f : Int,
        (-8388607 ≤ f - root → f - root ≤ 8388607 → deltaF f v = ⟨f - root, false⟩) ∧
        (f - root < -8388607 → deltaF f v = ⟨-8388607, true⟩) ∧ (8388607 < f - root → deltaF f v = ⟨8388607, true⟩)) ∧
  (∀ (e : PendingSecond) (c : Configuration) (values : List (Fin 2 × TriadValue)) (scalar : Option ScalarValue),
    let triad0 := values.find? fun p => p.1 == 0
    (e.record c values scalar).deltaF =
      match scalar, triad0 with
      | some ⟨some f, _⟩, some (_, ⟨some v, _, _, _⟩) => some (deltaF f v)
      | _, _ => none) ∧
  deltaF 54000175 ⟨24000000, 6000000, 48000000⟩ = ⟨175, false⟩ ∧ deltaF 50000000 ⟨60000000, 0, 0⟩ = ⟨-8388607, true⟩

/-- The decimation step of a close: a triad whose screen was foreign loses its histories, a channel that is no TEMPERATURE channel
its history and capture, and the F history stays only with its channel (R133); each decision joins its triad's history of 64, but for
one whose tick precedes the tick step point (R117, R131); at tick index 0 the samples reach the pending entry of that tick, under the
same exception (R118, R131); then every entry whose point has come is computed, oldest first (R119). -/
def Obligations.DecimationStep : Prop :=
  ∀ (s : State) (cc : CloseContext) (tick : TickId) (samples : Vector CorrectedSample 16) (strangers : Fin 2 → Bool)
    (decisions : Fin 2 → List Decision), (∀ k : Fin 2, (s.dec.tickHistory[k]).length ≤ 64) →
    let c := cc.config
    let entered (k : Fin 2) : List TickEntry :=
      ((decisions k).filter fun x => !beforePoint s.dec.tickStep x.tick.count).map fun x =>
        ⟨x.tick.count, x.outcome, cc.generation⟩
    let delivered : Tick0Samples :=
      ⟨cc.generation, (scalarOf c).map fun n => (n, samples[n]), (temperaturesOf c).map fun n => (n, samples[n])⟩
    let stays (n : Fin 16) : Bool := decide (n ∈ temperaturesOf c)
    let d : Decimator := { s.dec with
      pendingSeconds :=
        if tick.index = 0 ∧ beforePoint s.dec.tickStep tick.count = false then
          s.dec.pendingSeconds.map fun e => if e.t0 = tick.count then { e with samples := some delivered } else e
        else s.dec.pendingSeconds
      tickHistory := Vector.ofFn fun k =>
        youngest 64 ((if strangers k then [] else s.dec.tickHistory[k]) ++ entered k)
      secondHistory := Vector.ofFn fun k => if strangers k then [] else s.dec.secondHistory[k]
      scalarHistory := if scalarOf c ≠ none ∧ scalarOf c = s.dec.scalarChannel then s.dec.scalarHistory else []
      scalarChannel := scalarOf c
      tempHistory := Vector.ofFn fun n => if stays n then s.dec.tempHistory[n] else []
      captures := Vector.ofFn fun n => if stays n then s.dec.captures[n] else none }
    let due := d.pendingSeconds.filter fun e =>
      decide ((c.second.length - 1) / 2 + 1 ≤ (tick.count - e.t0).toNat ∧ (tick.count - e.t0).toNat ≤ 2147483648)
    s.decimate cc tick samples (strangers 0, strangers 1) (decisions 0, decisions 1) =
      due.foldl (fun u e => u.computeSecond c e) { s with dec := d }

/-- One pending second at its point: F is its delivered scalar sample, absent with GAP when it was absent or never delivered, and no
item without a SCALAR channel; a temperature is its delivered sample's value (R125, R127; the F item's channel is log 27). The entry
leaves the list, the tick step point is forgotten when the window's first tick does not precede it (R123; log 20), and the second
record with every field of its table is offered with SECOND in the output set (R134, R136). A current-series second joins the
second-level histories, takes the captures of its minute at second 60·M + 29 (log 21) and brings the minutes due (R124, R125, R127,
R128, R130; log 19); an old-series second does none of this (R132). -/
def Obligations.SecondComputed : Prop :=
  ∀ (s : State) (c : Configuration) (e : PendingSecond),
    let gap : DataFlags := BitVec.ofNat 15 (2 ^ 11)
    let f := e.scalarValue c
    let temperature (n : Fin 16) : Option Int :=
      e.samples.bind fun t => (t.temperatures.find? fun p => decide (p.1 = n)).bind fun p => p.2.value
    let value (k : Fin 2) : TriadValue := secondValue c.second (c.triads[k]).mode (s.dec.tickHistory[k]) e.t0 s.dec.tickStep
    let values := (triadsOf c).map fun k => (k, value k)
    let record : SecondRecord :=
      { second := e.second
        quality := e.quality
        flags := e.flags
        lost := none
        triads := values.map fun p => ⟨p.1, p.2.vector, p.2.used, p.2.flags⟩
        scalar := f
        deltaF := (e.record c values f).deltaF
        temperatures := (temperaturesOf c).map fun n => (n, temperature n) }
    let left (d : Decimator) : Decimator := { d with
      pendingSeconds := s.dec.pendingSeconds.filter fun x => decide (x.t0 ≠ e.t0)
      tickStep :=
        if beforePoint s.dec.tickStep (e.t0 - BitVec.ofNat 32 ((c.second.length - 1) / 2)) then s.dec.tickStep else none }
    let offered (u : State) : State := if s.link.outputSet.getLsbD 0 then u.offerData (.second record) else u
    let history (n : Fin 16) : List TempEntry := youngest 60 (s.dec.tempHistory[n] ++ [⟨e.second, temperature n⟩])
    let capture (m : Nat) (l : List TempEntry) : MinuteCapture :=
      let counted := l.filterMap fun x =>
        if (x.second - (BitVec.ofNat 32 (60 * m) - 30)).toNat < 60 then x.value else none
      ⟨m, counted.sum, counted.length⟩
    let joined : Decimator := { s.dec with
      secondHistory := Vector.ofFn fun k =>
        if (c.triads[k]).enabled then youngest 128 (s.dec.secondHistory[k] ++ [⟨e.second, value k⟩])
        else s.dec.secondHistory[k]
      scalarHistory :=
        match f with
        | none => s.dec.scalarHistory
        | some x => youngest 128 (s.dec.scalarHistory ++ [⟨e.second, x, e.samples.map Tick0Samples.generation⟩])
      tempHistory := Vector.ofFn fun n => if n ∈ temperaturesOf c then history n else s.dec.tempHistory[n]
      captures := Vector.ofFn fun n =>
        if n ∈ temperaturesOf c then
          if e.second.toNat % 60 = 29 then some (capture (e.second.toNat / 60) (history n))
          else if e.second.toNat = 13 then some (capture 71582788 (history n))
          else s.dec.captures[n]
        else s.dec.captures[n] }
    (scalarOf c = none → f = none) ∧
    (scalarOf c ≠ none → e.samples = none → f = some ⟨none, gap⟩) ∧
    (∀ t, scalarOf c ≠ none → e.samples = some t →
      (t.scalar = none → f = none) ∧
      (∀ n v flags, t.scalar = some (n, ⟨some v, flags⟩) → f = some ⟨some v, flags⟩) ∧
      ∀ n flags, t.scalar = some (n, ⟨none, flags⟩) →
        f = some ⟨none, gap ||| (flags &&& BitVec.ofNat 15 (2 ^ 8 + 2 ^ 9))⟩) ∧
    (e.oldSeries = true → s.computeSecond c e = offered { s with dec := left s.dec }) ∧
    (e.oldSeries = false →
      s.computeSecond c e = (offered { s with dec := left joined }).scheduleMinutes c e.second)

/-- Minute values: over the window of seconds 60·M − h_m + i, each triad's vector and F by the mean of R120 with the minute filter, the
union of the entries' flags, COMMIT_STRADDLE when an entry carries it or two entries' generations differ (an entry without one differs
from none, log 39; a present weight of 0 is log 33), TIME_STEP when an entry carries it or the window reaches back before the second step point (R129); a temperature
is the mean of a capture of that minute that counts 30 or more (R130). The minute record holds them for the triads and channels in
force and is offered with MINUTE in the output set; M_next advances, 71,582,788 followed by 0, and the second step point is forgotten
when the window's first second does not precede it (R128, R129, R135, R136). At second S the schedule starts at the minute that
contains S and forms every minute whose point S has reached (R128; log 19). -/
def Obligations.MinutesFormed : Prop :=
  (∀ (f : Filter) (mode : Rounding) (m : Nat) (step : Option Num32),
    let first := BitVec.ofNat 32 (60 * m) - BitVec.ofNat 32 ((f.length - 1) / 2)
    (∀ history : List SecondEntry,
      let entry (i : Nat) : Option SecondEntry := history.find? fun e => e.second == first + BitVec.ofNat 32 i
      let entries := (List.range f.length).filterMap entry
      let value := minuteValue f mode history m step
      VectorMean f mode (fun i => (entry i).bind fun e => e.value.vector) value ∧
        Unioned (entries.map fun e => e.value.flags) value.flags ∧
        (value.flags.getLsbD 13 = true ↔ (∃ e ∈ entries, e.value.flags.getLsbD 13 = true) ∨
          Straddle (entries.filterMap fun e => e.value.generation)) ∧
        (value.flags.getLsbD 14 = true ↔ (∃ e ∈ entries, e.value.flags.getLsbD 14 = true) ∨ beforePoint step first = true)) ∧
    ∀ history : List ScalarEntry,
      let entry (i : Nat) : Option ScalarEntry := history.find? fun e => e.second == first + BitVec.ofNat 32 i
      let entries := (List.range f.length).filterMap entry
      let value := scalarMinute f mode history m step
      Mean f mode (fun i => (entry i).bind fun e => e.value.value) value.value value.flags ∧
        Unioned (entries.map fun e => e.value.flags) value.flags ∧
        (value.flags.getLsbD 13 = true ↔ (∃ e ∈ entries, e.value.flags.getLsbD 13 = true) ∨
          Straddle (entries.filterMap ScalarEntry.generation)) ∧
        (value.flags.getLsbD 14 = true ↔ (∃ e ∈ entries, e.value.flags.getLsbD 14 = true) ∨ beforePoint step first = true)) ∧
  ∀ (s : State) (c : Configuration) (m : Nat) (second : Num32),
    let temperature (n : Fin 16) : Option Int :=
      match s.dec.captures[n] with
      | none => none
      | some k => if k.minute = m ∧ 30 ≤ k.count then some (divRound (c.channels[n]).mode k.sum k.count) else none
    let triad (k : Fin 2) : TriadEntry :=
      let v := minuteValue c.minute (c.triads[k]).mode (s.dec.secondHistory[k]) m s.dec.secondStep
      ⟨k, v.vector, v.used, v.flags⟩
    let record : MinuteRecord :=
      { minute := m
        lost := none
        triads := (triadsOf c).map triad
        scalar := (scalarOf c).map fun n =>
          scalarMinute c.minute (c.channels[n]).mode s.dec.scalarHistory m s.dec.secondStep
        temperatures := (temperaturesOf c).map fun n => (n, temperature n) }
    let half := BitVec.ofNat 32 ((c.minute.length - 1) / 2)
    let formed : State := { s with dec := { s.dec with
      nextMinute := some (if m = 71582788 then 0 else m + 1)
      secondStep :=
        if beforePoint s.dec.secondStep (BitVec.ofNat 32 (60 * m) - half) then s.dec.secondStep else none } }
    (s.formMinute c m = if s.link.outputSet.getLsbD 1 then formed.offerData (.minute record) else formed) ∧
    (s.dec.nextMinute = none → s.scheduleMinutes c second =
      State.scheduleMinutes { s with dec := { s.dec with nextMinute := some (second.toNat / 60) } } c second) ∧
    (s.dec.nextMinute = some m → before second (BitVec.ofNat 32 (60 * m) + half) = true → s.scheduleMinutes c second = s) ∧
    (s.dec.nextMinute = some m → before second (BitVec.ofNat 32 (60 * m) + half) = false →
      s.scheduleMinutes c second = (s.formMinute c m).scheduleMinutes c second)

/-! ### Station link -/

/-- An upstream byte outside the completion of a frame: HUNT discards all but 0xA5; LEN up to 250 begins collection and a
greater one is rejected with UPSTREAM_BAD and LINK_CHECK; the three byte rows receive alike (R160; log 5). A frame in LENGTH or
COLLECT is abandoned with UPSTREAM_BAD and LINK_CHECK by a framing error, and by a gap of more than 200 bit times at the rate
in force; a framing error in HUNT is not counted (R158, R160; the moment of the gap, one period beyond its
whole periods, is log 17). A byte in HUNT that completes the frame which an expiry of its own period found one byte short is no part of
this (R173). -/
def Obligations.UpstreamBytesCollected : Prop :=
  (∀ (c : Instr) (b : Byte) (n : Nat) (s : State),
    c = .upstreamFrameByte b n ∨ c = .upstreamLenReject b n ∨ c = .upstreamFrameArrival b n →
    s.phase = .loaded ∨ s.phase = .running →
    let u := passed s n
    let kept (f : LinkFraming) : State := { u with link := { s.link with framing := f, lastByteAt := s.tb.clock + n } }
    let onTime : Prop := ∀ f, s.link.late = some f → f.at_ ≠ s.tb.clock + n
    (s.link.framing = .hunt → onTime → b ≠ 0xA5 → exec c s = .next u) ∧
    (s.link.framing = .hunt → onTime → b = 0xA5 → exec c s = .next (kept .length)) ∧
    (s.link.framing = .length → b.toNat ≤ 250 → exec c s = .next (kept (.collect b.toNat []))) ∧
    (s.link.framing = .length → 250 < b.toNat → exec c s = .next
      (conditionSet (counted { u with link := { s.link with framing := .hunt } } .upstreamBad) .linkCheck)) ∧
    ∀ (len : Nat) (bytes : List Byte), s.link.framing = .collect len bytes → bytes.length + 1 < len + 3 →
      exec c s = .next (kept (.collect len (bytes ++ [b])))) ∧
  ∀ (n : Nat) (s : State), s.phase = .loaded ∨ s.phase = .running →
    let bad (x : State) : State :=
      conditionSet (counted { x with link := { s.link with framing := .hunt } } .upstreamBad) .linkCheck
    let gap := 200 * 16 * 65536 / (if s.link.rate = 0 then 1 else s.link.rate.toNat) + 1
    (s.link.framing ≠ .hunt → exec (.upstreamFramingError n) s = .next (bad (passed s n))) ∧
    (s.link.framing = .hunt → exec (.upstreamFramingError n) s = .next (passed s n)) ∧
    (s.link.framing ≠ .hunt →
      exec .upstreamGapAbandon s = .next (bad (passed s (s.link.lastByteAt + gap - s.tb.clock))))

/-- The byte that completes an upstream frame of KIND, tag, code, parameters and CRC: a checked request joins the request queue
or is dropped with REQ_OVERRUN; a wrong CRC, another KIND or a short body counts UPSTREAM_BAD; a checked frame in time confirms
a rate trial whatever it holds (R161, R162, R173; the bound of the trial is log 31, that the three byte rows complete a frame
alike is log 5). The same of a frame that arrives together with the expiry of its trial, the expiry taken first, but that it confirms
nothing (R173; that one whose CRC differs counts is log 31). -/
def Obligations.UpstreamFrameArrives : Prop :=
  ∀ (c : Instr) (b : Byte) (n len : Nat) (bytes : List Byte) (late : Bool) (s : State),
    c = .upstreamFrameByte b n ∨ c = .upstreamLenReject b n ∨ c = .upstreamFrameArrival b n →
    s.phase = .loaded ∨ s.phase = .running → (late = false → s.link.framing = .collect len bytes) →
    (late = true → s.link.framing = .hunt ∧ s.link.late = some ⟨len, bytes, s.tb.clock + n⟩) → bytes.length = len + 2 →
    len ≤ 250 →
    let all := bytes ++ [b]
    let u : State := { passed s n with
      link := if late then { s.link with late := none } else { s.link with framing := .hunt } }
    let bad (x : State) : State := conditionSet (counted x .upstreamBad) .linkCheck
    let good : Prop := natBytes 2 (crc16 (BitVec.ofNat 8 len :: all.take (len + 1))).toNat = all.drop (len + 1)
    let inTime : Prop := late = false ∧ s.link.rateState = .trial ∧ s.tb.clock + n ≤ s.link.trialStart + 100000000
    let checked : State :=
      if inTime then unsavedSet { u with link := { u.link with confirmedRate := s.link.rate, rateState := .idle } } else u
    (¬good → exec c s = .next (bad u)) ∧
    (good → all.head? ≠ some 0x01 ∨ len < 2 → exec c s = .next (bad checked)) ∧
    ∀ (tag code : Byte) (params crc : List Byte), good → all = 0x01 :: tag :: code :: (params ++ crc) → crc.length = 2 →
      (s.link.requests.length < 4 → exec c s = .next { checked with link := { checked.link with
        requests := s.link.requests ++ [⟨tag, code, params⟩] } }) ∧
      (4 ≤ s.link.requests.length →
        exec c s = .next (conditionSet (counted checked .reqOverrun) .requestOverrun))

/-- FRAME_START and HOLD_IN_CHANGE: the idle transmitter starts the oldest frame exactly while HOLD_IN is released; a change of
HOLD_IN itself starts and cuts nothing (R170). FRAME_SENT: the frame leaves the queue and the transmitter is idle; the response
a waiting change is tied to starts the trial; a return of the rate that waited takes place; a held SAVE response takes the
place; and each of these happens beside the others, the return before the trial (R165, R170, R172, R174). -/
def Obligations.FramesSent : Prop :=
  ∀ (n : Nat) (s : State), s.phase = .loaded ∨ s.phase = .running →
    (s.link.sending = false → s.link.output ≠ [] → s.link.holdIn = false →
      exec .frameStart s = .next { s with link := { s.link with sending := true } }) ∧
    (s.link.holdIn = true → exec .frameStart s = .next s) ∧
    (∀ asserted : Bool,
      exec (.holdInChange asserted n) s = .next { passed s n with link := { s.link with holdIn := asserted } }) ∧
    ∀ (f : Frame) (rest : List Frame), s.link.sending = true → s.link.output = f :: rest →
      let u := passed s n
      let l : Link := { s.link with output := rest, sending := false }
      let returned : Link :=
        if s.link.revertPending then
          { l with framing := .hunt, rate := s.link.confirmedRate, revertPending := false }
        else l
      let admittedHeld (x : Link) : Link :=
        match s.link.heldSave with
        | some r => { x with output := rest ++ [⟨.response r, false⟩], heldSave := none }
        | none => x
      (f.tied = false ∨ s.link.rateState ≠ .waiting ∨ s.link.waitingRate = none →
        exec (.frameSent n) s = .next { u with link := admittedHeld returned }) ∧
      ∀ m, f.tied = true → s.link.rateState = .waiting → s.link.waitingRate = some m →
        exec (.frameSent n) s = .next { u with link := admittedHeld { returned with
          framing := .hunt, rate := m, rateState := .trial, waitingRate := none, trialStart := s.tb.clock + n } }

/-- LINK_RATE: the confirmed rate drops a waiting change or changes nothing, another rate waits, tied to this response alone;
the answer is OK with the M carried (R171; a LINK_RATE in TRIAL is log 12). LINK_TRIAL_EXPIRY: LINK_REVERTED and a LINK notice with
the trial rate and the confirmed rate; the rate returns at once when the transmitter is idle and at the end of the frame being sent
otherwise (R173, R174; that the state is IDLE while the return waits is log 41). A frame one byte short at the return is kept for a byte
of that very period, which may have arrived together with the expiry (R173; log 31). -/
def Obligations.LinkRateChanges : Prop :=
  (∀ (m : Count16) (q : Request) (s : State), Ready s .linkRate q → q.params = natBytes 2 m.toNat →
    let untied := s.link.output.map fun f => { f with tied := false }
    let answer (tied : Bool) : Frame := ⟨.response ⟨q.tag, q.code, .ok, 0, natBytes 2 m.toNat⟩, tied⟩
    let l : Link := { s.link with requests := s.link.requests.tail }
    (s.link.rateState = .idle → m = s.link.confirmedRate →
      exec .linkRate s = .next { s with link := { l with output := s.link.output ++ [answer false] } }) ∧
    (s.link.rateState = .idle ∨ s.link.rateState = .waiting → m ≠ s.link.confirmedRate →
      exec .linkRate s = .next { s with link := { l with
        output := untied ++ [answer true], waitingRate := some m, rateState := .waiting } }) ∧
    (s.link.rateState = .waiting → m = s.link.confirmedRate →
      exec .linkRate s = .next { s with link := { l with
        output := untied ++ [answer false], waitingRate := none, rateState := .idle } })) ∧
  ∀ s : State, s.phase = .loaded ∨ s.phase = .running → s.link.rateState = .trial → s.link.output.length < 60 →
    let u := admitted (conditionSet (passed s (s.link.trialStart + 100000000 - s.tb.clock)) .linkReverted)
      (.notice (.link s.link.rate s.link.confirmedRate))
    let late : Option LateFrame :=
      match s.link.framing with
      | .collect len bytes => if bytes.length = len + 2 then some ⟨len, bytes, u.tb.clock⟩ else none
      | .hunt => none
      | .length => none
    (s.link.sending = false → exec .linkTrialExpiry s = .next { u with link := { u.link with
      rateState := .idle, framing := .hunt, late := late, rate := s.link.confirmedRate, revertPending := false } }) ∧
    (s.link.sending = true → exec .linkTrialExpiry s = .next { u with link := { u.link with
      rateState := .idle, revertPending := true } })

/-- A data record offered: admitted while fewer than 60 places are occupied, a second or minute record with the accumulator's
value in its lost field; otherwise lost with its counter and RECORD_LOSS, a second or minute record's loss carried in its
accumulator; a minute record displaces the youngest second record that is not being sent (R167, R168, R169). -/
def Obligations.DataRecordOffered : Prop :=
  ∀ (s : State) (r : SecondRecord) (m : MinuteRecord) (e : EventRecord) (n : Notice),
    let lostField (acc : Count16) : Option Count16 := if acc = 0 then none else some acc
    let weight := 1 + ((r.lost.map BitVec.toNat).getD 0)
    let gone (x : State) : State := { x with link := { x.link with
      secondsLost := BitVec.ofNat 16 (min 65535 (s.link.secondsLost.toNat + weight)) } }
    (s.link.output.length < 60 →
      s.offerData (.second r) = { s with link := { s.link with
        output := s.link.output ++ [⟨.second { r with lost := lostField s.link.secondsLost }, false⟩]
        secondsLost := 0 } } ∧
      s.offerData (.minute m) = { s with link := { s.link with
        output := s.link.output ++ [⟨.minute { m with lost := lostField s.link.minutesLost }, false⟩]
        minutesLost := 0 } } ∧
      s.offerData (.event e) = admitted s (.event e) ∧ s.offerData (.notice n) = admitted s (.notice n)) ∧
    (60 ≤ s.link.output.length →
      s.offerData (.second r) = gone (conditionSet (counted s .secondsLost) .recordLoss) ∧
      s.offerData (.event e) = conditionSet (counted s .eventsLost) .recordLoss ∧
      s.offerData (.notice n) = conditionSet (counted s .noticesLost) .recordLoss ∧
      (∀ (old young : List Frame) (tied : Bool), (s.link.sending = true → old ≠ []) →
        s.link.output = old ++ ⟨.second r, tied⟩ :: young →
        (∀ f ∈ young, ∀ x, f.body ≠ .second x) →
        s.offerData (.minute m) =
          let u := gone (conditionSet (counted s .secondsLost) .recordLoss)
          { u with link := { u.link with
            output := old ++ young ++ [⟨.minute { m with lost := lostField s.link.minutesLost }, false⟩]
            minutesLost := 0 } }) ∧
      ((∀ f ∈ s.link.output.drop (if s.link.sending then 1 else 0), ∀ x, f.body ≠ .second x) →
        s.offerData (.minute m) =
          let u := conditionSet (counted s .minutesLost) .recordLoss
          { u with link := { u.link with
            minutesLost := BitVec.ofNat 16 (min 65535 (s.link.minutesLost.toNat + 1)) } }))

/-! ### Requests: the take -/

/-- A request row is the handler's take of the oldest request when that request has the row's code, and leaves the device as it
stands when it has another (the rows' operand is log 4). A wrong number of parameter bytes is answered BAD_LENGTH and an unknown code
UNKNOWN, both changing nothing else; the request waits while no place is free, FILTER_GET while only one is, while a SAVE response is
held, and until start-up is complete (R163, R208). -/
def Obligations.RequestsTakenInOrder : Prop :=
  ∀ (c : Instr) (name : RequestName) (s : State), requestRow c = some name →
    (∀ (q : Request) (rest : List Request), s.phase = .running → s.link.heldSave = none → s.link.requests = q :: rest →
      s.link.output.length + (if name = .filterGet then 2 else 1) ≤ 64 → q.code = name.code →
      name.lengthOk q.params = false → exec c s = .next (answered (taken s) q .badLength [])) ∧
    (∀ (q : Request) (rest : List Request), s.phase = .running → s.link.heldSave = none → s.link.requests = q :: rest →
      s.link.output.length < 64 → (∀ x : RequestName, q.code ≠ x.code) →
      exec .requestUnknownCode s = .next (answered (taken s) q .unknown [])) ∧
    (∀ (q : Request) (rest : List Request), s.link.requests = q :: rest → q.code ≠ name.code → exec c s = .next s) ∧
    (∀ (q : Request) (rest : List Request), s.link.requests = q :: rest → q.code = name.code →
      exec .requestUnknownCode s = .next s) ∧
    (∀ (q : Request) (rest : List Request), s.link.requests = q :: rest → q.code = RequestName.filterGet.code →
      63 ≤ s.link.output.length → exec c s = .next s) ∧
    (s.phase ≠ .running ∨ s.link.requests = [] ∨ s.link.heldSave.isSome = true ∨ 64 ≤ s.link.output.length →
      exec c s = .next s ∧ exec .requestUnknownCode s = .next s)

/-- A bit as a byte: 1 when set (log 11). -/
def Sys2Proof.Claims.bit (b : Bool) : Byte := if b then 1 else 0

/-- A choice whose true value is listed first, as a byte: 0 when true (log 11). -/
def Sys2Proof.Claims.firstOf (b : Bool) : Byte := if b then 0 else 1

/-- One port of section PORTS: state, enable flag, FIFO count, pace latch, pace line, threshold, policy, held error (R176). -/
def Sys2Proof.Claims.portBytes (p : SensorPort) : List Byte :=
  [(match p.mode with | .disabled => 0 | .active => 1 | .halted => 2), Sys2Proof.Claims.firstOf p.settings.enabled,
    BitVec.ofNat 8 p.fifo.length, Sys2Proof.Claims.firstOf p.paceLatch,
    Sys2Proof.Claims.firstOf (p.paceLatch || p.mode != .active), BitVec.ofNat 8 p.settings.threshold,
    (match p.settings.policy with | .skip => 0 | .stop => 1)] ++
  match p.heldError with
  | none => List.replicate 9 0
  | some h => [1, BitVec.ofNat 8 h.source.toNat, h.sequence,
      (if h.overrange then 1 else 0) + (if h.digitizer then 2 else 0)] ++ natBytes 4 h.second.toNat ++ natBytes 1 h.tickIndex

/-- One triad of section TRIADS: screen state, reference, rejection run, held suspect, pending clear (R113, R176). -/
def Sys2Proof.Claims.screenBytes (sc : Screen) : List Byte :=
  let vector (v : Vec3) : List Byte := intBytes 4 v.x ++ intBytes 4 v.y ++ intBytes 4 v.z
  [Sys2Proof.Claims.bit sc.suspect.isSome] ++
    (match sc.reference with
      | none => List.replicate 13 0
      | some r => 1 :: vector r) ++
    natBytes 1 sc.run ++
    (match sc.suspect with
      | none => List.replicate 17 0
      | some p => 1 :: (natBytes 4 p.tick.count.toNat ++ vector p.vector)) ++
    [Sys2Proof.Claims.bit sc.pendingClear]

/-- Section CORRECTOR: for each TEMPERATURE channel of the active configuration its held temperature and age, for each channel
that holds a segment its last good correction, each list behind its count, each item behind its channel number (R92, R176). -/
def Sys2Proof.Claims.correctorBytes (s : State) : List Byte :=
  let sensors := (List.finRange 16).filter fun n => decide ((s.staging.active.channels[n]).kind = .temperature)
  let holders := (List.finRange 16).filter fun n => (s.staging.active.channels[n]).segment.isSome
  BitVec.ofNat 8 sensors.length :: ((sensors.flatMap fun n => BitVec.ofNat 8 n.val ::
    match s.corr.held[n] with
    | none => List.replicate 7 0
    | some h => 1 :: (intBytes 2 h.value ++ natBytes 4 (s.tb.markCount - h.stamp).toNat)) ++
  BitVec.ofNat 8 holders.length :: (holders.flatMap fun n => BitVec.ofNat 8 n.val ::
    match s.corr.lastGood[n] with
    | none => List.replicate 6 0
    | some g => 1 :: (intBytes 3 g.offset ++ intBytes 2 g.gain)))

/-- The data of a section of STATUS, item by item in the order of R176 (order and widths are log 10, two-valued items log 11). -/
def Sys2Proof.Claims.sectionBytes (s : State) : Section → List Byte
  | .timebase =>
    [(match s.tb.discipline with | .freeRun => 0 | .acquire => 1 | .locked => 2 | .holdover => 3)] ++ intBytes 2 s.tb.trim ++
      [BitVec.ofNat 8 s.tb.rate, BitVec.ofNat 8 s.tb.depth, BitVec.ofNat 8 s.tb.rateSet, BitVec.ofNat 8 s.tb.depthSet] ++
      natBytes 4 s.tb.holdoverLimit ++ natBytes 4 s.tb.holdoverAge ++ [Sys2Proof.Claims.bit s.tb.holdoverLong] ++
      natBytes 4 s.tb.second.toNat ++ natBytes 4 s.tb.markCount.toNat ++ natBytes 4 s.tb.tickCount.toNat ++
      match s.tb.label with
      | none => List.replicate 5 0
      | some n => 1 :: natBytes 4 n.toNat
  | .ports => Sys2Proof.Claims.portBytes s.portA ++ Sys2Proof.Claims.portBytes s.portB
  | .corrector => Sys2Proof.Claims.correctorBytes s
  | .triads => Sys2Proof.Claims.screenBytes s.screens[0] ++ Sys2Proof.Claims.screenBytes s.screens[1]
  | .device =>
    natBytes 4 s.staging.generation.toNat ++
      [Sys2Proof.Claims.bit s.staging.commitScheduled, Sys2Proof.Claims.bit s.staging.restartScheduled,
        Sys2Proof.Claims.bit s.settings.save.isSome, Sys2Proof.Claims.bit s.settings.unsaved,
        (match s.settings.level with | .opened => 0 | .sessionLocked => 1 | .fixed => 2),
        (match s.settings.resetCause with | .powerOn => 0 | .commanded => 1)] ++
      natBytes 2 s.link.rate.toNat ++ natBytes 2 s.link.confirmedRate.toNat ++
      [(match s.link.rateState with | .idle => 0 | .waiting => 1 | .trial => 2), BitVec.ofNat 8 s.link.outputSet.toNat,
        BitVec.ofNat 8 (s.link.output.countP fun f => Sys2Proof.Claims.isResponse f),
        BitVec.ofNat 8 (s.link.output.countP fun f => !Sys2Proof.Claims.isResponse f),
        BitVec.ofNat 8 s.link.requests.length] ++
      natBytes 2 s.link.secondsLost.toNat ++ natBytes 2 s.link.minutesLost.toNat ++ natBytes 2 s.status.conditions.toNat ++
      [Sys2Proof.Claims.firstOf (s.status.conditions &&& s.status.alertMask != 0), BitVec.ofNat 8 s.indicator,
        Sys2Proof.Claims.bit s.status.capture.isSome]

open Sys2Proof.Claims

/-- The reading requests answer OK with what stands and change nothing else: IDENT, STATUS with each of its five sections,
CHANNEL_GET, TRIAD_GET, FILTER_GET, STORE_READ, COUNTERS_READ, FAULT_READ (R62, R71, R92, R113, R147, R148, R176, R177, R181, R186,
R190; the widths and the order of the items of IDENT, STATUS and FAULT_READ are log 10, their two-valued items and SAME 0 and
CHANGED 1 log 11, a matrix row by row log 37). A section, channel, triad, filter, copy, store run or counter group that does not exist
is refused with RANGE (R62, R71, R147, R148, R176, R186).
FILTER_GET answers W, q, SAME or CHANGED and the weights of places 0 to W − 1, in two adjacent frames when the data exceed 246
bytes, the first with 1 frame to follow (R148, R164). -/
def Obligations.ReadsChangeNothing : Prop :=
  ∀ (q : Request) (s : State),
    let same (b : Bool) : Byte := if b then 0 else 1
    let copyByte (copy : Copy) : Byte := match copy with | .active => 0 | .pending => 1
    (Ready s .ident q → exec .ident s = .next (answered (taken s) q .ok
      ([1, 0x01, 0xA0, s.settings.identity.revision] ++ natBytes 4 s.settings.identity.serial.toNat ++
        s.settings.identity.station.toList ++
        [(match s.settings.level with | .opened => 0 | .sessionLocked => 1 | .fixed => 2 : Byte)]))) ∧
    (∀ x : Section, Ready s .status q →
      q.params = [match x with | .timebase => 0 | .ports => 1 | .corrector => 2 | .triads => 3 | .device => 4] →
      exec .status s = .next (answered (taken s) q .ok (sectionBytes (taken s) x))) ∧
    (∀ (n : Fin 16) (copy : Copy), Ready s .channelGet q → q.params = [BitVec.ofNat 8 n.val, copyByte copy] →
      exec .channelGet s = .next (answered (taken s) q .ok (((s.staging.copy copy).channels[n]).bytes ++
        [same (decide (s.staging.active.channels[n] = s.staging.pendingConfig.channels[n]))]))) ∧
    (∀ (k : Fin 2) (copy : Copy), Ready s .triadGet q → q.params = [BitVec.ofNat 8 k.val, copyByte copy] →
      exec .triadGet s = .next (answered (taken s) q .ok (((s.staging.copy copy).triads[k]).bytes ++
        [same (decide (s.staging.active.triads[k] = s.staging.pendingConfig.triads[k]))]))) ∧
    (∀ (name : FilterName) (copy : Copy), Ready s .filterGet q →
      q.params = [match name with | .second => 0 | .minute => 1, copyByte copy] →
      let f := (s.staging.copy copy).filter name
      let data : List Byte := natBytes 1 f.length ++ natBytes 2 f.fraction ++
        [same (decide (s.staging.active.filter name = s.staging.pendingConfig.filter name))] ++
        (List.range f.length).flatMap fun i => natBytes 2 (weight f i)
      let frame (follow : Nat) (d : List Byte) : Frame := ⟨.response ⟨q.tag, q.code, .ok, follow, d⟩, false⟩
      (f.length ≤ 121 → exec .filterGet s = .next (answered (taken s) q .ok data)) ∧
      (122 ≤ f.length → exec .filterGet s = .next { s with link := { s.link with
        requests := s.link.requests.tail
        output := s.link.output ++ [frame 1 (data.take 246), frame 0 (data.drop 246)] } })) ∧
    (∀ start count : Nat, Ready s .storeRead q → q.params = natBytes 2 start ++ natBytes 1 count → start ≤ 2047 →
      1 ≤ count → count ≤ 16 → start + count ≤ 2048 →
      exec .storeRead s = .next (answered (taken s) q .ok ((List.range count).flatMap fun i =>
        let e := s.store.read (start + i)
        intBytes 3 e.offset ++ intBytes 2 e.gain ++ [(match e.check with | .good => 0 | .bad => 1 : Byte)]))) ∧
    (∀ g : Fin 7, Ready s .countersRead q → q.params = [BitVec.ofNat 8 g.val] →
      exec .countersRead s = .next (answered (taken s) q .ok
        ((counterGroup g.val).flatMap fun i => natBytes 2 (s.status.counters[i]).toNat))) ∧
    (Ready s .faultRead q → exec .faultRead s = .next (answered (taken s) q .ok
      ((match s.status.capture with
        | none => List.replicate 14 0
        | some f => 1 :: f.bytes) ++ s.status.faultCounts.toList.flatMap fun x => natBytes 2 x.toNat))) ∧
    (let refuses (c : Instr) : Prop := exec c s = .next (answered (taken s) q .range [])
     (∀ b : Byte, Ready s .status q → q.params = [b] → 5 ≤ b.toNat → refuses .status) ∧
     (∀ b copy : Byte, q.params = [b, copy] →
       (Ready s .channelGet q → 16 ≤ b.toNat ∨ 2 ≤ copy.toNat → refuses .channelGet) ∧
       (Ready s .triadGet q → 2 ≤ b.toNat ∨ 2 ≤ copy.toNat → refuses .triadGet) ∧
       (Ready s .filterGet q → 2 ≤ b.toNat ∨ 2 ≤ copy.toNat → refuses .filterGet)) ∧
     (∀ start count : Nat, Ready s .storeRead q → start < 65536 → count < 256 →
       q.params = natBytes 2 start ++ natBytes 1 count →
       2047 < start ∨ count = 0 ∨ 16 < count ∨ 2048 < start + count → refuses .storeRead) ∧
     ∀ b : Byte, Ready s .countersRead q → q.params = [b] → 7 ≤ b.toNat → refuses .countersRead)

/-! ### Requests: settings -/

/-- TIME_LABEL sets the pending label; TIMEBASE_SET, OUTPUT_SET, ALERT_MASK_SET, CAPTURE_MASK_SET and MARKER_SET write their
working settings and set the unsaved-changes flag, or refuse a value out of range with RANGE (R16, R18, R175, R184, R189,
R195). -/
def Obligations.SettingRequests : Prop :=
  ∀ (q : Request) (s : State),
    let wrote (t : State) : Host.Outcome State Fault Refusal := .next (answered (taken (unsavedSet t)) q .ok [])
    let range : Host.Outcome State Fault Refusal := .next (answered (taken s) q .range [])
    (∀ n : Num32, Ready s .timeLabel q → q.params = natBytes 4 n.toNat →
      exec .timeLabel s = .next (answered (taken { s with tb := { s.tb with label := some n } }) q .ok [])) ∧
    (∀ r d h : Nat, Ready s .timebaseSet q → q.params = natBytes 1 r ++ natBytes 1 d ++ natBytes 4 h → r < 256 → d < 256 →
      h < 4294967296 →
      let legal : Prop := (r = 1 ∨ r = 2 ∨ r = 5 ∨ r = 10 ∨ r = 20) ∧ (1 ≤ d ∧ d ≤ 4) ∧ 60 ≤ h ∧ h ≤ 86400
      (legal → exec .timebaseSet s =
        wrote { s with tb := { s.tb with rateSet := r, depthSet := d, holdoverLimit := h } }) ∧
      (¬legal → exec .timebaseSet s = range)) ∧
    (∀ m : Byte, Ready s .outputSet q → q.params = [m] →
      (m.toNat < 8 →
        exec .outputSet s = wrote { s with link := { s.link with outputSet := BitVec.ofNat 3 m.toNat } }) ∧
      (8 ≤ m.toNat → exec .outputSet s = range)) ∧
    (∀ m : Count16, Ready s .alertMaskSet q → q.params = natBytes 2 m.toNat →
      (m.toNat < 16384 →
        exec .alertMaskSet s = wrote { s with status := { s.status with alertMask := BitVec.ofNat 14 m.toNat } }) ∧
      (16384 ≤ m.toNat → exec .alertMaskSet s = range)) ∧
    (∀ m : Byte, Ready s .captureMaskSet q → q.params = [m] →
      (m.toNat < 32 →
        exec .captureMaskSet s = wrote { s with status := { s.status with captureMask := BitVec.ofNat 5 m.toNat } }) ∧
      (32 ≤ m.toNat → exec .captureMaskSet s = range)) ∧
    ∀ b : Byte, Ready s .markerSet q → q.params = [b] →
      (∀ x : EdgeSelection, b = (match x with | .rising => 0 | .falling => 1 | .both => 2) →
        exec .markerSet s = wrote { s with aux := { s.aux with selection := x } }) ∧
      (3 ≤ b.toNat → exec .markerSet s = range)

/-- The number of a designation and of a duty as parameters (R181, R194). -/
def Sys2Proof.Claims.designationByte (x : Designation) : Byte :=
  match x with
  | .off => 0
  | .levelLow => 1
  | .levelHigh => 2
  | .secondMark => 3
  | .alert => 4
  | .clockOut => 5
  | .markerIn => 6

def Sys2Proof.Claims.dutyByte (x : Duty) : Byte :=
  match x with
  | .d25 => 0
  | .d50 => 1
  | .d75 => 2

open Sys2Proof.Claims

/-- LINE_SET: a line, designation, k or duty out of range, and 25% or 75% on a clock output with k 0 or 1, are refused with
RANGE; a second MARKER_IN line is refused with CONFLICT and the number of the line that has the designation; otherwise the line
takes the settings (R193, R194; what a line already SECOND_MARK or CLOCK_OUT keeps is log 30). -/
def Obligations.LineSet : Prop :=
  ∀ (q : Request) (s : State), Ready s .lineSet q →
    (∀ b0 b1 b2 b3 : Byte, q.params = [b0, b1, b2, b3] →
      4 ≤ b0.toNat ∨ 7 ≤ b1.toNat ∨ 8 ≤ b2.toNat ∨ 3 ≤ b3.toNat ∨ (b1 = 5 ∧ b2.toNat ≤ 1 ∧ b3 ≠ 1) →
      exec .lineSet s = .next (answered (taken s) q .range [])) ∧
    ∀ (i : Fin 4) (k : Fin 8) (x : Designation) (duty : Duty),
      q.params = [BitVec.ofNat 8 i.val, designationByte x, BitVec.ofNat 8 k.val, dutyByte duty] →
      (x = .clockOut → k.val ≤ 1 → duty = .d50) →
      (∀ j : Fin 4, x = .markerIn → j ≠ i → (s.aux.lines[j]).settings.designation = .markerIn →
        (∀ m : Fin 4, m < j → m ≠ i → (s.aux.lines[m]).settings.designation ≠ .markerIn) →
        exec .lineSet s = .next (answered (taken s) q .conflict [BitVec.ofNat 8 j.val])) ∧
      ((x = .markerIn → ∀ j : Fin 4, j ≠ i → (s.aux.lines[j]).settings.designation ≠ .markerIn) →
        let old := s.aux.lines[i]
        let new : LineSettings := ⟨x, k.val, duty⟩
        exec .lineSet s = .next (answered (taken (unsavedSet { s with aux := { s.aux with
          lines := s.aux.lines.set i
            { settings := new
              raised := old.raised && decide (old.settings.designation = .secondMark ∧ x = .secondMark)
              cycleStart := if x = .clockOut ∧ old.settings ≠ new then s.tb.clock else old.cycleStart } } })) q .ok []))

/-! ### Requests: staging, commit, store -/

/-- Every field of a channel descriptor lies within its values (R57, R59, R60). -/
def Sys2Proof.Claims.channelInRange (d : ChannelDescriptor) : Prop :=
  (-8388608 ≤ d.scale ∧ d.scale ≤ 8388607) ∧ (-8388608 ≤ d.offset ∧ d.offset ≤ 8388607) ∧
    (∀ g, d.segment = some g → (2 ≤ g.length ∧ g.length ≤ 256) ∧ (1 ≤ g.step ∧ g.step ≤ 2000) ∧
      (-32768 ≤ g.start ∧ g.start ≤ 32767) ∧ g.base ≤ 2047 ∧ g.base + g.length ≤ 2048) ∧
    (d.kind = .temperature → ∃ n, d.staleness = some n ∧ 1 ≤ n ∧ n ≤ 600) ∧ (d.kind ≠ .temperature → d.staleness = none)

/-- Every field of a triad descriptor lies within its values (R95). -/
def Sys2Proof.Claims.triadInRange (d : TriadDescriptor) : Prop :=
  let element (v : Int) : Prop := -8388608 ≤ v ∧ v ≤ 8388607
  let row (v : Vec3) : Prop := element v.x ∧ element v.y ∧ element v.z
  let offset (v : Int) : Prop := -134217728 ≤ v ∧ v ≤ 134217727
  row d.rowX ∧ row d.rowY ∧ row d.rowZ ∧ (offset d.offset.x ∧ offset d.offset.y ∧ offset d.offset.z) ∧ d.limit < 16777216

/-- A parameter byte, and two of them as a number, most significant byte first (R181). -/
def Sys2Proof.Claims.one (p : List Byte) (i : Nat) : Nat := ((p[i]?).getD 0).toNat

def Sys2Proof.Claims.two (p : List Byte) (i : Nat) : Nat := 256 * one p i + one p (i + 1)

/-- Four parameter bytes, a number in two's complement, lie beyond the range of an offset component (R95, R181). -/
abbrev Sys2Proof.Claims.beyondOffset (p : List Byte) (i : Nat) : Prop :=
  134217727 < 65536 * two p i + two p (i + 2) ∧ 65536 * two p i + two p (i + 2) < 4294967296 - 134217728

/-- A field of CHANNEL_SET's parameters lies outside its values: byte 0 is the channel, then come enabled, kind, port, source address,
scale (3), offset (3), rounding mode, the temperature source behind its presence byte, the segment's base, length, start, step and
direction behind theirs, the staleness limit behind its own (R57, R59, R60, R142, R181). -/
abbrev Sys2Proof.Claims.channelOutside (p : List Byte) : Prop :=
  16 ≤ one p 0 ∨ 2 ≤ one p 1 ∨ 3 ≤ one p 2 ∨ 2 ≤ one p 3 ∨ 16 ≤ one p 4 ∨ 2 ≤ one p 11 ∨
    2 ≤ one p 12 ∨ (one p 12 = 1 ∧ 16 ≤ one p 13) ∨
    2 ≤ one p 14 ∨ (one p 14 = 1 ∧ (2047 < two p 15 ∨ two p 17 < 2 ∨ 256 < two p 17 ∨ two p 21 < 1 ∨ 2000 < two p 21 ∨
      2048 < two p 15 + two p 17 ∨ 2 ≤ one p 23)) ∨
    2 ≤ one p 24 ∨ (one p 2 < 2 ∧ one p 24 = 1) ∨ (one p 2 = 2 ∧ one p 24 = 0) ∨ (one p 24 = 1 ∧ (two p 25 < 1 ∨ 600 < two p 25))

/-- A field of TRIAD_SET's parameters lies outside its values: byte 0 is the triad, then come enabled, the axes x, y, z, the nine matrix
elements (3 each), the three offset components (4 each, two's complement), the spike limit (3) and the rounding mode (R95, R143, R181). -/
abbrev Sys2Proof.Claims.triadOutside (p : List Byte) : Prop :=
  2 ≤ one p 0 ∨ 2 ≤ one p 1 ∨ 16 ≤ one p 2 ∨ 16 ≤ one p 3 ∨ 16 ≤ one p 4 ∨ beyondOffset p 32 ∨ beyondOffset p 36 ∨ beyondOffset p 40 ∨ 2 ≤ one p 47

/-- The number of a filter as a parameter (R181). -/
def Sys2Proof.Claims.filterByte (x : FilterName) : Byte :=
  match x with
  | .second => 0
  | .minute => 1

open Sys2Proof.Claims

/-- The wire form of a descriptor loses nothing: the descriptor read from the bytes that CHANNEL_GET and TRIAD_GET answer is the
descriptor (R57, R60, R62, R95, R147, R181; that yes is 0 and no 1 is log 11, that a matrix goes row by row log 37, the
bytes of an absent field log 38). -/
def Obligations.DescriptorsSurviveTheWire : Prop :=
  (∀ (d : ChannelDescriptor) (b : Byte), channelInRange d → d.bytes.length = 26 ∧ channelDescriptorAt (b :: d.bytes) 1 = some d) ∧
    ∀ (d : TriadDescriptor) (b : Byte), triadInRange d → d.bytes.length = 47 ∧ triadDescriptorAt (b :: d.bytes) 1 = some d

/-- CHANNEL_SET, TRIAD_SET, FILTER_SHAPE, FILTER_TAPS and DISCARD: RANGE for a value outside its stated values, then BUSY while a
commit is scheduled, else the pending copy alone is written and the answer is OK (R142 to R146, R154). A descriptor is refused exactly
for a field outside the values of R57, R59, R60 and R95: a number, choice or presence byte beyond its last, a segment or staleness limit
outside its bounds, a limit against the kind, an offset beyond its range (the bytes of a descriptor rest on logs 11, 37 and 38). -/
def Obligations.StagingWrites : Prop :=
  ∀ (q : Request) (s : State),
    let old := s.staging.pendingConfig
    let refused (r : Result) : Host.Outcome State Fault Refusal := .next (answered (taken s) q r [])
    let wrote (c : Configuration) (data : List Byte) : Host.Outcome State Fault Refusal :=
      if s.staging.commitScheduled = true then refused .busy
      else .next { answered (taken s) q .ok data with staging := { s.staging with pendingConfig := c } }
    let setFilter (name : FilterName) (f : Filter) : Configuration :=
      match name with
      | .second => { old with second := f }
      | .minute => { old with minute := f }
    (Ready s .channelSet q →
      (∀ (n : Fin 16) (d : ChannelDescriptor), q.params = BitVec.ofNat 8 n.val :: d.bytes → channelInRange d →
        exec .channelSet s = wrote { old with channels := old.channels.set n d } [BitVec.ofNat 8 n.val]) ∧
      (channelOutside q.params → exec .channelSet s = refused .range) ∧
      (¬channelOutside q.params → exec .channelSet s ≠ refused .range) ∧
      (∀ b rest, q.params = b :: rest → 16 ≤ b.toNat ∨ channelDescriptorAt q.params 1 = none →
        exec .channelSet s = refused .range)) ∧
    (Ready s .triadSet q →
      (∀ (k : Fin 2) (d : TriadDescriptor), q.params = BitVec.ofNat 8 k.val :: d.bytes → triadInRange d →
        exec .triadSet s = wrote { old with triads := old.triads.set k d } [BitVec.ofNat 8 k.val]) ∧
      (triadOutside q.params → exec .triadSet s = refused .range) ∧
      (¬triadOutside q.params → exec .triadSet s ≠ refused .range) ∧
      (∀ b rest, q.params = b :: rest → 2 ≤ b.toNat ∨ triadDescriptorAt q.params 1 = none →
        exec .triadSet s = refused .range)) ∧
    (∀ (b : Byte) (w : Byte) (f : Count16), Ready s .filterShape q → q.params = [b, w] ++ natBytes 2 f.toNat →
      let legal : Prop := (1 ≤ w.toNat ∧ w.toNat ≤ 127) ∧ 1 ≤ f.toNat ∧ f.toNat ≤ 1024
      (∀ name, b = filterByte name → legal → exec .filterShape s =
        wrote (setFilter name { old.filter name with length := w.toNat, fraction := f.toNat }) []) ∧
      (2 ≤ b.toNat ∨ ¬legal → exec .filterShape s = refused .range)) ∧
    (∀ (b first : Byte) (weights : List Count16), Ready s .filterTaps q → weights.length < 256 →
      q.params = [b, first, BitVec.ofNat 8 weights.length] ++ weights.flatMap (fun x => natBytes 2 x.toNat) →
      let legal : Prop := first.toNat ≤ 126 ∧ (1 ≤ weights.length ∧ weights.length ≤ 64) ∧ first.toNat + weights.length ≤ 127
      (∀ name, b = filterByte name → legal → exec .filterTaps s =
        wrote (setFilter name { old.filter name with
          places := Vector.ofFn fun i =>
            if first.toNat ≤ i.val ∧ i.val < first.toNat + weights.length then (weights[i.val - first.toNat]?).getD 0
            else (old.filter name).places[i] })
          [b, first, BitVec.ofNat 8 weights.length]) ∧
      (2 ≤ b.toNat ∨ ¬legal → exec .filterTaps s = refused .range)) ∧
    (Ready s .discard q → exec .discard s = wrote s.staging.active [])

/-! The failures of the table of section 8.4, and what the steps before a step leave clean (R150). -/

/-- The channel is enabled, is an enabled AXIS channel, is an enabled SCALAR channel. -/
abbrev Sys2Proof.Claims.isOn (c : Configuration) (n : Fin 16) : Prop := (c.channels[n]).enabled = true
abbrev Sys2Proof.Claims.isAxis (c : Configuration) (n : Fin 16) : Prop := isOn c n ∧ (c.channels[n]).kind = .axis
abbrev Sys2Proof.Claims.isScalar (c : Configuration) (n : Fin 16) : Prop := isOn c n ∧ (c.channels[n]).kind = .scalar

/-- The axis channels of a triad in the order x, y, z. -/
abbrev Sys2Proof.Claims.axesOf (c : Configuration) (k : Fin 2) : List (Fin 16) :=
  [(c.triads[k]).axes.x, (c.triads[k]).axes.y, (c.triads[k]).axes.z]

/-- Step 1: two enabled channels have one port and source address. -/
abbrev Sys2Proof.Claims.samePair (c : Configuration) (m n : Fin 16) : Prop :=
  isOn c m ∧ isOn c n ∧ (c.channels[m]).port = (c.channels[n]).port ∧ (c.channels[m]).source = (c.channels[n]).source

/-- Step 2: an enabled channel's temperature source is not an enabled TEMPERATURE channel. -/
abbrev Sys2Proof.Claims.badSource (c : Configuration) (n t : Fin 16) : Prop :=
  isOn c n ∧ (c.channels[n]).tempSource = some t ∧ ¬(isOn c t ∧ (c.channels[t]).kind = .temperature)

/-- Step 3: one of temperature source and segment present, the other absent. -/
abbrev Sys2Proof.Claims.unpaired (c : Configuration) (n : Fin 16) : Prop :=
  (c.channels[n]).tempSource.isSome ≠ (c.channels[n]).segment.isSome

/-- Step 4: a segment on a TEMPERATURE channel. -/
abbrev Sys2Proof.Claims.segmented (c : Configuration) (n : Fin 16) : Prop :=
  (c.channels[n]).kind = .temperature ∧ (c.channels[n]).segment.isSome = true

/-- Step 6: two of an enabled triad's axes are this channel; this channel is an axis and no enabled AXIS channel; this channel is an
axis of both enabled triads. -/
abbrev Sys2Proof.Claims.repeatedAxis (c : Configuration) (k : Fin 2) (n : Fin 16) : Prop :=
  (c.triads[k]).enabled = true ∧ 2 ≤ (axesOf c k).count n
abbrev Sys2Proof.Claims.strayAxis (c : Configuration) (k : Fin 2) (n : Fin 16) : Prop :=
  (c.triads[k]).enabled = true ∧ n ∈ axesOf c k ∧ ¬isAxis c n
abbrev Sys2Proof.Claims.sharedAxis (c : Configuration) (n : Fin 16) : Prop :=
  (c.triads[0]).enabled = true ∧ (c.triads[1]).enabled = true ∧ n ∈ axesOf c 0 ∧ n ∈ axesOf c 1

/-- Step 7: a filter's W is even, lies outside a range, its weights of places 0 to W − 1 are all 0. -/
abbrev Sys2Proof.Claims.evenLength (f : Filter) : Prop := f.length % 2 = 0
abbrev Sys2Proof.Claims.lengthBeyond (f : Filter) (low high : Nat) : Prop := f.length < low ∨ high < f.length
abbrev Sys2Proof.Claims.weightless (f : Filter) : Prop := ∀ i, i < f.length → weight f i = 0

/-- Nothing failed in steps 1, 1 to 2, 1 to 3, 1 to 4, in the SCALAR count of step 5, in all of step 5. -/
abbrev Sys2Proof.Claims.clean1 (c : Configuration) : Prop := ∀ m n, m < n → ¬samePair c m n
abbrev Sys2Proof.Claims.clean2 (c : Configuration) : Prop := clean1 c ∧ ∀ n t, ¬badSource c n t
abbrev Sys2Proof.Claims.clean3 (c : Configuration) : Prop := clean2 c ∧ ∀ n, ¬unpaired c n
abbrev Sys2Proof.Claims.clean4 (c : Configuration) : Prop := clean3 c ∧ ∀ n, ¬segmented c n
abbrev Sys2Proof.Claims.clean5 (c : Configuration) : Prop := clean4 c ∧ ∀ m n, isScalar c m → isScalar c n → m = n
abbrev Sys2Proof.Claims.clean6 (c : Configuration) : Prop := clean5 c ∧ (temperaturesOf c).length ≤ 8

/-- Nothing failed in a triad's repeat and axis tests, in those of both triads, in all of step 6, in the second filter. -/
abbrev Sys2Proof.Claims.soundTriad (c : Configuration) (k : Fin 2) : Prop := ∀ n, ¬repeatedAxis c k n ∧ ¬strayAxis c k n
abbrev Sys2Proof.Claims.clean7 (c : Configuration) : Prop := clean6 c ∧ soundTriad c 0 ∧ soundTriad c 1
abbrev Sys2Proof.Claims.clean8 (c : Configuration) : Prop := clean7 c ∧ ∀ n, ¬sharedAxis c n
abbrev Sys2Proof.Claims.clean9 (c : Configuration) : Prop :=
  clean8 c ∧ ¬evenLength c.second ∧ ¬lengthBeyond c.second 1 63 ∧ ¬weightless c.second

/-- The data of a CONFLICT response to COMMIT: object kind and number, reason in the order of the table of section 8.4, related number
behind its presence byte (R150, R181). -/
def Sys2Proof.Claims.failureBytes (f : CheckFailure) : List Byte :=
  (match f.object with
    | .channel n => [0, BitVec.ofNat 8 n.val]
    | .triad k => [1, BitVec.ofNat 8 k.val]
    | .filter .second => [2, 0]
    | .filter .minute => [2, 1]) ++
  [(match f.reason with
    | .pairInUse => 0
    | .sourceNotTemperature => 1
    | .sourceSegmentUnpaired => 2
    | .segmentOnTemperature => 3
    | .secondScalar => 4
    | .ninthTemperature => 5
    | .axisRepeated => 6
    | .axisNotAxis => 7
    | .axisInBoth => 8
    | .lengthEven => 9
    | .lengthRange => 10
    | .weightsZero => 11 : Byte)] ++
  match f.related with
  | some n => [1, BitVec.ofNat 8 n.val]
  | none => [0, 0]

open Sys2Proof.Claims

/-- COMMIT is answered in the first of the six cases of R149 that applies; case 5 carries the failure of the commit check: object,
reason and related number (the bytes NO_CHANGE 0 and SCHEDULED 1 are log 11). The commit check goes through the table of section 8.4 in
its order: a step fails only when the steps before it found nothing, with the object and the related number that the table gives; and
it finds no failure exactly when none of the table's failures is there (R150). -/
def Obligations.CommitAnsweredByTheCheck : Prop :=
  (∀ (q : Request) (s : State), Ready s .commit q →
    let free : Prop := s.staging.commitScheduled = false ∧ s.staging.restartScheduled = false ∧ s.settings.save = none
    (¬free → exec .commit s = .next (answered (taken s) q .busy [])) ∧
    (free → s.staging.pendingConfig = s.staging.active →
      exec .commit s = .next (answered (taken s) q .ok [0])) ∧
    (∀ f, free → s.staging.pendingConfig ≠ s.staging.active → s.staging.pendingConfig.commitCheck = some f →
      exec .commit s = .next (answered (taken s) q .conflict (failureBytes f))) ∧
    (free → s.staging.pendingConfig ≠ s.staging.active → s.staging.pendingConfig.commitCheck = none →
      exec .commit s = .next { answered (taken s) q .ok [1] with
        staging := { s.staging with commitScheduled := true } })) ∧
  ∀ c : Configuration,
    let fails (object : CheckObject) (reason : CheckReason) (related : Option (Fin 16)) : Prop :=
      c.commitCheck = some ⟨object, reason, related⟩
    (∀ m n, m < n → samePair c m n → (∀ m' n', m' < n' → samePair c m' n' → n ≤ n') →
      (∀ m', samePair c m' n → m' < n → m ≤ m') →
      fails (.channel n) .pairInUse (some m)) ∧
    (∀ n t, clean1 c → badSource c n t → (∀ n' t', badSource c n' t' → n ≤ n') →
      fails (.channel n) .sourceNotTemperature (some t)) ∧
    (∀ n, clean2 c → unpaired c n → (∀ n', unpaired c n' → n ≤ n') → fails (.channel n) .sourceSegmentUnpaired none) ∧
    (∀ n, clean3 c → segmented c n → (∀ n', segmented c n' → n ≤ n') → fails (.channel n) .segmentOnTemperature none) ∧
    (∀ m n, clean4 c → isScalar c m → isScalar c n → m < n → (∀ x, isScalar c x → x < n → x = m) →
      fails (.channel n) .secondScalar (some m)) ∧
    (∀ n, clean5 c → (temperaturesOf c)[8]? = some n → fails (.channel n) .ninthTemperature none) ∧
    (∀ (k : Fin 2) (n : Fin 16), clean6 c → (k = 1 → soundTriad c 0) → repeatedAxis c k n →
      fails (.triad k) .axisRepeated (some n)) ∧
    (∀ (k : Fin 2) (n : Fin 16), clean6 c → (k = 1 → soundTriad c 0) → (∀ m, ¬repeatedAxis c k m) → strayAxis c k n →
      (∀ m ∈ (axesOf c k).takeWhile fun x => x != n, ¬strayAxis c k m) → fails (.triad k) .axisNotAxis (some n)) ∧
    (∀ n, clean7 c → sharedAxis c n → (∀ n', sharedAxis c n' → n ≤ n') → fails (.triad 1) .axisInBoth (some n)) ∧
    (clean8 c → evenLength c.second → fails (.filter .second) .lengthEven none) ∧
    (clean8 c → ¬evenLength c.second → lengthBeyond c.second 1 63 → fails (.filter .second) .lengthRange none) ∧
    (clean8 c → ¬evenLength c.second → ¬lengthBeyond c.second 1 63 → weightless c.second →
      fails (.filter .second) .weightsZero none) ∧
    (clean9 c → evenLength c.minute → fails (.filter .minute) .lengthEven none) ∧
    (clean9 c → ¬evenLength c.minute → lengthBeyond c.minute 61 127 → fails (.filter .minute) .lengthRange none) ∧
    (clean9 c → ¬evenLength c.minute → ¬lengthBeyond c.minute 61 127 → weightless c.minute →
      fails (.filter .minute) .weightsZero none) ∧
    (c.commitCheck = none ↔ clean9 c ∧ ¬evenLength c.minute ∧ ¬lengthBeyond c.minute 61 127 ∧ ¬weightless c.minute)

/-- The enabled channel n of the active configuration covers an address with its segment (R65). -/
def Sys2Proof.Claims.protectedBy (s : State) (a : Nat) (n : Fin 16) : Prop :=
  (s.staging.active.channels[n]).enabled = true ∧
    ∃ g, (s.staging.active.channels[n]).segment = some g ∧ g.base ≤ a ∧ a < g.base + g.length

open Sys2Proof.Claims

/-- STORE_WRITE and STORE_POISON: RANGE, then BUSY while a commit is scheduled, then ACCESS with the lowest protected address and
the lowest channel that covers it; else the run is written GOOD, or the entry's check state becomes BAD and its values are kept,
every other entry stays, and the unsaved-changes flag is set (R67 to R70, R72; the canonical form of the store's list is log 7). -/
def Obligations.StoreRequests : Prop :=
  ∀ (q : Request) (s : State), s.store.wf = true →
    let refused (r : Result) (data : List Byte) : Host.Outcome State Fault Refusal := .next (answered (taken s) q r data)
    let wrote (c : Instr) (data : List Byte) (entry : Nat → StoreEntry) : Prop :=
      ∃ st : Store, exec c s = .next (answered (taken (unsavedSet { s with store := st })) q .ok data) ∧ st.wf = true ∧
        ∀ a, st.read a = entry a
    (∀ (start : Nat) (entries : List (Int × Int)), Ready s .storeWrite q → start < 65536 → entries.length < 256 →
      (∀ e ∈ entries, -8388608 ≤ e.1 ∧ e.1 ≤ 8388607 ∧ -32768 ≤ e.2 ∧ e.2 ≤ 32767) →
      q.params = natBytes 2 start ++ natBytes 1 entries.length ++ entries.flatMap (fun e => intBytes 3 e.1 ++ intBytes 2 e.2) →
      let legal : Prop := start ≤ 2047 ∧ (1 ≤ entries.length ∧ entries.length ≤ 16) ∧ start + entries.length ≤ 2048
      let run (a : Nat) : Prop := start ≤ a ∧ a < start + entries.length
      (¬legal → exec .storeWrite s = refused .range []) ∧
      (legal → s.staging.commitScheduled = true → exec .storeWrite s = refused .busy []) ∧
      (∀ a n, legal → s.staging.commitScheduled = false → run a → protectedBy s a n →
        (∀ b m, run b → protectedBy s b m → a ≤ b) → (∀ m, protectedBy s a m → n ≤ m) →
        exec .storeWrite s = refused .access (natBytes 2 a ++ natBytes 1 n.val)) ∧
      (legal → s.staging.commitScheduled = false → (∀ a n, run a → ¬protectedBy s a n) →
        wrote .storeWrite (natBytes 2 start ++ natBytes 1 entries.length) fun a =>
          if start ≤ a then
            match entries[a - start]? with
            | some e => ⟨e.1, e.2, .good⟩
            | none => s.store.read a
          else s.store.read a)) ∧
    ∀ a : Nat, Ready s .storePoison q → a < 65536 → q.params = natBytes 2 a →
      (2047 < a → exec .storePoison s = refused .range []) ∧
      (a ≤ 2047 → s.staging.commitScheduled = true → exec .storePoison s = refused .busy []) ∧
      (∀ n, a ≤ 2047 → s.staging.commitScheduled = false → protectedBy s a n → (∀ m, protectedBy s a m → n ≤ m) →
        exec .storePoison s = refused .access (natBytes 2 a ++ natBytes 1 n.val)) ∧
      (a ≤ 2047 → s.staging.commitScheduled = false → (∀ n, ¬protectedBy s a n) →
        wrote .storePoison (natBytes 2 a) fun b => if b = a then { s.store.read a with check := .bad } else s.store.read b)

/-- A protected entry keeps its contents through every command but POWER_ON and POWER_LOSS (R65, R66, R67). -/
def Obligations.ProtectedEntriesKeep : Prop :=
  ∀ (c : Instr) (s t : State) (a : Nat) (n : Fin 16), exec c s = .next t → c ≠ .powerOn → c ≠ .powerLoss →
    protectedBy s a n → t.store.read a = s.store.read a

/-! ### Requests: status, saves, protection -/

/-- CONDITIONS_CLEAR removes the conditions its mask names and answers what is left, and a mask with bit 14 or 15 is refused;
COUNTERS_CLEAR answers the counters of its group as they stood and sets them to 0; FAULT_RELEASE answers the capture record and
the fault counts as they stood, empties the record and sets the counts to 0 (R183, R186, R190, R191; the bytes EMPTY 0 and FROZEN 1 are
log 11, the widths of the fault counts log 10). -/
def Obligations.StatusRequests : Prop :=
  ∀ (q : Request) (s : State),
    (∀ m : Count16, Ready s .conditionsClear q → q.params = natBytes 2 m.toNat →
      let left := s.status.conditions &&& ~~~(BitVec.ofNat 14 m.toNat)
      (m.toNat < 16384 → exec .conditionsClear s =
        .next { answered (taken s) q .ok (natBytes 2 left.toNat) with status := { s.status with conditions := left } }) ∧
      (16384 ≤ m.toNat → exec .conditionsClear s = .next (answered (taken s) q .range []))) ∧
    (∀ g : Byte, Ready s .countersClear q → q.params = [g] →
      (g.toNat ≤ 6 → exec .countersClear s =
        .next { answered (taken s) q .ok ((counterGroup g.toNat).flatMap fun i => natBytes 2 (s.status.counters[i]).toNat) with
          status := { s.status with
            counters := Vector.ofFn fun i => if i ∈ counterGroup g.toNat then 0 else s.status.counters[i] } }) ∧
      (7 ≤ g.toNat → exec .countersClear s = .next (answered (taken s) q .range []))) ∧
    (Ready s .faultRelease q → exec .faultRelease s =
      .next { answered (taken s) q .ok ((match s.status.capture with
          | none => List.replicate 14 0
          | some f => 1 :: f.bytes) ++ s.status.faultCounts.toList.flatMap fun x => natBytes 2 x.toNat) with
        status := { s.status with capture := none, faultCounts := Vector.replicate 5 0 } })

/-- SAVE: BUSY while a commit is scheduled or a save runs, then LOCKED beyond OPEN, else the snapshot is taken, the image INVALID
and no response offered (R165, R204; that a running save leaves no whole image is log 8). FIX_PERMANENT: BUSY, then LOCKED, else
the flag is written and the level FIXED (R203). LOCK_SESSION: OK with the level, which OPEN alone leaves (R202). RESTART: BUSY while
a commit or a restart is scheduled, else scheduled (R209). SAVE_END: the verify passes and the image is VALID with the snapshot, the
unsaved-changes flag following the change note; or it fails, the image stays INVALID, SAVE_FAILED and the flag are set. The response
with the tag of the SAVE is admitted, or held while no place is free (R165, R200, R205; the outcome of the verify is an operand,
log 8; the header of a held response is log 36). -/
def Obligations.SavesProtectionRestart : Prop :=
  (∀ (q : Request) (s : State),
    let refused (r : Result) : Host.Outcome State Fault Refusal := .next (answered (taken s) q r [])
    (Ready s .save q →
      let busy : Prop := s.staging.commitScheduled = true ∨ s.settings.save ≠ none
      (busy → exec .save s = refused .busy) ∧
      (¬busy → s.settings.level ≠ .opened → exec .save s = refused .locked) ∧
      (¬busy → s.settings.level = .opened → exec .save s = .next { taken s with settings := { s.settings with
        save := some ⟨s.workingSettings, q.tag, s.tb.clock⟩
        changeNote := false
        image := { s.settings.image with contents := none, validity := .invalid } } })) ∧
    (Ready s .fixPermanent q →
      (s.settings.save ≠ none → exec .fixPermanent s = refused .busy) ∧
      (s.settings.save = none → s.settings.level ≠ .opened → exec .fixPermanent s = refused .locked) ∧
      (s.settings.save = none → s.settings.level = .opened → exec .fixPermanent s =
        .next { answered (taken s) q .ok [2] with settings := { s.settings with
          identity := { s.settings.identity with fixed := true }
          level := .fixed } })) ∧
    (Ready s .lockSession q →
      (s.settings.level = .opened → exec .lockSession s =
        .next { answered (taken s) q .ok [1] with settings := { s.settings with level := .sessionLocked } }) ∧
      (s.settings.level = .sessionLocked → exec .lockSession s = .next (answered (taken s) q .ok [1])) ∧
      (s.settings.level = .fixed → exec .lockSession s = .next (answered (taken s) q .ok [2]))) ∧
    (Ready s .restart q →
      let busy : Prop := s.staging.commitScheduled = true ∨ s.staging.restartScheduled = true
      (busy → exec .restart s = refused .busy) ∧
      (¬busy → exec .restart s =
        .next { answered (taken s) q .ok [] with staging := { s.staging with restartScheduled := true } }))) ∧
  ∀ (n : Nat) (r : RunningSave) (s : State), s.settings.save = some r → s.phase ≠ .off →
    let response (result : Result) : Response := ⟨r.tag, 0x50, result, 0, []⟩
    let offered (result : Result) (u : State) : State :=
      if s.link.output.length < 64 then
        { u with link := { s.link with output := s.link.output ++ [⟨.response (response result), false⟩] } }
      else { u with link := { s.link with heldSave := some (response result) } }
    let u := passed s n
    exec (.saveEnd true n) s = .next (offered .ok { u with settings := { s.settings with
      save := none
      image := ⟨some r.snapshot, crc32 (Config.imageBytes r.snapshot), .valid⟩
      unsaved := s.settings.changeNote } }) ∧
    exec (.saveEnd false n) s = .next (offered .saveFailed (conditionSet { u with settings := { s.settings with
      save := none
      unsaved := true } } .saveFailed))

/-! ### Marker input -/

/-- MARKER_EDGE: taken when a line is MARKER_IN, its direction is selected, the first mark is made and 100,000 periods lie behind
the last taken edge; its position is kept and, with EVENT in the output set, its event record is offered; any other edge is
ignored. An edge in the period of a mark, or after it, belongs to the new second: the mark is made first, and the edge then lies at
offset 0 in the period of the mark itself (R196; log 24); so an edge on PPS that steps is not timely once its own period has taken a
marker edge, and before the first mark the moment of an edge is kept (log 24). -/
def Obligations.MarkerEdgeTaken : Prop :=
  (∀ (edge : Edge) (n : Nat) (s : State), s.phase ≠ .off → (s.phase = .running → inSecond s n) →
    let u := passed s n
    let takes : Prop := (∃ i : Fin 4, (s.aux.lines[i]).settings.designation = .markerIn) ∧
      (s.aux.selection = .both ∨ (s.aux.selection = .rising ∧ edge = .rising) ∨
        (s.aux.selection = .falling ∧ edge = .falling)) ∧
      s.phase = .running ∧ ∀ a, s.aux.lastMarker = some a → a + 100000 ≤ s.tb.clock + n
    let v : State := { u with aux := { s.aux with lastMarker := some (s.tb.clock + n) } }
    let event : Body := .event ⟨s.tb.second, s.tb.period + n, edge, s.tb.quality⟩
    (¬takes → s.phase = .running → exec (.markerEdge edge n) s = .next u) ∧
    (s.phase ≠ .running →
      exec (.markerEdge edge n) s = .next { u with tb := { u.tb with earlyEdge := some (s.tb.clock + n) } }) ∧
    (takes → s.link.outputSet.getLsbD 2 = false → exec (.markerEdge edge n) s = .next v) ∧
    (takes → s.link.outputSet.getLsbD 2 = true → s.link.output.length < 60 →
      exec (.markerEdge edge n) s = .next (admitted v event)) ∧
    (takes → s.link.outputSet.getLsbD 2 = true → 60 ≤ s.link.output.length →
      exec (.markerEdge edge n) s = .next (conditionSet (counted v .eventsLost) .recordLoss))) ∧
  (∀ s : State, takesEdge s 0 → s.tb.discipline ≠ .locked → 500 < (edgeError s 0).natAbs →
    s.aux.lastMarker = some s.tb.clock → timely (.ppsEdge 0) s = false) ∧
  ∀ (edge : Edge) (n : Nat) (s t : State), s.phase = .running → s.tb.length ≤ s.tb.period + n → exec .mark s = .next t →
    let late := n - (s.tb.length - s.tb.period)
    late < t.tb.length → exec (.markerEdge edge n) s = exec (.markerEdge edge late) t ∧ t.tb.period = 0

/-! ### Invariants -/

/-- The queues, FIFOs, histories and stores keep their bounds and form (R26, R42, R43, R63, R117, R124, R125, R127, R162, R166, R199; the
canonical form of a store's list is log 7, the four ticks issued last log 16). -/
def Sys2Proof.Claims.Bounded (s : State) : Prop :=
  (∀ p : Port, (s.port p).fifo.length ≤ 32) ∧ s.link.requests.length ≤ 4 ∧ s.link.output.length ≤ 64 ∧
    s.link.output.countP (fun f => !isResponse f) ≤ 60 ∧ (s.link.sending = true → s.link.output ≠ []) ∧
    s.asm.issued.length ≤ 4 ∧ (s.asm.closing = none ↔ s.asm.closeQueue = []) ∧
    (∀ k : Fin 2, (s.dec.tickHistory[k]).length ≤ 64 ∧ (s.dec.secondHistory[k]).length ≤ 128) ∧
    s.dec.scalarHistory.length ≤ 128 ∧ (∀ n : Fin 16, (s.dec.tempHistory[n]).length ≤ 60) ∧ s.store.wf = true ∧
    (∀ x, s.settings.image.contents = some x → x.store.wf = true) ∧
    ∀ r, s.settings.save = some r → r.snapshot.store.wf = true

/-- The settings' R, D_a, H and D lie within their ranges (R9, R18). -/
def Sys2Proof.Claims.legalSettings (x : Settings) : Prop :=
  (x.rateSet = 1 ∨ x.rateSet = 2 ∨ x.rateSet = 5 ∨ x.rateSet = 10 ∨ x.rateSet = 20) ∧ (1 ≤ x.depthSet ∧ x.depthSet ≤ 4) ∧
    (60 ≤ x.holdoverLimit ∧ x.holdoverLimit ≤ 86400) ∧ -2000 ≤ x.trim ∧ x.trim ≤ 2000

/-- The timebase, the ports, the screens, the schedules and the settings store are in legal states (R1, R9 to R14, R18, R28,
R39, R42, R101, R107, R149, R155, R171, R174, R200, R201, R204; that a running save leaves no whole image is log 8, that a return of the
rate waits while a frame is sent logs 31 and 41). -/
def Sys2Proof.Claims.Legal (s : State) : Prop :=
  legalSettings s.workingSettings ∧ (∀ x, s.settings.image.contents = some x → legalSettings x) ∧
    (∀ r, s.settings.save = some r →
      legalSettings r.snapshot ∧ s.settings.image.contents = none ∧ s.settings.image.validity = .invalid) ∧
    (s.tb.rate = 1 ∨ s.tb.rate = 2 ∨ s.tb.rate = 5 ∨ s.tb.rate = 10 ∨ s.tb.rate = 20) ∧ (1 ≤ s.tb.depth ∧ s.tb.depth ≤ 4) ∧
    s.asm.openSet.length ≤ s.tb.depth ∧ (-50 ≤ s.tb.correction ∧ s.tb.correction ≤ 50) ∧
    (9997950 ≤ s.tb.length ∧ s.tb.length ≤ 10002050) ∧ s.tb.holdoverAge ≤ 86400 ∧ s.tb.missingCount ≤ 3 ∧
    (s.tb.discipline = .acquire → s.tb.goodCount ≤ 7) ∧ (s.tb.discipline = .locked → s.tb.outlierCount ≤ 3) ∧
    (s.tb.discipline ≠ .holdover → s.tb.holdoverAge = 0 ∧ s.tb.holdoverLong = false) ∧
    (∀ p : Port, ((s.port p).mode = .halted ↔ (s.port p).heldError ≠ none) ∧
      (s.phase ≠ .running → (s.port p).mode = .disabled)) ∧
    (∀ k : Fin 2, (s.screens[k]).run ≤ 3 ∧ ((s.screens[k]).reference = none → (s.screens[k]).suspect = none)) ∧
    ¬(s.staging.commitScheduled = true ∧ s.staging.restartScheduled = true) ∧
    (s.link.waitingRate ≠ none ↔ s.link.rateState = .waiting) ∧ (s.link.revertPending = true → s.link.sending = true) ∧
    (s.phase ≠ .off → (s.settings.level = .fixed ↔ s.settings.identity.fixed = true))

open Sys2Proof.Claims

/-- Every step keeps the bounds of the queues, histories and stores (R26, R42, R43, R63, R117, R124, R125, R127, R162, R166, R199; the
canonical form of a store's list is log 7, the four ticks issued last log 16). -/
def Obligations.StepKeepsBounds : Prop := ∀ s t : State, Bounded s → step s = .next t → Bounded t

/-- Every step keeps the device in legal states (R1, R9 to R14, R18, R28, R39, R42, R101, R107, R149, R155, R171, R174, R200, R201, R204;
that a running save leaves no whole image is log 8, that a return of the rate waits while a frame is sent logs 31 and 41). -/
def Obligations.StepKeepsLegalStates : Prop := ∀ s t : State, Legal s → step s = .next t → Legal t

/-- The device right after reset is within its bounds and in a legal state (the values before the load are log 6). -/
def Obligations.ResetIsBoundedAndLegal : Prop := Bounded State.reset ∧ Legal State.reset
end

