-- ==== Sys2Proof/Laws/State.lean ====
section
/-! SUPPORT. Laws/State: what each block update of Machine/Ops leaves in every field, so that no proof unfolds a record update. -/

namespace Sys2Proof.Machine

/-! ### setPhase -/

@[simp] theorem State.setPhase_phase (s : State) (x : Phase) : (s.setPhase x).phase = x := rfl
@[simp] theorem State.setPhase_tb (s : State) (x : Phase) : (s.setPhase x).tb = s.tb := rfl
@[simp] theorem State.setPhase_portA (s : State) (x : Phase) : (s.setPhase x).portA = s.portA := rfl
@[simp] theorem State.setPhase_portB (s : State) (x : Phase) : (s.setPhase x).portB = s.portB := rfl
@[simp] theorem State.setPhase_asm (s : State) (x : Phase) : (s.setPhase x).asm = s.asm := rfl
@[simp] theorem State.setPhase_store (s : State) (x : Phase) : (s.setPhase x).store = s.store := rfl
@[simp] theorem State.setPhase_corr (s : State) (x : Phase) : (s.setPhase x).corr = s.corr := rfl
@[simp] theorem State.setPhase_screens (s : State) (x : Phase) : (s.setPhase x).screens = s.screens := rfl
@[simp] theorem State.setPhase_dec (s : State) (x : Phase) : (s.setPhase x).dec = s.dec := rfl
@[simp] theorem State.setPhase_link (s : State) (x : Phase) : (s.setPhase x).link = s.link := rfl
@[simp] theorem State.setPhase_status (s : State) (x : Phase) : (s.setPhase x).status = s.status := rfl
@[simp] theorem State.setPhase_aux (s : State) (x : Phase) : (s.setPhase x).aux = s.aux := rfl
@[simp] theorem State.setPhase_staging (s : State) (x : Phase) : (s.setPhase x).staging = s.staging := rfl
@[simp] theorem State.setPhase_settings (s : State) (x : Phase) : (s.setPhase x).settings = s.settings := rfl
@[simp] theorem State.setPhase_pending (s : State) (x : Phase) : (s.setPhase x).pending = s.pending := rfl

/-! ### setTb -/

@[simp] theorem State.setTb_phase (s : State) (x : Timebase) : (s.setTb x).phase = s.phase := rfl
@[simp] theorem State.setTb_tb (s : State) (x : Timebase) : (s.setTb x).tb = x := rfl
@[simp] theorem State.setTb_portA (s : State) (x : Timebase) : (s.setTb x).portA = s.portA := rfl
@[simp] theorem State.setTb_portB (s : State) (x : Timebase) : (s.setTb x).portB = s.portB := rfl
@[simp] theorem State.setTb_asm (s : State) (x : Timebase) : (s.setTb x).asm = s.asm := rfl
@[simp] theorem State.setTb_store (s : State) (x : Timebase) : (s.setTb x).store = s.store := rfl
@[simp] theorem State.setTb_corr (s : State) (x : Timebase) : (s.setTb x).corr = s.corr := rfl
@[simp] theorem State.setTb_screens (s : State) (x : Timebase) : (s.setTb x).screens = s.screens := rfl
@[simp] theorem State.setTb_dec (s : State) (x : Timebase) : (s.setTb x).dec = s.dec := rfl
@[simp] theorem State.setTb_link (s : State) (x : Timebase) : (s.setTb x).link = s.link := rfl
@[simp] theorem State.setTb_status (s : State) (x : Timebase) : (s.setTb x).status = s.status := rfl
@[simp] theorem State.setTb_aux (s : State) (x : Timebase) : (s.setTb x).aux = s.aux := rfl
@[simp] theorem State.setTb_staging (s : State) (x : Timebase) : (s.setTb x).staging = s.staging := rfl
@[simp] theorem State.setTb_settings (s : State) (x : Timebase) : (s.setTb x).settings = s.settings := rfl
@[simp] theorem State.setTb_pending (s : State) (x : Timebase) : (s.setTb x).pending = s.pending := rfl

/-! ### setPortA -/

@[simp] theorem State.setPortA_phase (s : State) (x : SensorPort) : (s.setPortA x).phase = s.phase := rfl
@[simp] theorem State.setPortA_tb (s : State) (x : SensorPort) : (s.setPortA x).tb = s.tb := rfl
@[simp] theorem State.setPortA_portA (s : State) (x : SensorPort) : (s.setPortA x).portA = x := rfl
@[simp] theorem State.setPortA_portB (s : State) (x : SensorPort) : (s.setPortA x).portB = s.portB := rfl
@[simp] theorem State.setPortA_asm (s : State) (x : SensorPort) : (s.setPortA x).asm = s.asm := rfl
@[simp] theorem State.setPortA_store (s : State) (x : SensorPort) : (s.setPortA x).store = s.store := rfl
@[simp] theorem State.setPortA_corr (s : State) (x : SensorPort) : (s.setPortA x).corr = s.corr := rfl
@[simp] theorem State.setPortA_screens (s : State) (x : SensorPort) : (s.setPortA x).screens = s.screens := rfl
@[simp] theorem State.setPortA_dec (s : State) (x : SensorPort) : (s.setPortA x).dec = s.dec := rfl
@[simp] theorem State.setPortA_link (s : State) (x : SensorPort) : (s.setPortA x).link = s.link := rfl
@[simp] theorem State.setPortA_status (s : State) (x : SensorPort) : (s.setPortA x).status = s.status := rfl
@[simp] theorem State.setPortA_aux (s : State) (x : SensorPort) : (s.setPortA x).aux = s.aux := rfl
@[simp] theorem State.setPortA_staging (s : State) (x : SensorPort) : (s.setPortA x).staging = s.staging := rfl
@[simp] theorem State.setPortA_settings (s : State) (x : SensorPort) : (s.setPortA x).settings = s.settings := rfl
@[simp] theorem State.setPortA_pending (s : State) (x : SensorPort) : (s.setPortA x).pending = s.pending := rfl

/-! ### setPortB -/

@[simp] theorem State.setPortB_phase (s : State) (x : SensorPort) : (s.setPortB x).phase = s.phase := rfl
@[simp] theorem State.setPortB_tb (s : State) (x : SensorPort) : (s.setPortB x).tb = s.tb := rfl
@[simp] theorem State.setPortB_portA (s : State) (x : SensorPort) : (s.setPortB x).portA = s.portA := rfl
@[simp] theorem State.setPortB_portB (s : State) (x : SensorPort) : (s.setPortB x).portB = x := rfl
@[simp] theorem State.setPortB_asm (s : State) (x : SensorPort) : (s.setPortB x).asm = s.asm := rfl
@[simp] theorem State.setPortB_store (s : State) (x : SensorPort) : (s.setPortB x).store = s.store := rfl
@[simp] theorem State.setPortB_corr (s : State) (x : SensorPort) : (s.setPortB x).corr = s.corr := rfl
@[simp] theorem State.setPortB_screens (s : State) (x : SensorPort) : (s.setPortB x).screens = s.screens := rfl
@[simp] theorem State.setPortB_dec (s : State) (x : SensorPort) : (s.setPortB x).dec = s.dec := rfl
@[simp] theorem State.setPortB_link (s : State) (x : SensorPort) : (s.setPortB x).link = s.link := rfl
@[simp] theorem State.setPortB_status (s : State) (x : SensorPort) : (s.setPortB x).status = s.status := rfl
@[simp] theorem State.setPortB_aux (s : State) (x : SensorPort) : (s.setPortB x).aux = s.aux := rfl
@[simp] theorem State.setPortB_staging (s : State) (x : SensorPort) : (s.setPortB x).staging = s.staging := rfl
@[simp] theorem State.setPortB_settings (s : State) (x : SensorPort) : (s.setPortB x).settings = s.settings := rfl
@[simp] theorem State.setPortB_pending (s : State) (x : SensorPort) : (s.setPortB x).pending = s.pending := rfl

/-! ### setAsm -/

@[simp] theorem State.setAsm_phase (s : State) (x : Assembler) : (s.setAsm x).phase = s.phase := rfl
@[simp] theorem State.setAsm_tb (s : State) (x : Assembler) : (s.setAsm x).tb = s.tb := rfl
@[simp] theorem State.setAsm_portA (s : State) (x : Assembler) : (s.setAsm x).portA = s.portA := rfl
@[simp] theorem State.setAsm_portB (s : State) (x : Assembler) : (s.setAsm x).portB = s.portB := rfl
@[simp] theorem State.setAsm_asm (s : State) (x : Assembler) : (s.setAsm x).asm = x := rfl
@[simp] theorem State.setAsm_store (s : State) (x : Assembler) : (s.setAsm x).store = s.store := rfl
@[simp] theorem State.setAsm_corr (s : State) (x : Assembler) : (s.setAsm x).corr = s.corr := rfl
@[simp] theorem State.setAsm_screens (s : State) (x : Assembler) : (s.setAsm x).screens = s.screens := rfl
@[simp] theorem State.setAsm_dec (s : State) (x : Assembler) : (s.setAsm x).dec = s.dec := rfl
@[simp] theorem State.setAsm_link (s : State) (x : Assembler) : (s.setAsm x).link = s.link := rfl
@[simp] theorem State.setAsm_status (s : State) (x : Assembler) : (s.setAsm x).status = s.status := rfl
@[simp] theorem State.setAsm_aux (s : State) (x : Assembler) : (s.setAsm x).aux = s.aux := rfl
@[simp] theorem State.setAsm_staging (s : State) (x : Assembler) : (s.setAsm x).staging = s.staging := rfl
@[simp] theorem State.setAsm_settings (s : State) (x : Assembler) : (s.setAsm x).settings = s.settings := rfl
@[simp] theorem State.setAsm_pending (s : State) (x : Assembler) : (s.setAsm x).pending = s.pending := rfl

/-! ### setStore -/

@[simp] theorem State.setStore_phase (s : State) (x : Store) : (s.setStore x).phase = s.phase := rfl
@[simp] theorem State.setStore_tb (s : State) (x : Store) : (s.setStore x).tb = s.tb := rfl
@[simp] theorem State.setStore_portA (s : State) (x : Store) : (s.setStore x).portA = s.portA := rfl
@[simp] theorem State.setStore_portB (s : State) (x : Store) : (s.setStore x).portB = s.portB := rfl
@[simp] theorem State.setStore_asm (s : State) (x : Store) : (s.setStore x).asm = s.asm := rfl
@[simp] theorem State.setStore_store (s : State) (x : Store) : (s.setStore x).store = x := rfl
@[simp] theorem State.setStore_corr (s : State) (x : Store) : (s.setStore x).corr = s.corr := rfl
@[simp] theorem State.setStore_screens (s : State) (x : Store) : (s.setStore x).screens = s.screens := rfl
@[simp] theorem State.setStore_dec (s : State) (x : Store) : (s.setStore x).dec = s.dec := rfl
@[simp] theorem State.setStore_link (s : State) (x : Store) : (s.setStore x).link = s.link := rfl
@[simp] theorem State.setStore_status (s : State) (x : Store) : (s.setStore x).status = s.status := rfl
@[simp] theorem State.setStore_aux (s : State) (x : Store) : (s.setStore x).aux = s.aux := rfl
@[simp] theorem State.setStore_staging (s : State) (x : Store) : (s.setStore x).staging = s.staging := rfl
@[simp] theorem State.setStore_settings (s : State) (x : Store) : (s.setStore x).settings = s.settings := rfl
@[simp] theorem State.setStore_pending (s : State) (x : Store) : (s.setStore x).pending = s.pending := rfl

/-! ### setCorr -/

@[simp] theorem State.setCorr_phase (s : State) (x : Corrector) : (s.setCorr x).phase = s.phase := rfl
@[simp] theorem State.setCorr_tb (s : State) (x : Corrector) : (s.setCorr x).tb = s.tb := rfl
@[simp] theorem State.setCorr_portA (s : State) (x : Corrector) : (s.setCorr x).portA = s.portA := rfl
@[simp] theorem State.setCorr_portB (s : State) (x : Corrector) : (s.setCorr x).portB = s.portB := rfl
@[simp] theorem State.setCorr_asm (s : State) (x : Corrector) : (s.setCorr x).asm = s.asm := rfl
@[simp] theorem State.setCorr_store (s : State) (x : Corrector) : (s.setCorr x).store = s.store := rfl
@[simp] theorem State.setCorr_corr (s : State) (x : Corrector) : (s.setCorr x).corr = x := rfl
@[simp] theorem State.setCorr_screens (s : State) (x : Corrector) : (s.setCorr x).screens = s.screens := rfl
@[simp] theorem State.setCorr_dec (s : State) (x : Corrector) : (s.setCorr x).dec = s.dec := rfl
@[simp] theorem State.setCorr_link (s : State) (x : Corrector) : (s.setCorr x).link = s.link := rfl
@[simp] theorem State.setCorr_status (s : State) (x : Corrector) : (s.setCorr x).status = s.status := rfl
@[simp] theorem State.setCorr_aux (s : State) (x : Corrector) : (s.setCorr x).aux = s.aux := rfl
@[simp] theorem State.setCorr_staging (s : State) (x : Corrector) : (s.setCorr x).staging = s.staging := rfl
@[simp] theorem State.setCorr_settings (s : State) (x : Corrector) : (s.setCorr x).settings = s.settings := rfl
@[simp] theorem State.setCorr_pending (s : State) (x : Corrector) : (s.setCorr x).pending = s.pending := rfl

/-! ### setScreens -/

@[simp] theorem State.setScreens_phase (s : State) (x : Vector Screen 2) : (s.setScreens x).phase = s.phase := rfl
@[simp] theorem State.setScreens_tb (s : State) (x : Vector Screen 2) : (s.setScreens x).tb = s.tb := rfl
@[simp] theorem State.setScreens_portA (s : State) (x : Vector Screen 2) : (s.setScreens x).portA = s.portA := rfl
@[simp] theorem State.setScreens_portB (s : State) (x : Vector Screen 2) : (s.setScreens x).portB = s.portB := rfl
@[simp] theorem State.setScreens_asm (s : State) (x : Vector Screen 2) : (s.setScreens x).asm = s.asm := rfl
@[simp] theorem State.setScreens_store (s : State) (x : Vector Screen 2) : (s.setScreens x).store = s.store := rfl
@[simp] theorem State.setScreens_corr (s : State) (x : Vector Screen 2) : (s.setScreens x).corr = s.corr := rfl
@[simp] theorem State.setScreens_screens (s : State) (x : Vector Screen 2) : (s.setScreens x).screens = x := rfl
@[simp] theorem State.setScreens_dec (s : State) (x : Vector Screen 2) : (s.setScreens x).dec = s.dec := rfl
@[simp] theorem State.setScreens_link (s : State) (x : Vector Screen 2) : (s.setScreens x).link = s.link := rfl
@[simp] theorem State.setScreens_status (s : State) (x : Vector Screen 2) : (s.setScreens x).status = s.status := rfl
@[simp] theorem State.setScreens_aux (s : State) (x : Vector Screen 2) : (s.setScreens x).aux = s.aux := rfl
@[simp] theorem State.setScreens_staging (s : State) (x : Vector Screen 2) : (s.setScreens x).staging = s.staging := rfl
@[simp] theorem State.setScreens_settings (s : State) (x : Vector Screen 2) : (s.setScreens x).settings = s.settings := rfl
@[simp] theorem State.setScreens_pending (s : State) (x : Vector Screen 2) : (s.setScreens x).pending = s.pending := rfl

/-! ### setDec -/

@[simp] theorem State.setDec_phase (s : State) (x : Decimator) : (s.setDec x).phase = s.phase := rfl
@[simp] theorem State.setDec_tb (s : State) (x : Decimator) : (s.setDec x).tb = s.tb := rfl
@[simp] theorem State.setDec_portA (s : State) (x : Decimator) : (s.setDec x).portA = s.portA := rfl
@[simp] theorem State.setDec_portB (s : State) (x : Decimator) : (s.setDec x).portB = s.portB := rfl
@[simp] theorem State.setDec_asm (s : State) (x : Decimator) : (s.setDec x).asm = s.asm := rfl
@[simp] theorem State.setDec_store (s : State) (x : Decimator) : (s.setDec x).store = s.store := rfl
@[simp] theorem State.setDec_corr (s : State) (x : Decimator) : (s.setDec x).corr = s.corr := rfl
@[simp] theorem State.setDec_screens (s : State) (x : Decimator) : (s.setDec x).screens = s.screens := rfl
@[simp] theorem State.setDec_dec (s : State) (x : Decimator) : (s.setDec x).dec = x := rfl
@[simp] theorem State.setDec_link (s : State) (x : Decimator) : (s.setDec x).link = s.link := rfl
@[simp] theorem State.setDec_status (s : State) (x : Decimator) : (s.setDec x).status = s.status := rfl
@[simp] theorem State.setDec_aux (s : State) (x : Decimator) : (s.setDec x).aux = s.aux := rfl
@[simp] theorem State.setDec_staging (s : State) (x : Decimator) : (s.setDec x).staging = s.staging := rfl
@[simp] theorem State.setDec_settings (s : State) (x : Decimator) : (s.setDec x).settings = s.settings := rfl
@[simp] theorem State.setDec_pending (s : State) (x : Decimator) : (s.setDec x).pending = s.pending := rfl

/-! ### setLink -/

@[simp] theorem State.setLink_phase (s : State) (x : Link) : (s.setLink x).phase = s.phase := rfl
@[simp] theorem State.setLink_tb (s : State) (x : Link) : (s.setLink x).tb = s.tb := rfl
@[simp] theorem State.setLink_portA (s : State) (x : Link) : (s.setLink x).portA = s.portA := rfl
@[simp] theorem State.setLink_portB (s : State) (x : Link) : (s.setLink x).portB = s.portB := rfl
@[simp] theorem State.setLink_asm (s : State) (x : Link) : (s.setLink x).asm = s.asm := rfl
@[simp] theorem State.setLink_store (s : State) (x : Link) : (s.setLink x).store = s.store := rfl
@[simp] theorem State.setLink_corr (s : State) (x : Link) : (s.setLink x).corr = s.corr := rfl
@[simp] theorem State.setLink_screens (s : State) (x : Link) : (s.setLink x).screens = s.screens := rfl
@[simp] theorem State.setLink_dec (s : State) (x : Link) : (s.setLink x).dec = s.dec := rfl
@[simp] theorem State.setLink_link (s : State) (x : Link) : (s.setLink x).link = x := rfl
@[simp] theorem State.setLink_status (s : State) (x : Link) : (s.setLink x).status = s.status := rfl
@[simp] theorem State.setLink_aux (s : State) (x : Link) : (s.setLink x).aux = s.aux := rfl
@[simp] theorem State.setLink_staging (s : State) (x : Link) : (s.setLink x).staging = s.staging := rfl
@[simp] theorem State.setLink_settings (s : State) (x : Link) : (s.setLink x).settings = s.settings := rfl
@[simp] theorem State.setLink_pending (s : State) (x : Link) : (s.setLink x).pending = s.pending := rfl

/-! ### setStatus -/

@[simp] theorem State.setStatus_phase (s : State) (x : StatusUnit) : (s.setStatus x).phase = s.phase := rfl
@[simp] theorem State.setStatus_tb (s : State) (x : StatusUnit) : (s.setStatus x).tb = s.tb := rfl
@[simp] theorem State.setStatus_portA (s : State) (x : StatusUnit) : (s.setStatus x).portA = s.portA := rfl
@[simp] theorem State.setStatus_portB (s : State) (x : StatusUnit) : (s.setStatus x).portB = s.portB := rfl
@[simp] theorem State.setStatus_asm (s : State) (x : StatusUnit) : (s.setStatus x).asm = s.asm := rfl
@[simp] theorem State.setStatus_store (s : State) (x : StatusUnit) : (s.setStatus x).store = s.store := rfl
@[simp] theorem State.setStatus_corr (s : State) (x : StatusUnit) : (s.setStatus x).corr = s.corr := rfl
@[simp] theorem State.setStatus_screens (s : State) (x : StatusUnit) : (s.setStatus x).screens = s.screens := rfl
@[simp] theorem State.setStatus_dec (s : State) (x : StatusUnit) : (s.setStatus x).dec = s.dec := rfl
@[simp] theorem State.setStatus_link (s : State) (x : StatusUnit) : (s.setStatus x).link = s.link := rfl
@[simp] theorem State.setStatus_status (s : State) (x : StatusUnit) : (s.setStatus x).status = x := rfl
@[simp] theorem State.setStatus_aux (s : State) (x : StatusUnit) : (s.setStatus x).aux = s.aux := rfl
@[simp] theorem State.setStatus_staging (s : State) (x : StatusUnit) : (s.setStatus x).staging = s.staging := rfl
@[simp] theorem State.setStatus_settings (s : State) (x : StatusUnit) : (s.setStatus x).settings = s.settings := rfl
@[simp] theorem State.setStatus_pending (s : State) (x : StatusUnit) : (s.setStatus x).pending = s.pending := rfl

/-! ### setAux -/

@[simp] theorem State.setAux_phase (s : State) (x : Auxiliary) : (s.setAux x).phase = s.phase := rfl
@[simp] theorem State.setAux_tb (s : State) (x : Auxiliary) : (s.setAux x).tb = s.tb := rfl
@[simp] theorem State.setAux_portA (s : State) (x : Auxiliary) : (s.setAux x).portA = s.portA := rfl
@[simp] theorem State.setAux_portB (s : State) (x : Auxiliary) : (s.setAux x).portB = s.portB := rfl
@[simp] theorem State.setAux_asm (s : State) (x : Auxiliary) : (s.setAux x).asm = s.asm := rfl
@[simp] theorem State.setAux_store (s : State) (x : Auxiliary) : (s.setAux x).store = s.store := rfl
@[simp] theorem State.setAux_corr (s : State) (x : Auxiliary) : (s.setAux x).corr = s.corr := rfl
@[simp] theorem State.setAux_screens (s : State) (x : Auxiliary) : (s.setAux x).screens = s.screens := rfl
@[simp] theorem State.setAux_dec (s : State) (x : Auxiliary) : (s.setAux x).dec = s.dec := rfl
@[simp] theorem State.setAux_link (s : State) (x : Auxiliary) : (s.setAux x).link = s.link := rfl
@[simp] theorem State.setAux_status (s : State) (x : Auxiliary) : (s.setAux x).status = s.status := rfl
@[simp] theorem State.setAux_aux (s : State) (x : Auxiliary) : (s.setAux x).aux = x := rfl
@[simp] theorem State.setAux_staging (s : State) (x : Auxiliary) : (s.setAux x).staging = s.staging := rfl
@[simp] theorem State.setAux_settings (s : State) (x : Auxiliary) : (s.setAux x).settings = s.settings := rfl
@[simp] theorem State.setAux_pending (s : State) (x : Auxiliary) : (s.setAux x).pending = s.pending := rfl

/-! ### setStaging -/

@[simp] theorem State.setStaging_phase (s : State) (x : Staging) : (s.setStaging x).phase = s.phase := rfl
@[simp] theorem State.setStaging_tb (s : State) (x : Staging) : (s.setStaging x).tb = s.tb := rfl
@[simp] theorem State.setStaging_portA (s : State) (x : Staging) : (s.setStaging x).portA = s.portA := rfl
@[simp] theorem State.setStaging_portB (s : State) (x : Staging) : (s.setStaging x).portB = s.portB := rfl
@[simp] theorem State.setStaging_asm (s : State) (x : Staging) : (s.setStaging x).asm = s.asm := rfl
@[simp] theorem State.setStaging_store (s : State) (x : Staging) : (s.setStaging x).store = s.store := rfl
@[simp] theorem State.setStaging_corr (s : State) (x : Staging) : (s.setStaging x).corr = s.corr := rfl
@[simp] theorem State.setStaging_screens (s : State) (x : Staging) : (s.setStaging x).screens = s.screens := rfl
@[simp] theorem State.setStaging_dec (s : State) (x : Staging) : (s.setStaging x).dec = s.dec := rfl
@[simp] theorem State.setStaging_link (s : State) (x : Staging) : (s.setStaging x).link = s.link := rfl
@[simp] theorem State.setStaging_status (s : State) (x : Staging) : (s.setStaging x).status = s.status := rfl
@[simp] theorem State.setStaging_aux (s : State) (x : Staging) : (s.setStaging x).aux = s.aux := rfl
@[simp] theorem State.setStaging_staging (s : State) (x : Staging) : (s.setStaging x).staging = x := rfl
@[simp] theorem State.setStaging_settings (s : State) (x : Staging) : (s.setStaging x).settings = s.settings := rfl
@[simp] theorem State.setStaging_pending (s : State) (x : Staging) : (s.setStaging x).pending = s.pending := rfl

/-! ### setSettings -/

@[simp] theorem State.setSettings_phase (s : State) (x : SettingsStore) : (s.setSettings x).phase = s.phase := rfl
@[simp] theorem State.setSettings_tb (s : State) (x : SettingsStore) : (s.setSettings x).tb = s.tb := rfl
@[simp] theorem State.setSettings_portA (s : State) (x : SettingsStore) : (s.setSettings x).portA = s.portA := rfl
@[simp] theorem State.setSettings_portB (s : State) (x : SettingsStore) : (s.setSettings x).portB = s.portB := rfl
@[simp] theorem State.setSettings_asm (s : State) (x : SettingsStore) : (s.setSettings x).asm = s.asm := rfl
@[simp] theorem State.setSettings_store (s : State) (x : SettingsStore) : (s.setSettings x).store = s.store := rfl
@[simp] theorem State.setSettings_corr (s : State) (x : SettingsStore) : (s.setSettings x).corr = s.corr := rfl
@[simp] theorem State.setSettings_screens (s : State) (x : SettingsStore) : (s.setSettings x).screens = s.screens := rfl
@[simp] theorem State.setSettings_dec (s : State) (x : SettingsStore) : (s.setSettings x).dec = s.dec := rfl
@[simp] theorem State.setSettings_link (s : State) (x : SettingsStore) : (s.setSettings x).link = s.link := rfl
@[simp] theorem State.setSettings_status (s : State) (x : SettingsStore) : (s.setSettings x).status = s.status := rfl
@[simp] theorem State.setSettings_aux (s : State) (x : SettingsStore) : (s.setSettings x).aux = s.aux := rfl
@[simp] theorem State.setSettings_staging (s : State) (x : SettingsStore) : (s.setSettings x).staging = s.staging := rfl
@[simp] theorem State.setSettings_settings (s : State) (x : SettingsStore) : (s.setSettings x).settings = x := rfl
@[simp] theorem State.setSettings_pending (s : State) (x : SettingsStore) : (s.setSettings x).pending = s.pending := rfl

/-! ### setPending -/

@[simp] theorem State.setPending_phase (s : State) (x : List Instr) : (s.setPending x).phase = s.phase := rfl
@[simp] theorem State.setPending_tb (s : State) (x : List Instr) : (s.setPending x).tb = s.tb := rfl
@[simp] theorem State.setPending_portA (s : State) (x : List Instr) : (s.setPending x).portA = s.portA := rfl
@[simp] theorem State.setPending_portB (s : State) (x : List Instr) : (s.setPending x).portB = s.portB := rfl
@[simp] theorem State.setPending_asm (s : State) (x : List Instr) : (s.setPending x).asm = s.asm := rfl
@[simp] theorem State.setPending_store (s : State) (x : List Instr) : (s.setPending x).store = s.store := rfl
@[simp] theorem State.setPending_corr (s : State) (x : List Instr) : (s.setPending x).corr = s.corr := rfl
@[simp] theorem State.setPending_screens (s : State) (x : List Instr) : (s.setPending x).screens = s.screens := rfl
@[simp] theorem State.setPending_dec (s : State) (x : List Instr) : (s.setPending x).dec = s.dec := rfl
@[simp] theorem State.setPending_link (s : State) (x : List Instr) : (s.setPending x).link = s.link := rfl
@[simp] theorem State.setPending_status (s : State) (x : List Instr) : (s.setPending x).status = s.status := rfl
@[simp] theorem State.setPending_aux (s : State) (x : List Instr) : (s.setPending x).aux = s.aux := rfl
@[simp] theorem State.setPending_staging (s : State) (x : List Instr) : (s.setPending x).staging = s.staging := rfl
@[simp] theorem State.setPending_settings (s : State) (x : List Instr) : (s.setPending x).settings = s.settings := rfl
@[simp] theorem State.setPending_pending (s : State) (x : List Instr) : (s.setPending x).pending = x := rfl

/-! ### setPort -/

@[simp] theorem State.setPort_a (s : State) (x : SensorPort) : s.setPort .a x = s.setPortA x := rfl
@[simp] theorem State.setPort_b (s : State) (x : SensorPort) : s.setPort .b x = s.setPortB x := rfl
@[simp] theorem State.port_a (s : State) : s.port .a = s.portA := rfl
@[simp] theorem State.port_b (s : State) : s.port .b = s.portB := rfl
@[simp] theorem State.setPort_port (s : State) (p : Port) (x : SensorPort) : (s.setPort p x).port p = x := by cases p <;> rfl
theorem State.setPort_other (s : State) (p q : Port) (x : SensorPort) (h : q ≠ p) : (s.setPort p x).port q = s.port q := by
  cases p <;> cases q <;> first | rfl | exact absurd rfl h
@[simp] theorem State.setPort_phase (s : State) (p : Port) (x : SensorPort) : (s.setPort p x).phase = s.phase := by cases p <;> rfl
@[simp] theorem State.setPort_tb (s : State) (p : Port) (x : SensorPort) : (s.setPort p x).tb = s.tb := by cases p <;> rfl
@[simp] theorem State.setPort_asm (s : State) (p : Port) (x : SensorPort) : (s.setPort p x).asm = s.asm := by cases p <;> rfl
@[simp] theorem State.setPort_store (s : State) (p : Port) (x : SensorPort) : (s.setPort p x).store = s.store := by cases p <;> rfl
@[simp] theorem State.setPort_corr (s : State) (p : Port) (x : SensorPort) : (s.setPort p x).corr = s.corr := by cases p <;> rfl
@[simp] theorem State.setPort_screens (s : State) (p : Port) (x : SensorPort) : (s.setPort p x).screens = s.screens := by cases p <;> rfl
@[simp] theorem State.setPort_dec (s : State) (p : Port) (x : SensorPort) : (s.setPort p x).dec = s.dec := by cases p <;> rfl
@[simp] theorem State.setPort_link (s : State) (p : Port) (x : SensorPort) : (s.setPort p x).link = s.link := by cases p <;> rfl
@[simp] theorem State.setPort_status (s : State) (p : Port) (x : SensorPort) : (s.setPort p x).status = s.status := by cases p <;> rfl
@[simp] theorem State.setPort_aux (s : State) (p : Port) (x : SensorPort) : (s.setPort p x).aux = s.aux := by cases p <;> rfl
@[simp] theorem State.setPort_staging (s : State) (p : Port) (x : SensorPort) : (s.setPort p x).staging = s.staging := by cases p <;> rfl
@[simp] theorem State.setPort_settings (s : State) (p : Port) (x : SensorPort) : (s.setPort p x).settings = s.settings := by cases p <;> rfl
@[simp] theorem State.setPort_pending (s : State) (p : Port) (x : SensorPort) : (s.setPort p x).pending = s.pending := by cases p <;> rfl

end Sys2Proof.Machine
end

