-- ==== Sys2Proof/Laws/Ops.lean ====
section
/-! SUPPORT. Laws/Ops: what the shared operations leave unchanged, and what they do to the block they act on. -/

namespace Sys2Proof.Machine

/-! ### State.elapse -/

@[simp] theorem State.elapse_phase (s : State) (n : Nat) : (s.elapse n).phase = s.phase := by unfold State.elapse; split <;> rfl
@[simp] theorem State.elapse_portA (s : State) (n : Nat) : (s.elapse n).portA = s.portA := by unfold State.elapse; split <;> rfl
@[simp] theorem State.elapse_portB (s : State) (n : Nat) : (s.elapse n).portB = s.portB := by unfold State.elapse; split <;> rfl
@[simp] theorem State.elapse_asm (s : State) (n : Nat) : (s.elapse n).asm = s.asm := by unfold State.elapse; split <;> rfl
@[simp] theorem State.elapse_store (s : State) (n : Nat) : (s.elapse n).store = s.store := by unfold State.elapse; split <;> rfl
@[simp] theorem State.elapse_corr (s : State) (n : Nat) : (s.elapse n).corr = s.corr := by unfold State.elapse; split <;> rfl
@[simp] theorem State.elapse_screens (s : State) (n : Nat) : (s.elapse n).screens = s.screens := by unfold State.elapse; split <;> rfl
@[simp] theorem State.elapse_dec (s : State) (n : Nat) : (s.elapse n).dec = s.dec := by unfold State.elapse; split <;> rfl
@[simp] theorem State.elapse_link (s : State) (n : Nat) : (s.elapse n).link = s.link := by unfold State.elapse; split <;> rfl
@[simp] theorem State.elapse_status (s : State) (n : Nat) : (s.elapse n).status = s.status := by unfold State.elapse; split <;> rfl
@[simp] theorem State.elapse_aux (s : State) (n : Nat) : (s.elapse n).aux = s.aux := by unfold State.elapse; split <;> rfl
@[simp] theorem State.elapse_staging (s : State) (n : Nat) : (s.elapse n).staging = s.staging := by unfold State.elapse; split <;> rfl
@[simp] theorem State.elapse_settings (s : State) (n : Nat) : (s.elapse n).settings = s.settings := by unfold State.elapse; split <;> rfl
@[simp] theorem State.elapse_pending (s : State) (n : Nat) : (s.elapse n).pending = s.pending := by unfold State.elapse; split <;> rfl

/-! ### State.elapseTo -/

@[simp] theorem State.elapseTo_phase (s : State) (t : Nat) : (s.elapseTo t).phase = s.phase := State.elapse_phase s _
@[simp] theorem State.elapseTo_portA (s : State) (t : Nat) : (s.elapseTo t).portA = s.portA := State.elapse_portA s _
@[simp] theorem State.elapseTo_portB (s : State) (t : Nat) : (s.elapseTo t).portB = s.portB := State.elapse_portB s _
@[simp] theorem State.elapseTo_asm (s : State) (t : Nat) : (s.elapseTo t).asm = s.asm := State.elapse_asm s _
@[simp] theorem State.elapseTo_store (s : State) (t : Nat) : (s.elapseTo t).store = s.store := State.elapse_store s _
@[simp] theorem State.elapseTo_corr (s : State) (t : Nat) : (s.elapseTo t).corr = s.corr := State.elapse_corr s _
@[simp] theorem State.elapseTo_screens (s : State) (t : Nat) : (s.elapseTo t).screens = s.screens := State.elapse_screens s _
@[simp] theorem State.elapseTo_dec (s : State) (t : Nat) : (s.elapseTo t).dec = s.dec := State.elapse_dec s _
@[simp] theorem State.elapseTo_link (s : State) (t : Nat) : (s.elapseTo t).link = s.link := State.elapse_link s _
@[simp] theorem State.elapseTo_status (s : State) (t : Nat) : (s.elapseTo t).status = s.status := State.elapse_status s _
@[simp] theorem State.elapseTo_aux (s : State) (t : Nat) : (s.elapseTo t).aux = s.aux := State.elapse_aux s _
@[simp] theorem State.elapseTo_staging (s : State) (t : Nat) : (s.elapseTo t).staging = s.staging := State.elapse_staging s _
@[simp] theorem State.elapseTo_settings (s : State) (t : Nat) : (s.elapseTo t).settings = s.settings := State.elapse_settings s _
@[simp] theorem State.elapseTo_pending (s : State) (t : Nat) : (s.elapseTo t).pending = s.pending := State.elapse_pending s _

/-! ### State.elapseToPeriod -/

@[simp] theorem State.elapseToPeriod_phase (s : State) (p : Nat) : (s.elapseToPeriod p).phase = s.phase := State.elapse_phase s _
@[simp] theorem State.elapseToPeriod_portA (s : State) (p : Nat) : (s.elapseToPeriod p).portA = s.portA := State.elapse_portA s _
@[simp] theorem State.elapseToPeriod_portB (s : State) (p : Nat) : (s.elapseToPeriod p).portB = s.portB := State.elapse_portB s _
@[simp] theorem State.elapseToPeriod_asm (s : State) (p : Nat) : (s.elapseToPeriod p).asm = s.asm := State.elapse_asm s _
@[simp] theorem State.elapseToPeriod_store (s : State) (p : Nat) : (s.elapseToPeriod p).store = s.store := State.elapse_store s _
@[simp] theorem State.elapseToPeriod_corr (s : State) (p : Nat) : (s.elapseToPeriod p).corr = s.corr := State.elapse_corr s _
@[simp] theorem State.elapseToPeriod_screens (s : State) (p : Nat) : (s.elapseToPeriod p).screens = s.screens := State.elapse_screens s _
@[simp] theorem State.elapseToPeriod_dec (s : State) (p : Nat) : (s.elapseToPeriod p).dec = s.dec := State.elapse_dec s _
@[simp] theorem State.elapseToPeriod_link (s : State) (p : Nat) : (s.elapseToPeriod p).link = s.link := State.elapse_link s _
@[simp] theorem State.elapseToPeriod_status (s : State) (p : Nat) : (s.elapseToPeriod p).status = s.status := State.elapse_status s _
@[simp] theorem State.elapseToPeriod_aux (s : State) (p : Nat) : (s.elapseToPeriod p).aux = s.aux := State.elapse_aux s _
@[simp] theorem State.elapseToPeriod_staging (s : State) (p : Nat) : (s.elapseToPeriod p).staging = s.staging := State.elapse_staging s _
@[simp] theorem State.elapseToPeriod_settings (s : State) (p : Nat) : (s.elapseToPeriod p).settings = s.settings := State.elapse_settings s _
@[simp] theorem State.elapseToPeriod_pending (s : State) (p : Nat) : (s.elapseToPeriod p).pending = s.pending := State.elapse_pending s _

/-! ### State.setCondition -/

@[simp] theorem State.setCondition_phase (s : State) (c : Condition) : (s.setCondition c).phase = s.phase := rfl
@[simp] theorem State.setCondition_tb (s : State) (c : Condition) : (s.setCondition c).tb = s.tb := rfl
@[simp] theorem State.setCondition_portA (s : State) (c : Condition) : (s.setCondition c).portA = s.portA := rfl
@[simp] theorem State.setCondition_portB (s : State) (c : Condition) : (s.setCondition c).portB = s.portB := rfl
@[simp] theorem State.setCondition_asm (s : State) (c : Condition) : (s.setCondition c).asm = s.asm := rfl
@[simp] theorem State.setCondition_store (s : State) (c : Condition) : (s.setCondition c).store = s.store := rfl
@[simp] theorem State.setCondition_corr (s : State) (c : Condition) : (s.setCondition c).corr = s.corr := rfl
@[simp] theorem State.setCondition_screens (s : State) (c : Condition) : (s.setCondition c).screens = s.screens := rfl
@[simp] theorem State.setCondition_dec (s : State) (c : Condition) : (s.setCondition c).dec = s.dec := rfl
@[simp] theorem State.setCondition_link (s : State) (c : Condition) : (s.setCondition c).link = s.link := rfl
@[simp] theorem State.setCondition_aux (s : State) (c : Condition) : (s.setCondition c).aux = s.aux := rfl
@[simp] theorem State.setCondition_staging (s : State) (c : Condition) : (s.setCondition c).staging = s.staging := rfl
@[simp] theorem State.setCondition_settings (s : State) (c : Condition) : (s.setCondition c).settings = s.settings := rfl
@[simp] theorem State.setCondition_pending (s : State) (c : Condition) : (s.setCondition c).pending = s.pending := rfl

/-! ### State.countBy -/

@[simp] theorem State.countBy_phase (s : State) (c : Counter) (n : Nat) : (s.countBy c n).phase = s.phase := rfl
@[simp] theorem State.countBy_tb (s : State) (c : Counter) (n : Nat) : (s.countBy c n).tb = s.tb := rfl
@[simp] theorem State.countBy_portA (s : State) (c : Counter) (n : Nat) : (s.countBy c n).portA = s.portA := rfl
@[simp] theorem State.countBy_portB (s : State) (c : Counter) (n : Nat) : (s.countBy c n).portB = s.portB := rfl
@[simp] theorem State.countBy_asm (s : State) (c : Counter) (n : Nat) : (s.countBy c n).asm = s.asm := rfl
@[simp] theorem State.countBy_store (s : State) (c : Counter) (n : Nat) : (s.countBy c n).store = s.store := rfl
@[simp] theorem State.countBy_corr (s : State) (c : Counter) (n : Nat) : (s.countBy c n).corr = s.corr := rfl
@[simp] theorem State.countBy_screens (s : State) (c : Counter) (n : Nat) : (s.countBy c n).screens = s.screens := rfl
@[simp] theorem State.countBy_dec (s : State) (c : Counter) (n : Nat) : (s.countBy c n).dec = s.dec := rfl
@[simp] theorem State.countBy_link (s : State) (c : Counter) (n : Nat) : (s.countBy c n).link = s.link := rfl
@[simp] theorem State.countBy_aux (s : State) (c : Counter) (n : Nat) : (s.countBy c n).aux = s.aux := rfl
@[simp] theorem State.countBy_staging (s : State) (c : Counter) (n : Nat) : (s.countBy c n).staging = s.staging := rfl
@[simp] theorem State.countBy_settings (s : State) (c : Counter) (n : Nat) : (s.countBy c n).settings = s.settings := rfl
@[simp] theorem State.countBy_pending (s : State) (c : Counter) (n : Nat) : (s.countBy c n).pending = s.pending := rfl

/-! ### State.count -/

@[simp] theorem State.count_phase (s : State) (c : Counter) : (s.count c).phase = s.phase := rfl
@[simp] theorem State.count_tb (s : State) (c : Counter) : (s.count c).tb = s.tb := rfl
@[simp] theorem State.count_portA (s : State) (c : Counter) : (s.count c).portA = s.portA := rfl
@[simp] theorem State.count_portB (s : State) (c : Counter) : (s.count c).portB = s.portB := rfl
@[simp] theorem State.count_asm (s : State) (c : Counter) : (s.count c).asm = s.asm := rfl
@[simp] theorem State.count_store (s : State) (c : Counter) : (s.count c).store = s.store := rfl
@[simp] theorem State.count_corr (s : State) (c : Counter) : (s.count c).corr = s.corr := rfl
@[simp] theorem State.count_screens (s : State) (c : Counter) : (s.count c).screens = s.screens := rfl
@[simp] theorem State.count_dec (s : State) (c : Counter) : (s.count c).dec = s.dec := rfl
@[simp] theorem State.count_link (s : State) (c : Counter) : (s.count c).link = s.link := rfl
@[simp] theorem State.count_aux (s : State) (c : Counter) : (s.count c).aux = s.aux := rfl
@[simp] theorem State.count_staging (s : State) (c : Counter) : (s.count c).staging = s.staging := rfl
@[simp] theorem State.count_settings (s : State) (c : Counter) : (s.count c).settings = s.settings := rfl
@[simp] theorem State.count_pending (s : State) (c : Counter) : (s.count c).pending = s.pending := rfl

/-! ### State.offerResponse -/

@[simp] theorem State.offerResponse_phase (s : State) (l : List Frame) : (s.offerResponse l).phase = s.phase := rfl
@[simp] theorem State.offerResponse_tb (s : State) (l : List Frame) : (s.offerResponse l).tb = s.tb := rfl
@[simp] theorem State.offerResponse_portA (s : State) (l : List Frame) : (s.offerResponse l).portA = s.portA := rfl
@[simp] theorem State.offerResponse_portB (s : State) (l : List Frame) : (s.offerResponse l).portB = s.portB := rfl
@[simp] theorem State.offerResponse_asm (s : State) (l : List Frame) : (s.offerResponse l).asm = s.asm := rfl
@[simp] theorem State.offerResponse_store (s : State) (l : List Frame) : (s.offerResponse l).store = s.store := rfl
@[simp] theorem State.offerResponse_corr (s : State) (l : List Frame) : (s.offerResponse l).corr = s.corr := rfl
@[simp] theorem State.offerResponse_screens (s : State) (l : List Frame) : (s.offerResponse l).screens = s.screens := rfl
@[simp] theorem State.offerResponse_dec (s : State) (l : List Frame) : (s.offerResponse l).dec = s.dec := rfl
@[simp] theorem State.offerResponse_status (s : State) (l : List Frame) : (s.offerResponse l).status = s.status := rfl
@[simp] theorem State.offerResponse_aux (s : State) (l : List Frame) : (s.offerResponse l).aux = s.aux := rfl
@[simp] theorem State.offerResponse_staging (s : State) (l : List Frame) : (s.offerResponse l).staging = s.staging := rfl
@[simp] theorem State.offerResponse_settings (s : State) (l : List Frame) : (s.offerResponse l).settings = s.settings := rfl
@[simp] theorem State.offerResponse_pending (s : State) (l : List Frame) : (s.offerResponse l).pending = s.pending := rfl

/-! ### State.touchSettings -/

@[simp] theorem State.touchSettings_phase (s : State) : (s.touchSettings).phase = s.phase := rfl
@[simp] theorem State.touchSettings_tb (s : State) : (s.touchSettings).tb = s.tb := rfl
@[simp] theorem State.touchSettings_portA (s : State) : (s.touchSettings).portA = s.portA := rfl
@[simp] theorem State.touchSettings_portB (s : State) : (s.touchSettings).portB = s.portB := rfl
@[simp] theorem State.touchSettings_asm (s : State) : (s.touchSettings).asm = s.asm := rfl
@[simp] theorem State.touchSettings_store (s : State) : (s.touchSettings).store = s.store := rfl
@[simp] theorem State.touchSettings_corr (s : State) : (s.touchSettings).corr = s.corr := rfl
@[simp] theorem State.touchSettings_screens (s : State) : (s.touchSettings).screens = s.screens := rfl
@[simp] theorem State.touchSettings_dec (s : State) : (s.touchSettings).dec = s.dec := rfl
@[simp] theorem State.touchSettings_link (s : State) : (s.touchSettings).link = s.link := rfl
@[simp] theorem State.touchSettings_status (s : State) : (s.touchSettings).status = s.status := rfl
@[simp] theorem State.touchSettings_aux (s : State) : (s.touchSettings).aux = s.aux := rfl
@[simp] theorem State.touchSettings_staging (s : State) : (s.touchSettings).staging = s.staging := rfl
@[simp] theorem State.touchSettings_pending (s : State) : (s.touchSettings).pending = s.pending := rfl

/-! ### State.loseRecord -/

@[simp] theorem State.loseRecord_phase (s : State) (b : Body) : (s.loseRecord b).phase = s.phase := by cases b <;> rfl
@[simp] theorem State.loseRecord_tb (s : State) (b : Body) : (s.loseRecord b).tb = s.tb := by cases b <;> rfl
@[simp] theorem State.loseRecord_portA (s : State) (b : Body) : (s.loseRecord b).portA = s.portA := by cases b <;> rfl
@[simp] theorem State.loseRecord_portB (s : State) (b : Body) : (s.loseRecord b).portB = s.portB := by cases b <;> rfl
@[simp] theorem State.loseRecord_asm (s : State) (b : Body) : (s.loseRecord b).asm = s.asm := by cases b <;> rfl
@[simp] theorem State.loseRecord_store (s : State) (b : Body) : (s.loseRecord b).store = s.store := by cases b <;> rfl
@[simp] theorem State.loseRecord_corr (s : State) (b : Body) : (s.loseRecord b).corr = s.corr := by cases b <;> rfl
@[simp] theorem State.loseRecord_screens (s : State) (b : Body) : (s.loseRecord b).screens = s.screens := by cases b <;> rfl
@[simp] theorem State.loseRecord_dec (s : State) (b : Body) : (s.loseRecord b).dec = s.dec := by cases b <;> rfl
@[simp] theorem State.loseRecord_aux (s : State) (b : Body) : (s.loseRecord b).aux = s.aux := by cases b <;> rfl
@[simp] theorem State.loseRecord_staging (s : State) (b : Body) : (s.loseRecord b).staging = s.staging := by cases b <;> rfl
@[simp] theorem State.loseRecord_settings (s : State) (b : Body) : (s.loseRecord b).settings = s.settings := by cases b <;> rfl
@[simp] theorem State.loseRecord_pending (s : State) (b : Body) : (s.loseRecord b).pending = s.pending := by cases b <;> rfl

/-! ### State.displace -/

@[simp] theorem State.displace_phase (s : State) (m : MinuteRecord) : (s.displace m).phase = s.phase := by unfold State.displace; split <;> simp
@[simp] theorem State.displace_tb (s : State) (m : MinuteRecord) : (s.displace m).tb = s.tb := by unfold State.displace; split <;> simp
@[simp] theorem State.displace_portA (s : State) (m : MinuteRecord) : (s.displace m).portA = s.portA := by unfold State.displace; split <;> simp
@[simp] theorem State.displace_portB (s : State) (m : MinuteRecord) : (s.displace m).portB = s.portB := by unfold State.displace; split <;> simp
@[simp] theorem State.displace_asm (s : State) (m : MinuteRecord) : (s.displace m).asm = s.asm := by unfold State.displace; split <;> simp
@[simp] theorem State.displace_store (s : State) (m : MinuteRecord) : (s.displace m).store = s.store := by unfold State.displace; split <;> simp
@[simp] theorem State.displace_corr (s : State) (m : MinuteRecord) : (s.displace m).corr = s.corr := by unfold State.displace; split <;> simp
@[simp] theorem State.displace_screens (s : State) (m : MinuteRecord) : (s.displace m).screens = s.screens := by unfold State.displace; split <;> simp
@[simp] theorem State.displace_dec (s : State) (m : MinuteRecord) : (s.displace m).dec = s.dec := by unfold State.displace; split <;> simp
@[simp] theorem State.displace_aux (s : State) (m : MinuteRecord) : (s.displace m).aux = s.aux := by unfold State.displace; split <;> simp
@[simp] theorem State.displace_staging (s : State) (m : MinuteRecord) : (s.displace m).staging = s.staging := by unfold State.displace; split <;> simp
@[simp] theorem State.displace_settings (s : State) (m : MinuteRecord) : (s.displace m).settings = s.settings := by unfold State.displace; split <;> simp
@[simp] theorem State.displace_pending (s : State) (m : MinuteRecord) : (s.displace m).pending = s.pending := by unfold State.displace; split <;> simp

/-! ### State.offerData -/

@[simp] theorem State.offerData_phase (s : State) (b : Body) : (s.offerData b).phase = s.phase := by
  unfold State.offerData
  split
  · simp
  · split <;> simp
@[simp] theorem State.offerData_tb (s : State) (b : Body) : (s.offerData b).tb = s.tb := by
  unfold State.offerData
  split
  · simp
  · split <;> simp
@[simp] theorem State.offerData_portA (s : State) (b : Body) : (s.offerData b).portA = s.portA := by
  unfold State.offerData
  split
  · simp
  · split <;> simp
@[simp] theorem State.offerData_portB (s : State) (b : Body) : (s.offerData b).portB = s.portB := by
  unfold State.offerData
  split
  · simp
  · split <;> simp
@[simp] theorem State.offerData_asm (s : State) (b : Body) : (s.offerData b).asm = s.asm := by
  unfold State.offerData
  split
  · simp
  · split <;> simp
@[simp] theorem State.offerData_store (s : State) (b : Body) : (s.offerData b).store = s.store := by
  unfold State.offerData
  split
  · simp
  · split <;> simp
@[simp] theorem State.offerData_corr (s : State) (b : Body) : (s.offerData b).corr = s.corr := by
  unfold State.offerData
  split
  · simp
  · split <;> simp
@[simp] theorem State.offerData_screens (s : State) (b : Body) : (s.offerData b).screens = s.screens := by
  unfold State.offerData
  split
  · simp
  · split <;> simp
@[simp] theorem State.offerData_dec (s : State) (b : Body) : (s.offerData b).dec = s.dec := by
  unfold State.offerData
  split
  · simp
  · split <;> simp
@[simp] theorem State.offerData_aux (s : State) (b : Body) : (s.offerData b).aux = s.aux := by
  unfold State.offerData
  split
  · simp
  · split <;> simp
@[simp] theorem State.offerData_staging (s : State) (b : Body) : (s.offerData b).staging = s.staging := by
  unfold State.offerData
  split
  · simp
  · split <;> simp
@[simp] theorem State.offerData_settings (s : State) (b : Body) : (s.offerData b).settings = s.settings := by
  unfold State.offerData
  split
  · simp
  · split <;> simp
@[simp] theorem State.offerData_pending (s : State) (b : Body) : (s.offerData b).pending = s.pending := by
  unfold State.offerData
  split
  · simp
  · split <;> simp

/-! ### State.offerNotice -/

@[simp] theorem State.offerNotice_phase (s : State) (n : Notice) : (s.offerNotice n).phase = s.phase := State.offerData_phase s _
@[simp] theorem State.offerNotice_tb (s : State) (n : Notice) : (s.offerNotice n).tb = s.tb := State.offerData_tb s _
@[simp] theorem State.offerNotice_portA (s : State) (n : Notice) : (s.offerNotice n).portA = s.portA := State.offerData_portA s _
@[simp] theorem State.offerNotice_portB (s : State) (n : Notice) : (s.offerNotice n).portB = s.portB := State.offerData_portB s _
@[simp] theorem State.offerNotice_asm (s : State) (n : Notice) : (s.offerNotice n).asm = s.asm := State.offerData_asm s _
@[simp] theorem State.offerNotice_store (s : State) (n : Notice) : (s.offerNotice n).store = s.store := State.offerData_store s _
@[simp] theorem State.offerNotice_corr (s : State) (n : Notice) : (s.offerNotice n).corr = s.corr := State.offerData_corr s _
@[simp] theorem State.offerNotice_screens (s : State) (n : Notice) : (s.offerNotice n).screens = s.screens := State.offerData_screens s _
@[simp] theorem State.offerNotice_dec (s : State) (n : Notice) : (s.offerNotice n).dec = s.dec := State.offerData_dec s _
@[simp] theorem State.offerNotice_aux (s : State) (n : Notice) : (s.offerNotice n).aux = s.aux := State.offerData_aux s _
@[simp] theorem State.offerNotice_staging (s : State) (n : Notice) : (s.offerNotice n).staging = s.staging := State.offerData_staging s _
@[simp] theorem State.offerNotice_settings (s : State) (n : Notice) : (s.offerNotice n).settings = s.settings := State.offerData_settings s _
@[simp] theorem State.offerNotice_pending (s : State) (n : Notice) : (s.offerNotice n).pending = s.pending := State.offerData_pending s _

/-! ### State.raiseFault -/

@[simp] theorem State.raiseFault_phase (s : State) (f : RaisedFault) : (s.raiseFault f).phase = s.phase := by simp only [State.raiseFault]; split <;> simp
@[simp] theorem State.raiseFault_tb (s : State) (f : RaisedFault) : (s.raiseFault f).tb = s.tb := by simp only [State.raiseFault]; split <;> simp
@[simp] theorem State.raiseFault_portA (s : State) (f : RaisedFault) : (s.raiseFault f).portA = s.portA := by simp only [State.raiseFault]; split <;> simp
@[simp] theorem State.raiseFault_portB (s : State) (f : RaisedFault) : (s.raiseFault f).portB = s.portB := by simp only [State.raiseFault]; split <;> simp
@[simp] theorem State.raiseFault_asm (s : State) (f : RaisedFault) : (s.raiseFault f).asm = s.asm := by simp only [State.raiseFault]; split <;> simp
@[simp] theorem State.raiseFault_store (s : State) (f : RaisedFault) : (s.raiseFault f).store = s.store := by simp only [State.raiseFault]; split <;> simp
@[simp] theorem State.raiseFault_corr (s : State) (f : RaisedFault) : (s.raiseFault f).corr = s.corr := by simp only [State.raiseFault]; split <;> simp
@[simp] theorem State.raiseFault_screens (s : State) (f : RaisedFault) : (s.raiseFault f).screens = s.screens := by simp only [State.raiseFault]; split <;> simp
@[simp] theorem State.raiseFault_dec (s : State) (f : RaisedFault) : (s.raiseFault f).dec = s.dec := by simp only [State.raiseFault]; split <;> simp
@[simp] theorem State.raiseFault_aux (s : State) (f : RaisedFault) : (s.raiseFault f).aux = s.aux := by simp only [State.raiseFault]; split <;> simp
@[simp] theorem State.raiseFault_staging (s : State) (f : RaisedFault) : (s.raiseFault f).staging = s.staging := by simp only [State.raiseFault]; split <;> simp
@[simp] theorem State.raiseFault_settings (s : State) (f : RaisedFault) : (s.raiseFault f).settings = s.settings := by simp only [State.raiseFault]; split <;> simp
@[simp] theorem State.raiseFault_pending (s : State) (f : RaisedFault) : (s.raiseFault f).pending = s.pending := by simp only [State.raiseFault]; split <;> simp


end Sys2Proof.Machine
end

