-- ==== Sys2Proof/Laws/Frames.lean ====
section
/-! SUPPORT. Laws/Frames: the blocks that each composite operation of the machine leaves untouched. -/

namespace Sys2Proof.Machine

-- One theorem at a time: the stacks of many threads together come near the memory limit of the check.
set_option Elab.async false

/-- What every step of a fold keeps, the fold keeps. -/
theorem foldl_frame {α β γ : Type} (f : β → γ) (g : β → α → β) (h : ∀ b a, f (g b a) = f b) (l : List α) (b : β) :
    f (l.foldl g b) = f b := by
  induction l generalizing b with
  | nil => rfl
  | cons x xs ih => rw [List.foldl_cons, ih, h]

/-! ### dropRequest -/

@[simp] theorem State.dropRequest_phase (s : State) : s.dropRequest.phase = s.phase := rfl
@[simp] theorem State.dropRequest_tb (s : State) : s.dropRequest.tb = s.tb := rfl
@[simp] theorem State.dropRequest_portA (s : State) : s.dropRequest.portA = s.portA := rfl
@[simp] theorem State.dropRequest_portB (s : State) : s.dropRequest.portB = s.portB := rfl
@[simp] theorem State.dropRequest_asm (s : State) : s.dropRequest.asm = s.asm := rfl
@[simp] theorem State.dropRequest_store (s : State) : s.dropRequest.store = s.store := rfl
@[simp] theorem State.dropRequest_corr (s : State) : s.dropRequest.corr = s.corr := rfl
@[simp] theorem State.dropRequest_screens (s : State) : s.dropRequest.screens = s.screens := rfl
@[simp] theorem State.dropRequest_dec (s : State) : s.dropRequest.dec = s.dec := rfl
@[simp] theorem State.dropRequest_status (s : State) : s.dropRequest.status = s.status := rfl
@[simp] theorem State.dropRequest_aux (s : State) : s.dropRequest.aux = s.aux := rfl
@[simp] theorem State.dropRequest_staging (s : State) : s.dropRequest.staging = s.staging := rfl
@[simp] theorem State.dropRequest_settings (s : State) : s.dropRequest.settings = s.settings := rfl
@[simp] theorem State.dropRequest_pending (s : State) : s.dropRequest.pending = s.pending := rfl

/-! ### beginClose -/

@[simp] theorem State.beginClose_phase (s : State) : s.beginClose.phase = s.phase := by unfold State.beginClose; split <;> rfl
@[simp] theorem State.beginClose_tb (s : State) : s.beginClose.tb = s.tb := by unfold State.beginClose; split <;> rfl
@[simp] theorem State.beginClose_portA (s : State) : s.beginClose.portA = s.portA := by unfold State.beginClose; split <;> rfl
@[simp] theorem State.beginClose_portB (s : State) : s.beginClose.portB = s.portB := by unfold State.beginClose; split <;> rfl
@[simp] theorem State.beginClose_store (s : State) : s.beginClose.store = s.store := by unfold State.beginClose; split <;> rfl
@[simp] theorem State.beginClose_corr (s : State) : s.beginClose.corr = s.corr := by unfold State.beginClose; split <;> rfl
@[simp] theorem State.beginClose_screens (s : State) : s.beginClose.screens = s.screens := by unfold State.beginClose; split <;> rfl
@[simp] theorem State.beginClose_dec (s : State) : s.beginClose.dec = s.dec := by unfold State.beginClose; split <;> rfl
@[simp] theorem State.beginClose_link (s : State) : s.beginClose.link = s.link := by unfold State.beginClose; split <;> rfl
@[simp] theorem State.beginClose_status (s : State) : s.beginClose.status = s.status := by unfold State.beginClose; split <;> rfl
@[simp] theorem State.beginClose_aux (s : State) : s.beginClose.aux = s.aux := by unfold State.beginClose; split <;> rfl
@[simp] theorem State.beginClose_staging (s : State) : s.beginClose.staging = s.staging := by unfold State.beginClose; split <;> rfl
@[simp] theorem State.beginClose_settings (s : State) : s.beginClose.settings = s.settings := by unfold State.beginClose; split <;> rfl
@[simp] theorem State.beginClose_pending (s : State) : s.beginClose.pending = s.pending := by unfold State.beginClose; split <;> rfl

/-! ### issueTick -/

@[simp] theorem State.issueTick_phase (s : State) : s.issueTick.phase = s.phase := by simp [State.issueTick]
@[simp] theorem State.issueTick_portA (s : State) : s.issueTick.portA = s.portA := by simp [State.issueTick]
@[simp] theorem State.issueTick_portB (s : State) : s.issueTick.portB = s.portB := by simp [State.issueTick]
@[simp] theorem State.issueTick_store (s : State) : s.issueTick.store = s.store := by simp [State.issueTick]
@[simp] theorem State.issueTick_corr (s : State) : s.issueTick.corr = s.corr := by simp [State.issueTick]
@[simp] theorem State.issueTick_screens (s : State) : s.issueTick.screens = s.screens := by simp [State.issueTick]
@[simp] theorem State.issueTick_dec (s : State) : s.issueTick.dec = s.dec := by simp [State.issueTick]
@[simp] theorem State.issueTick_link (s : State) : s.issueTick.link = s.link := by simp [State.issueTick]
@[simp] theorem State.issueTick_status (s : State) : s.issueTick.status = s.status := by simp [State.issueTick]
@[simp] theorem State.issueTick_aux (s : State) : s.issueTick.aux = s.aux := by simp [State.issueTick]
@[simp] theorem State.issueTick_staging (s : State) : s.issueTick.staging = s.staging := by simp [State.issueTick]
@[simp] theorem State.issueTick_settings (s : State) : s.issueTick.settings = s.settings := by simp [State.issueTick]
@[simp] theorem State.issueTick_pending (s : State) : s.issueTick.pending = s.pending := by simp [State.issueTick]

/-! ### timebaseNotice -/

@[simp] theorem State.timebaseNotice_phase (s : State) (c : TimebaseCause) (d : Discipline) (e : Option Int) : (s.timebaseNotice c d e).phase = s.phase := by simp [State.timebaseNotice]
@[simp] theorem State.timebaseNotice_tb (s : State) (c : TimebaseCause) (d : Discipline) (e : Option Int) : (s.timebaseNotice c d e).tb = s.tb := by simp [State.timebaseNotice]
@[simp] theorem State.timebaseNotice_portA (s : State) (c : TimebaseCause) (d : Discipline) (e : Option Int) : (s.timebaseNotice c d e).portA = s.portA := by simp [State.timebaseNotice]
@[simp] theorem State.timebaseNotice_portB (s : State) (c : TimebaseCause) (d : Discipline) (e : Option Int) : (s.timebaseNotice c d e).portB = s.portB := by simp [State.timebaseNotice]
@[simp] theorem State.timebaseNotice_asm (s : State) (c : TimebaseCause) (d : Discipline) (e : Option Int) : (s.timebaseNotice c d e).asm = s.asm := by simp [State.timebaseNotice]
@[simp] theorem State.timebaseNotice_store (s : State) (c : TimebaseCause) (d : Discipline) (e : Option Int) : (s.timebaseNotice c d e).store = s.store := by simp [State.timebaseNotice]
@[simp] theorem State.timebaseNotice_corr (s : State) (c : TimebaseCause) (d : Discipline) (e : Option Int) : (s.timebaseNotice c d e).corr = s.corr := by simp [State.timebaseNotice]
@[simp] theorem State.timebaseNotice_screens (s : State) (c : TimebaseCause) (d : Discipline) (e : Option Int) : (s.timebaseNotice c d e).screens = s.screens := by simp [State.timebaseNotice]
@[simp] theorem State.timebaseNotice_dec (s : State) (c : TimebaseCause) (d : Discipline) (e : Option Int) : (s.timebaseNotice c d e).dec = s.dec := by simp [State.timebaseNotice]
@[simp] theorem State.timebaseNotice_aux (s : State) (c : TimebaseCause) (d : Discipline) (e : Option Int) : (s.timebaseNotice c d e).aux = s.aux := by simp [State.timebaseNotice]
@[simp] theorem State.timebaseNotice_staging (s : State) (c : TimebaseCause) (d : Discipline) (e : Option Int) : (s.timebaseNotice c d e).staging = s.staging := by simp [State.timebaseNotice]
@[simp] theorem State.timebaseNotice_settings (s : State) (c : TimebaseCause) (d : Discipline) (e : Option Int) : (s.timebaseNotice c d e).settings = s.settings := by simp [State.timebaseNotice]
@[simp] theorem State.timebaseNotice_pending (s : State) (c : TimebaseCause) (d : Discipline) (e : Option Int) : (s.timebaseNotice c d e).pending = s.pending := by simp [State.timebaseNotice]

/-! ### markTimebase -/

@[simp] theorem State.markTimebase_phase (s : State) (n : Num32) : (s.markTimebase n).phase = s.phase := by
  unfold State.markTimebase; simp only []; split <;> simp
@[simp] theorem State.markTimebase_portA (s : State) (n : Num32) : (s.markTimebase n).portA = s.portA := by
  unfold State.markTimebase; simp only []; split <;> simp
@[simp] theorem State.markTimebase_portB (s : State) (n : Num32) : (s.markTimebase n).portB = s.portB := by
  unfold State.markTimebase; simp only []; split <;> simp
@[simp] theorem State.markTimebase_asm (s : State) (n : Num32) : (s.markTimebase n).asm = s.asm := by
  unfold State.markTimebase; simp only []; split <;> simp
@[simp] theorem State.markTimebase_store (s : State) (n : Num32) : (s.markTimebase n).store = s.store := by
  unfold State.markTimebase; simp only []; split <;> simp
@[simp] theorem State.markTimebase_corr (s : State) (n : Num32) : (s.markTimebase n).corr = s.corr := by
  unfold State.markTimebase; simp only []; split <;> simp
@[simp] theorem State.markTimebase_screens (s : State) (n : Num32) : (s.markTimebase n).screens = s.screens := by
  unfold State.markTimebase; simp only []; split <;> simp
@[simp] theorem State.markTimebase_dec (s : State) (n : Num32) : (s.markTimebase n).dec = s.dec := by
  unfold State.markTimebase; simp only []; split <;> simp
@[simp] theorem State.markTimebase_aux (s : State) (n : Num32) : (s.markTimebase n).aux = s.aux := by
  unfold State.markTimebase; simp only []; split <;> simp
@[simp] theorem State.markTimebase_staging (s : State) (n : Num32) : (s.markTimebase n).staging = s.staging := by
  unfold State.markTimebase; simp only []; split <;> simp
@[simp] theorem State.markTimebase_settings (s : State) (n : Num32) : (s.markTimebase n).settings = s.settings := by
  unfold State.markTimebase; simp only []; split <;> simp
@[simp] theorem State.markTimebase_pending (s : State) (n : Num32) : (s.markTimebase n).pending = s.pending := by
  unfold State.markTimebase; simp only []; split <;> simp

/-! ### raiseLines -/

@[simp] theorem State.raiseLines_phase (s : State) : s.raiseLines.phase = s.phase := rfl
@[simp] theorem State.raiseLines_tb (s : State) : s.raiseLines.tb = s.tb := rfl
@[simp] theorem State.raiseLines_portA (s : State) : s.raiseLines.portA = s.portA := rfl
@[simp] theorem State.raiseLines_portB (s : State) : s.raiseLines.portB = s.portB := rfl
@[simp] theorem State.raiseLines_asm (s : State) : s.raiseLines.asm = s.asm := rfl
@[simp] theorem State.raiseLines_store (s : State) : s.raiseLines.store = s.store := rfl
@[simp] theorem State.raiseLines_corr (s : State) : s.raiseLines.corr = s.corr := rfl
@[simp] theorem State.raiseLines_screens (s : State) : s.raiseLines.screens = s.screens := rfl
@[simp] theorem State.raiseLines_dec (s : State) : s.raiseLines.dec = s.dec := rfl
@[simp] theorem State.raiseLines_link (s : State) : s.raiseLines.link = s.link := rfl
@[simp] theorem State.raiseLines_status (s : State) : s.raiseLines.status = s.status := rfl
@[simp] theorem State.raiseLines_staging (s : State) : s.raiseLines.staging = s.staging := rfl
@[simp] theorem State.raiseLines_settings (s : State) : s.raiseLines.settings = s.settings := rfl
@[simp] theorem State.raiseLines_pending (s : State) : s.raiseLines.pending = s.pending := rfl

/-! ### applyCommit -/

@[simp] theorem State.applyCommit_phase (s : State) (n : Num32) : (s.applyCommit n).phase = s.phase := by simp [State.applyCommit]
@[simp] theorem State.applyCommit_tb (s : State) (n : Num32) : (s.applyCommit n).tb = s.tb := by simp [State.applyCommit]
@[simp] theorem State.applyCommit_portA (s : State) (n : Num32) : (s.applyCommit n).portA = s.portA := by simp [State.applyCommit]
@[simp] theorem State.applyCommit_portB (s : State) (n : Num32) : (s.applyCommit n).portB = s.portB := by simp [State.applyCommit]
@[simp] theorem State.applyCommit_asm (s : State) (n : Num32) : (s.applyCommit n).asm = s.asm := by simp [State.applyCommit]
@[simp] theorem State.applyCommit_store (s : State) (n : Num32) : (s.applyCommit n).store = s.store := by simp [State.applyCommit]
@[simp] theorem State.applyCommit_corr (s : State) (n : Num32) : (s.applyCommit n).corr = s.corr := by simp [State.applyCommit]
@[simp] theorem State.applyCommit_screens (s : State) (n : Num32) : (s.applyCommit n).screens = s.screens := by simp [State.applyCommit]
@[simp] theorem State.applyCommit_dec (s : State) (n : Num32) : (s.applyCommit n).dec = s.dec := by simp [State.applyCommit]
@[simp] theorem State.applyCommit_aux (s : State) (n : Num32) : (s.applyCommit n).aux = s.aux := by simp [State.applyCommit]
@[simp] theorem State.applyCommit_pending (s : State) (n : Num32) : (s.applyCommit n).pending = s.pending := by simp [State.applyCommit]

/-! ### commandRestart -/

@[simp] theorem State.commandRestart_phase (s : State) : s.commandRestart.phase = s.phase := by simp [State.commandRestart]
@[simp] theorem State.commandRestart_store (s : State) : s.commandRestart.store = s.store := by simp [State.commandRestart]
@[simp] theorem State.commandRestart_aux (s : State) : s.commandRestart.aux = s.aux := by simp [State.commandRestart]
@[simp] theorem State.commandRestart_pending (s : State) : s.commandRestart.pending = s.pending := by simp [State.commandRestart]

/-! ### scheduledWork -/

@[simp] theorem State.scheduledWork_phase (s : State) : s.scheduledWork.phase = s.phase := by
  unfold State.scheduledWork; split_ifs <;> simp
@[simp] theorem State.scheduledWork_store (s : State) : s.scheduledWork.store = s.store := by
  unfold State.scheduledWork; split_ifs <;> simp
@[simp] theorem State.scheduledWork_aux (s : State) : s.scheduledWork.aux = s.aux := by
  unfold State.scheduledWork; split_ifs <;> simp
@[simp] theorem State.scheduledWork_pending (s : State) : s.scheduledWork.pending = s.pending := by
  unfold State.scheduledWork; split_ifs <;> simp

/-! ### markConsumers -/

@[simp] theorem State.markConsumers_phase (s : State) (a b : Bool) : (s.markConsumers a b).phase = s.phase := by
  unfold State.markConsumers; simp only [State.issueTick_phase, State.setDec_phase]; split_ifs <;> simp
@[simp] theorem State.markConsumers_store (s : State) (a b : Bool) : (s.markConsumers a b).store = s.store := by
  unfold State.markConsumers; simp only [State.issueTick_store, State.setDec_store]; split_ifs <;> simp
@[simp] theorem State.markConsumers_pending (s : State) (a b : Bool) : (s.markConsumers a b).pending = s.pending := by
  unfold State.markConsumers; simp only [State.issueTick_pending, State.setDec_pending]; split_ifs <;> simp

/-! ### makeMark -/

@[simp] theorem State.makeMark_phase (s : State) (n : Num32) (a b : Bool) : (s.makeMark n a b).phase = s.phase := by simp [State.makeMark]
@[simp] theorem State.makeMark_store (s : State) (n : Num32) (a b : Bool) : (s.makeMark n a b).store = s.store := by simp [State.makeMark]
@[simp] theorem State.makeMark_pending (s : State) (n : Num32) (a b : Bool) : (s.makeMark n a b).pending = s.pending := by simp [State.makeMark]

/-! ### regularMark -/

@[simp] theorem State.regularMark_phase (s : State) : s.regularMark.phase = s.phase := by unfold State.regularMark; split <;> simp
@[simp] theorem State.regularMark_store (s : State) : s.regularMark.store = s.store := by unfold State.regularMark; split <;> simp
@[simp] theorem State.regularMark_pending (s : State) : s.regularMark.pending = s.pending := by unfold State.regularMark; split <;> simp

/-! ### dueMark, edgeMoment -/

@[simp] theorem State.dueMark_phase (s : State) : s.dueMark.phase = s.phase := by simp [State.dueMark]
@[simp] theorem State.dueMark_store (s : State) : s.dueMark.store = s.store := by simp [State.dueMark]
@[simp] theorem State.dueMark_pending (s : State) : s.dueMark.pending = s.pending := by simp [State.dueMark]
@[simp] theorem State.edgeMoment_phase (s : State) (n : Nat) : (s.edgeMoment n).phase = s.phase := by
  unfold State.edgeMoment; split <;> simp
@[simp] theorem State.edgeMoment_store (s : State) (n : Nat) : (s.edgeMoment n).store = s.store := by
  unfold State.edgeMoment; split <;> simp
@[simp] theorem State.edgeMoment_pending (s : State) (n : Nat) : (s.edgeMoment n).pending = s.pending := by
  unfold State.edgeMoment; split <;> simp

/-- Before the due mark an edge finds the state with the time passed. -/
theorem State.edgeMoment_of_lt {s : State} {n : Nat} (h : s.tb.period + n < s.tb.length) : s.edgeMoment n = s.elapse n :=
  if_neg (by simp [h])

/-- Before the first mark an edge finds the state with the time passed. -/
theorem State.edgeMoment_of_not_running {s : State} {n : Nat} (h : s.phase ≠ .running) : s.edgeMoment n = s.elapse n :=
  if_neg (by simp [State.running, h])

/-- At or after the due mark an edge finds the state that the mark leaves. -/
theorem State.edgeMoment_of_le {s : State} {n : Nat} (hr : s.phase = .running) (h : s.tb.length ≤ s.tb.period + n) :
    s.edgeMoment n = s.dueMark.elapse (n - (s.tb.length - s.tb.period)) :=
  if_pos (by simp [State.running, hr, h])

/-! ### firstMark -/

@[simp] theorem State.firstMark_store (s : State) : s.firstMark.store = s.store := by simp [State.firstMark]
@[simp] theorem State.firstMark_pending (s : State) : s.firstMark.pending = s.pending := by simp [State.firstMark]

/-! ### stepEdge -/

@[simp] theorem State.stepEdge_phase (s : State) (e : Int) (l : Option Num32) : (s.stepEdge e l).phase = s.phase := by
  unfold State.stepEdge; simp only []; split <;> simp
@[simp] theorem State.stepEdge_store (s : State) (e : Int) (l : Option Num32) : (s.stepEdge e l).store = s.store := by
  unfold State.stepEdge; simp only []; split <;> simp
@[simp] theorem State.stepEdge_pending (s : State) (e : Int) (l : Option Num32) : (s.stepEdge e l).pending = s.pending := by
  unfold State.stepEdge; simp only []; split <;> simp

/-! ### consumeLabel -/

@[simp] theorem State.consumeLabel_phase (s : State) (a : Bool) (e : Int) (l : Option Num32) : (s.consumeLabel a e l).phase = s.phase := by
  unfold State.consumeLabel; split <;> (try split_ifs) <;> simp
@[simp] theorem State.consumeLabel_portA (s : State) (a : Bool) (e : Int) (l : Option Num32) : (s.consumeLabel a e l).portA = s.portA := by
  unfold State.consumeLabel; split <;> (try split_ifs) <;> simp
@[simp] theorem State.consumeLabel_portB (s : State) (a : Bool) (e : Int) (l : Option Num32) : (s.consumeLabel a e l).portB = s.portB := by
  unfold State.consumeLabel; split <;> (try split_ifs) <;> simp
@[simp] theorem State.consumeLabel_asm (s : State) (a : Bool) (e : Int) (l : Option Num32) : (s.consumeLabel a e l).asm = s.asm := by
  unfold State.consumeLabel; split <;> (try split_ifs) <;> simp
@[simp] theorem State.consumeLabel_store (s : State) (a : Bool) (e : Int) (l : Option Num32) : (s.consumeLabel a e l).store = s.store := by
  unfold State.consumeLabel; split <;> (try split_ifs) <;> simp
@[simp] theorem State.consumeLabel_corr (s : State) (a : Bool) (e : Int) (l : Option Num32) : (s.consumeLabel a e l).corr = s.corr := by
  unfold State.consumeLabel; split <;> (try split_ifs) <;> simp
@[simp] theorem State.consumeLabel_screens (s : State) (a : Bool) (e : Int) (l : Option Num32) : (s.consumeLabel a e l).screens = s.screens := by
  unfold State.consumeLabel; split <;> (try split_ifs) <;> simp
@[simp] theorem State.consumeLabel_aux (s : State) (a : Bool) (e : Int) (l : Option Num32) : (s.consumeLabel a e l).aux = s.aux := by
  unfold State.consumeLabel; split <;> (try split_ifs) <;> simp
@[simp] theorem State.consumeLabel_staging (s : State) (a : Bool) (e : Int) (l : Option Num32) : (s.consumeLabel a e l).staging = s.staging := by
  unfold State.consumeLabel; split <;> (try split_ifs) <;> simp
@[simp] theorem State.consumeLabel_settings (s : State) (a : Bool) (e : Int) (l : Option Num32) : (s.consumeLabel a e l).settings = s.settings := by
  unfold State.consumeLabel; split <;> (try split_ifs) <;> simp
@[simp] theorem State.consumeLabel_pending (s : State) (a : Bool) (e : Int) (l : Option Num32) : (s.consumeLabel a e l).pending = s.pending := by
  unfold State.consumeLabel; split <;> (try split_ifs) <;> simp

/-! ### reportChange -/

@[simp] theorem State.reportChange_phase (s : State) (d : Discipline) (e : Option Int) : (s.reportChange d e).phase = s.phase := by
  unfold State.reportChange; split <;> simp
@[simp] theorem State.reportChange_tb (s : State) (d : Discipline) (e : Option Int) : (s.reportChange d e).tb = s.tb := by
  unfold State.reportChange; split <;> simp
@[simp] theorem State.reportChange_portA (s : State) (d : Discipline) (e : Option Int) : (s.reportChange d e).portA = s.portA := by
  unfold State.reportChange; split <;> simp
@[simp] theorem State.reportChange_portB (s : State) (d : Discipline) (e : Option Int) : (s.reportChange d e).portB = s.portB := by
  unfold State.reportChange; split <;> simp
@[simp] theorem State.reportChange_asm (s : State) (d : Discipline) (e : Option Int) : (s.reportChange d e).asm = s.asm := by
  unfold State.reportChange; split <;> simp
@[simp] theorem State.reportChange_store (s : State) (d : Discipline) (e : Option Int) : (s.reportChange d e).store = s.store := by
  unfold State.reportChange; split <;> simp
@[simp] theorem State.reportChange_corr (s : State) (d : Discipline) (e : Option Int) : (s.reportChange d e).corr = s.corr := by
  unfold State.reportChange; split <;> simp
@[simp] theorem State.reportChange_screens (s : State) (d : Discipline) (e : Option Int) : (s.reportChange d e).screens = s.screens := by
  unfold State.reportChange; split <;> simp
@[simp] theorem State.reportChange_dec (s : State) (d : Discipline) (e : Option Int) : (s.reportChange d e).dec = s.dec := by
  unfold State.reportChange; split <;> simp
@[simp] theorem State.reportChange_aux (s : State) (d : Discipline) (e : Option Int) : (s.reportChange d e).aux = s.aux := by
  unfold State.reportChange; split <;> simp
@[simp] theorem State.reportChange_staging (s : State) (d : Discipline) (e : Option Int) : (s.reportChange d e).staging = s.staging := by
  unfold State.reportChange; split <;> simp
@[simp] theorem State.reportChange_settings (s : State) (d : Discipline) (e : Option Int) : (s.reportChange d e).settings = s.settings := by
  unfold State.reportChange; split <;> simp
@[simp] theorem State.reportChange_pending (s : State) (d : Discipline) (e : Option Int) : (s.reportChange d e).pending = s.pending := by
  unfold State.reportChange; split <;> simp

/-! ### takeEdge -/

@[simp] theorem State.takeEdge_phase (s : State) : s.takeEdge.phase = s.phase := by unfold State.takeEdge; simp only []; split <;> simp
@[simp] theorem State.takeEdge_store (s : State) : s.takeEdge.store = s.store := by unfold State.takeEdge; simp only []; split <;> simp
@[simp] theorem State.takeEdge_pending (s : State) : s.takeEdge.pending = s.pending := by unfold State.takeEdge; simp only []; split <;> simp

/-! ### missMark -/

@[simp] theorem State.missMark_phase (s : State) : s.missMark.phase = s.phase := by unfold State.missMark; simp only []; split_ifs <;> simp
@[simp] theorem State.missMark_portA (s : State) : s.missMark.portA = s.portA := by unfold State.missMark; simp only []; split_ifs <;> simp
@[simp] theorem State.missMark_portB (s : State) : s.missMark.portB = s.portB := by unfold State.missMark; simp only []; split_ifs <;> simp
@[simp] theorem State.missMark_asm (s : State) : s.missMark.asm = s.asm := by unfold State.missMark; simp only []; split_ifs <;> simp
@[simp] theorem State.missMark_store (s : State) : s.missMark.store = s.store := by unfold State.missMark; simp only []; split_ifs <;> simp
@[simp] theorem State.missMark_corr (s : State) : s.missMark.corr = s.corr := by unfold State.missMark; simp only []; split_ifs <;> simp
@[simp] theorem State.missMark_screens (s : State) : s.missMark.screens = s.screens := by unfold State.missMark; simp only []; split_ifs <;> simp
@[simp] theorem State.missMark_dec (s : State) : s.missMark.dec = s.dec := by unfold State.missMark; simp only []; split_ifs <;> simp
@[simp] theorem State.missMark_aux (s : State) : s.missMark.aux = s.aux := by unfold State.missMark; simp only []; split_ifs <;> simp
@[simp] theorem State.missMark_staging (s : State) : s.missMark.staging = s.staging := by unfold State.missMark; simp only []; split_ifs <;> simp
@[simp] theorem State.missMark_settings (s : State) : s.missMark.settings = s.settings := by unfold State.missMark; simp only []; split_ifs <;> simp
@[simp] theorem State.missMark_pending (s : State) : s.missMark.pending = s.pending := by unfold State.missMark; simp only []; split_ifs <;> simp

/-! ### raiseFrameCheck -/

@[simp] theorem State.raiseFrameCheck_phase (s : State) (p : Port) (e : FifoEntry) : (s.raiseFrameCheck p e).phase = s.phase := by simp [State.raiseFrameCheck]
@[simp] theorem State.raiseFrameCheck_tb (s : State) (p : Port) (e : FifoEntry) : (s.raiseFrameCheck p e).tb = s.tb := by simp [State.raiseFrameCheck]
@[simp] theorem State.raiseFrameCheck_portA (s : State) (p : Port) (e : FifoEntry) : (s.raiseFrameCheck p e).portA = s.portA := by simp [State.raiseFrameCheck]
@[simp] theorem State.raiseFrameCheck_portB (s : State) (p : Port) (e : FifoEntry) : (s.raiseFrameCheck p e).portB = s.portB := by simp [State.raiseFrameCheck]
@[simp] theorem State.raiseFrameCheck_asm (s : State) (p : Port) (e : FifoEntry) : (s.raiseFrameCheck p e).asm = s.asm := by simp [State.raiseFrameCheck]
@[simp] theorem State.raiseFrameCheck_store (s : State) (p : Port) (e : FifoEntry) : (s.raiseFrameCheck p e).store = s.store := by simp [State.raiseFrameCheck]
@[simp] theorem State.raiseFrameCheck_corr (s : State) (p : Port) (e : FifoEntry) : (s.raiseFrameCheck p e).corr = s.corr := by simp [State.raiseFrameCheck]
@[simp] theorem State.raiseFrameCheck_screens (s : State) (p : Port) (e : FifoEntry) : (s.raiseFrameCheck p e).screens = s.screens := by simp [State.raiseFrameCheck]
@[simp] theorem State.raiseFrameCheck_dec (s : State) (p : Port) (e : FifoEntry) : (s.raiseFrameCheck p e).dec = s.dec := by simp [State.raiseFrameCheck]
@[simp] theorem State.raiseFrameCheck_aux (s : State) (p : Port) (e : FifoEntry) : (s.raiseFrameCheck p e).aux = s.aux := by simp [State.raiseFrameCheck]
@[simp] theorem State.raiseFrameCheck_staging (s : State) (p : Port) (e : FifoEntry) : (s.raiseFrameCheck p e).staging = s.staging := by simp [State.raiseFrameCheck]
@[simp] theorem State.raiseFrameCheck_settings (s : State) (p : Port) (e : FifoEntry) : (s.raiseFrameCheck p e).settings = s.settings := by simp [State.raiseFrameCheck]
@[simp] theorem State.raiseFrameCheck_pending (s : State) (p : Port) (e : FifoEntry) : (s.raiseFrameCheck p e).pending = s.pending := by simp [State.raiseFrameCheck]

/-! ### haltPort -/

@[simp] theorem State.haltPort_phase (s : State) (p : Port) (e : FifoEntry) : (s.haltPort p e).phase = s.phase := by simp [State.haltPort]
@[simp] theorem State.haltPort_tb (s : State) (p : Port) (e : FifoEntry) : (s.haltPort p e).tb = s.tb := by simp [State.haltPort]
@[simp] theorem State.haltPort_asm (s : State) (p : Port) (e : FifoEntry) : (s.haltPort p e).asm = s.asm := by simp [State.haltPort]
@[simp] theorem State.haltPort_store (s : State) (p : Port) (e : FifoEntry) : (s.haltPort p e).store = s.store := by simp [State.haltPort]
@[simp] theorem State.haltPort_corr (s : State) (p : Port) (e : FifoEntry) : (s.haltPort p e).corr = s.corr := by simp [State.haltPort]
@[simp] theorem State.haltPort_screens (s : State) (p : Port) (e : FifoEntry) : (s.haltPort p e).screens = s.screens := by simp [State.haltPort]
@[simp] theorem State.haltPort_dec (s : State) (p : Port) (e : FifoEntry) : (s.haltPort p e).dec = s.dec := by simp [State.haltPort]
@[simp] theorem State.haltPort_aux (s : State) (p : Port) (e : FifoEntry) : (s.haltPort p e).aux = s.aux := by simp [State.haltPort]
@[simp] theorem State.haltPort_staging (s : State) (p : Port) (e : FifoEntry) : (s.haltPort p e).staging = s.staging := by simp [State.haltPort]
@[simp] theorem State.haltPort_settings (s : State) (p : Port) (e : FifoEntry) : (s.haltPort p e).settings = s.settings := by simp [State.haltPort]
@[simp] theorem State.haltPort_pending (s : State) (p : Port) (e : FifoEntry) : (s.haltPort p e).pending = s.pending := by simp [State.haltPort]

/-! ### frameArrives -/

@[simp] theorem State.frameArrives_phase (s : State) (p : Port) (b : List Byte) : (s.frameArrives p b).phase = s.phase := by
  unfold State.frameArrives; simp only []; split_ifs <;> (try split) <;> simp
@[simp] theorem State.frameArrives_tb (s : State) (p : Port) (b : List Byte) : (s.frameArrives p b).tb = s.tb := by
  unfold State.frameArrives; simp only []; split_ifs <;> (try split) <;> simp
@[simp] theorem State.frameArrives_asm (s : State) (p : Port) (b : List Byte) : (s.frameArrives p b).asm = s.asm := by
  unfold State.frameArrives; simp only []; split_ifs <;> (try split) <;> simp
@[simp] theorem State.frameArrives_store (s : State) (p : Port) (b : List Byte) : (s.frameArrives p b).store = s.store := by
  unfold State.frameArrives; simp only []; split_ifs <;> (try split) <;> simp
@[simp] theorem State.frameArrives_corr (s : State) (p : Port) (b : List Byte) : (s.frameArrives p b).corr = s.corr := by
  unfold State.frameArrives; simp only []; split_ifs <;> (try split) <;> simp
@[simp] theorem State.frameArrives_screens (s : State) (p : Port) (b : List Byte) : (s.frameArrives p b).screens = s.screens := by
  unfold State.frameArrives; simp only []; split_ifs <;> (try split) <;> simp
@[simp] theorem State.frameArrives_dec (s : State) (p : Port) (b : List Byte) : (s.frameArrives p b).dec = s.dec := by
  unfold State.frameArrives; simp only []; split_ifs <;> (try split) <;> simp
@[simp] theorem State.frameArrives_aux (s : State) (p : Port) (b : List Byte) : (s.frameArrives p b).aux = s.aux := by
  unfold State.frameArrives; simp only []; split_ifs <;> (try split) <;> simp
@[simp] theorem State.frameArrives_staging (s : State) (p : Port) (b : List Byte) : (s.frameArrives p b).staging = s.staging := by
  unfold State.frameArrives; simp only []; split_ifs <;> (try split) <;> simp
@[simp] theorem State.frameArrives_settings (s : State) (p : Port) (b : List Byte) : (s.frameArrives p b).settings = s.settings := by
  unfold State.frameArrives; simp only []; split_ifs <;> (try split) <;> simp
@[simp] theorem State.frameArrives_pending (s : State) (p : Port) (b : List Byte) : (s.frameArrives p b).pending = s.pending := by
  unfold State.frameArrives; simp only []; split_ifs <;> (try split) <;> simp

/-! ### portByte -/

@[simp] theorem State.portByte_phase (s : State) (p : Port) (b : Byte) : (s.portByte p b).phase = s.phase := by
  unfold State.portByte; simp only []; split <;> split_ifs <;> simp
@[simp] theorem State.portByte_tb (s : State) (p : Port) (b : Byte) : (s.portByte p b).tb = s.tb := by
  unfold State.portByte; simp only []; split <;> split_ifs <;> simp
@[simp] theorem State.portByte_asm (s : State) (p : Port) (b : Byte) : (s.portByte p b).asm = s.asm := by
  unfold State.portByte; simp only []; split <;> split_ifs <;> simp
@[simp] theorem State.portByte_store (s : State) (p : Port) (b : Byte) : (s.portByte p b).store = s.store := by
  unfold State.portByte; simp only []; split <;> split_ifs <;> simp
@[simp] theorem State.portByte_corr (s : State) (p : Port) (b : Byte) : (s.portByte p b).corr = s.corr := by
  unfold State.portByte; simp only []; split <;> split_ifs <;> simp
@[simp] theorem State.portByte_screens (s : State) (p : Port) (b : Byte) : (s.portByte p b).screens = s.screens := by
  unfold State.portByte; simp only []; split <;> split_ifs <;> simp
@[simp] theorem State.portByte_dec (s : State) (p : Port) (b : Byte) : (s.portByte p b).dec = s.dec := by
  unfold State.portByte; simp only []; split <;> split_ifs <;> simp
@[simp] theorem State.portByte_aux (s : State) (p : Port) (b : Byte) : (s.portByte p b).aux = s.aux := by
  unfold State.portByte; simp only []; split <;> split_ifs <;> simp
@[simp] theorem State.portByte_staging (s : State) (p : Port) (b : Byte) : (s.portByte p b).staging = s.staging := by
  unfold State.portByte; simp only []; split <;> split_ifs <;> simp
@[simp] theorem State.portByte_settings (s : State) (p : Port) (b : Byte) : (s.portByte p b).settings = s.settings := by
  unfold State.portByte; simp only []; split <;> split_ifs <;> simp
@[simp] theorem State.portByte_pending (s : State) (p : Port) (b : Byte) : (s.portByte p b).pending = s.pending := by
  unfold State.portByte; simp only []; split <;> split_ifs <;> simp

/-! ### onPortByte -/

@[simp] theorem State.onPortByte_phase (s : State) (p : Port) (b : Byte) (n : Nat) : (s.onPortByte p b n).phase = s.phase := by
  unfold State.onPortByte; split <;> simp
@[simp] theorem State.onPortByte_asm (s : State) (p : Port) (b : Byte) (n : Nat) : (s.onPortByte p b n).asm = s.asm := by
  unfold State.onPortByte; split <;> simp
@[simp] theorem State.onPortByte_store (s : State) (p : Port) (b : Byte) (n : Nat) : (s.onPortByte p b n).store = s.store := by
  unfold State.onPortByte; split <;> simp
@[simp] theorem State.onPortByte_corr (s : State) (p : Port) (b : Byte) (n : Nat) : (s.onPortByte p b n).corr = s.corr := by
  unfold State.onPortByte; split <;> simp
@[simp] theorem State.onPortByte_screens (s : State) (p : Port) (b : Byte) (n : Nat) : (s.onPortByte p b n).screens = s.screens := by
  unfold State.onPortByte; split <;> simp
@[simp] theorem State.onPortByte_dec (s : State) (p : Port) (b : Byte) (n : Nat) : (s.onPortByte p b n).dec = s.dec := by
  unfold State.onPortByte; split <;> simp
@[simp] theorem State.onPortByte_aux (s : State) (p : Port) (b : Byte) (n : Nat) : (s.onPortByte p b n).aux = s.aux := by
  unfold State.onPortByte; split <;> simp
@[simp] theorem State.onPortByte_staging (s : State) (p : Port) (b : Byte) (n : Nat) : (s.onPortByte p b n).staging = s.staging := by
  unfold State.onPortByte; split <;> simp
@[simp] theorem State.onPortByte_settings (s : State) (p : Port) (b : Byte) (n : Nat) : (s.onPortByte p b n).settings = s.settings := by
  unfold State.onPortByte; split <;> simp
@[simp] theorem State.onPortByte_pending (s : State) (p : Port) (b : Byte) (n : Nat) : (s.onPortByte p b n).pending = s.pending := by
  unfold State.onPortByte; split <;> simp

/-! ### matchEntry -/

@[simp] theorem State.matchEntry_phase (s : State) (p : Port) (e : FifoEntry) : (s.matchEntry p e).phase = s.phase := by
  unfold State.matchEntry; split
  · simp
  · split
    · simp
    · split_ifs <;> simp
@[simp] theorem State.matchEntry_tb (s : State) (p : Port) (e : FifoEntry) : (s.matchEntry p e).tb = s.tb := by
  unfold State.matchEntry; split
  · simp
  · split
    · simp
    · split_ifs <;> simp
@[simp] theorem State.matchEntry_portA (s : State) (p : Port) (e : FifoEntry) : (s.matchEntry p e).portA = s.portA := by
  unfold State.matchEntry; split
  · simp
  · split
    · simp
    · split_ifs <;> simp
@[simp] theorem State.matchEntry_portB (s : State) (p : Port) (e : FifoEntry) : (s.matchEntry p e).portB = s.portB := by
  unfold State.matchEntry; split
  · simp
  · split
    · simp
    · split_ifs <;> simp
@[simp] theorem State.matchEntry_store (s : State) (p : Port) (e : FifoEntry) : (s.matchEntry p e).store = s.store := by
  unfold State.matchEntry; split
  · simp
  · split
    · simp
    · split_ifs <;> simp
@[simp] theorem State.matchEntry_corr (s : State) (p : Port) (e : FifoEntry) : (s.matchEntry p e).corr = s.corr := by
  unfold State.matchEntry; split
  · simp
  · split
    · simp
    · split_ifs <;> simp
@[simp] theorem State.matchEntry_screens (s : State) (p : Port) (e : FifoEntry) : (s.matchEntry p e).screens = s.screens := by
  unfold State.matchEntry; split
  · simp
  · split
    · simp
    · split_ifs <;> simp
@[simp] theorem State.matchEntry_dec (s : State) (p : Port) (e : FifoEntry) : (s.matchEntry p e).dec = s.dec := by
  unfold State.matchEntry; split
  · simp
  · split
    · simp
    · split_ifs <;> simp
@[simp] theorem State.matchEntry_link (s : State) (p : Port) (e : FifoEntry) : (s.matchEntry p e).link = s.link := by
  unfold State.matchEntry; split
  · simp
  · split
    · simp
    · split_ifs <;> simp
@[simp] theorem State.matchEntry_aux (s : State) (p : Port) (e : FifoEntry) : (s.matchEntry p e).aux = s.aux := by
  unfold State.matchEntry; split
  · simp
  · split
    · simp
    · split_ifs <;> simp
@[simp] theorem State.matchEntry_staging (s : State) (p : Port) (e : FifoEntry) : (s.matchEntry p e).staging = s.staging := by
  unfold State.matchEntry; split
  · simp
  · split
    · simp
    · split_ifs <;> simp
@[simp] theorem State.matchEntry_settings (s : State) (p : Port) (e : FifoEntry) : (s.matchEntry p e).settings = s.settings := by
  unfold State.matchEntry; split
  · simp
  · split
    · simp
    · split_ifs <;> simp
@[simp] theorem State.matchEntry_pending (s : State) (p : Port) (e : FifoEntry) : (s.matchEntry p e).pending = s.pending := by
  unfold State.matchEntry; split
  · simp
  · split
    · simp
    · split_ifs <;> simp

/-! ### takeEntry -/

@[simp] theorem State.takeEntry_phase (s : State) (p : Port) : (s.takeEntry p).phase = s.phase := by
  unfold State.takeEntry; split
  · rfl
  · simp only []; split <;> simp
@[simp] theorem State.takeEntry_tb (s : State) (p : Port) : (s.takeEntry p).tb = s.tb := by
  unfold State.takeEntry; split
  · rfl
  · simp only []; split <;> simp
@[simp] theorem State.takeEntry_store (s : State) (p : Port) : (s.takeEntry p).store = s.store := by
  unfold State.takeEntry; split
  · rfl
  · simp only []; split <;> simp
@[simp] theorem State.takeEntry_corr (s : State) (p : Port) : (s.takeEntry p).corr = s.corr := by
  unfold State.takeEntry; split
  · rfl
  · simp only []; split <;> simp
@[simp] theorem State.takeEntry_screens (s : State) (p : Port) : (s.takeEntry p).screens = s.screens := by
  unfold State.takeEntry; split
  · rfl
  · simp only []; split <;> simp
@[simp] theorem State.takeEntry_dec (s : State) (p : Port) : (s.takeEntry p).dec = s.dec := by
  unfold State.takeEntry; split
  · rfl
  · simp only []; split <;> simp
@[simp] theorem State.takeEntry_link (s : State) (p : Port) : (s.takeEntry p).link = s.link := by
  unfold State.takeEntry; split
  · rfl
  · simp only []; split <;> simp
@[simp] theorem State.takeEntry_aux (s : State) (p : Port) : (s.takeEntry p).aux = s.aux := by
  unfold State.takeEntry; split
  · rfl
  · simp only []; split <;> simp
@[simp] theorem State.takeEntry_staging (s : State) (p : Port) : (s.takeEntry p).staging = s.staging := by
  unfold State.takeEntry; split
  · rfl
  · simp only []; split <;> simp
@[simp] theorem State.takeEntry_settings (s : State) (p : Port) : (s.takeEntry p).settings = s.settings := by
  unfold State.takeEntry; split
  · rfl
  · simp only []; split <;> simp
@[simp] theorem State.takeEntry_pending (s : State) (p : Port) : (s.takeEntry p).pending = s.pending := by
  unfold State.takeEntry; split
  · rfl
  · simp only []; split <;> simp

/-! ### revalidate -/

@[simp] theorem State.revalidate_phase (s : State) (c : Configuration) (t : OpenTick) : (s.revalidate c t).1.phase = s.phase := by
  unfold State.revalidate
  exact foldl_frame (fun x : State × Vector Slot 16 => x.1.phase) _ (fun b a => by unfold revalidateStep; split <;> simp) _ _
@[simp] theorem State.revalidate_tb (s : State) (c : Configuration) (t : OpenTick) : (s.revalidate c t).1.tb = s.tb := by
  unfold State.revalidate
  exact foldl_frame (fun x : State × Vector Slot 16 => x.1.tb) _ (fun b a => by unfold revalidateStep; split <;> simp) _ _
@[simp] theorem State.revalidate_portA (s : State) (c : Configuration) (t : OpenTick) : (s.revalidate c t).1.portA = s.portA := by
  unfold State.revalidate
  exact foldl_frame (fun x : State × Vector Slot 16 => x.1.portA) _ (fun b a => by unfold revalidateStep; split <;> simp) _ _
@[simp] theorem State.revalidate_portB (s : State) (c : Configuration) (t : OpenTick) : (s.revalidate c t).1.portB = s.portB := by
  unfold State.revalidate
  exact foldl_frame (fun x : State × Vector Slot 16 => x.1.portB) _ (fun b a => by unfold revalidateStep; split <;> simp) _ _
@[simp] theorem State.revalidate_asm (s : State) (c : Configuration) (t : OpenTick) : (s.revalidate c t).1.asm = s.asm := by
  unfold State.revalidate
  exact foldl_frame (fun x : State × Vector Slot 16 => x.1.asm) _ (fun b a => by unfold revalidateStep; split <;> simp) _ _
@[simp] theorem State.revalidate_store (s : State) (c : Configuration) (t : OpenTick) : (s.revalidate c t).1.store = s.store := by
  unfold State.revalidate
  exact foldl_frame (fun x : State × Vector Slot 16 => x.1.store) _ (fun b a => by unfold revalidateStep; split <;> simp) _ _
@[simp] theorem State.revalidate_corr (s : State) (c : Configuration) (t : OpenTick) : (s.revalidate c t).1.corr = s.corr := by
  unfold State.revalidate
  exact foldl_frame (fun x : State × Vector Slot 16 => x.1.corr) _ (fun b a => by unfold revalidateStep; split <;> simp) _ _
@[simp] theorem State.revalidate_screens (s : State) (c : Configuration) (t : OpenTick) : (s.revalidate c t).1.screens = s.screens := by
  unfold State.revalidate
  exact foldl_frame (fun x : State × Vector Slot 16 => x.1.screens) _ (fun b a => by unfold revalidateStep; split <;> simp) _ _
@[simp] theorem State.revalidate_dec (s : State) (c : Configuration) (t : OpenTick) : (s.revalidate c t).1.dec = s.dec := by
  unfold State.revalidate
  exact foldl_frame (fun x : State × Vector Slot 16 => x.1.dec) _ (fun b a => by unfold revalidateStep; split <;> simp) _ _
@[simp] theorem State.revalidate_link (s : State) (c : Configuration) (t : OpenTick) : (s.revalidate c t).1.link = s.link := by
  unfold State.revalidate
  exact foldl_frame (fun x : State × Vector Slot 16 => x.1.link) _ (fun b a => by unfold revalidateStep; split <;> simp) _ _
@[simp] theorem State.revalidate_aux (s : State) (c : Configuration) (t : OpenTick) : (s.revalidate c t).1.aux = s.aux := by
  unfold State.revalidate
  exact foldl_frame (fun x : State × Vector Slot 16 => x.1.aux) _ (fun b a => by unfold revalidateStep; split <;> simp) _ _
@[simp] theorem State.revalidate_staging (s : State) (c : Configuration) (t : OpenTick) : (s.revalidate c t).1.staging = s.staging := by
  unfold State.revalidate
  exact foldl_frame (fun x : State × Vector Slot 16 => x.1.staging) _ (fun b a => by unfold revalidateStep; split <;> simp) _ _
@[simp] theorem State.revalidate_settings (s : State) (c : Configuration) (t : OpenTick) : (s.revalidate c t).1.settings = s.settings := by
  unfold State.revalidate
  exact foldl_frame (fun x : State × Vector Slot 16 => x.1.settings) _ (fun b a => by unfold revalidateStep; split <;> simp) _ _
@[simp] theorem State.revalidate_pending (s : State) (c : Configuration) (t : OpenTick) : (s.revalidate c t).1.pending = s.pending := by
  unfold State.revalidate
  exact foldl_frame (fun x : State × Vector Slot 16 => x.1.pending) _ (fun b a => by unfold revalidateStep; split <;> simp) _ _

/-! ### raiseTableClamp -/

@[simp] theorem State.raiseTableClamp_phase (s : State) (n : Fin 16) (t : TickId) (v : Int) : (s.raiseTableClamp n t v).phase = s.phase := by simp [State.raiseTableClamp]
@[simp] theorem State.raiseTableClamp_tb (s : State) (n : Fin 16) (t : TickId) (v : Int) : (s.raiseTableClamp n t v).tb = s.tb := by simp [State.raiseTableClamp]
@[simp] theorem State.raiseTableClamp_portA (s : State) (n : Fin 16) (t : TickId) (v : Int) : (s.raiseTableClamp n t v).portA = s.portA := by simp [State.raiseTableClamp]
@[simp] theorem State.raiseTableClamp_portB (s : State) (n : Fin 16) (t : TickId) (v : Int) : (s.raiseTableClamp n t v).portB = s.portB := by simp [State.raiseTableClamp]
@[simp] theorem State.raiseTableClamp_asm (s : State) (n : Fin 16) (t : TickId) (v : Int) : (s.raiseTableClamp n t v).asm = s.asm := by simp [State.raiseTableClamp]
@[simp] theorem State.raiseTableClamp_store (s : State) (n : Fin 16) (t : TickId) (v : Int) : (s.raiseTableClamp n t v).store = s.store := by simp [State.raiseTableClamp]
@[simp] theorem State.raiseTableClamp_corr (s : State) (n : Fin 16) (t : TickId) (v : Int) : (s.raiseTableClamp n t v).corr = s.corr := by simp [State.raiseTableClamp]
@[simp] theorem State.raiseTableClamp_screens (s : State) (n : Fin 16) (t : TickId) (v : Int) : (s.raiseTableClamp n t v).screens = s.screens := by simp [State.raiseTableClamp]
@[simp] theorem State.raiseTableClamp_dec (s : State) (n : Fin 16) (t : TickId) (v : Int) : (s.raiseTableClamp n t v).dec = s.dec := by simp [State.raiseTableClamp]
@[simp] theorem State.raiseTableClamp_aux (s : State) (n : Fin 16) (t : TickId) (v : Int) : (s.raiseTableClamp n t v).aux = s.aux := by simp [State.raiseTableClamp]
@[simp] theorem State.raiseTableClamp_staging (s : State) (n : Fin 16) (t : TickId) (v : Int) : (s.raiseTableClamp n t v).staging = s.staging := by simp [State.raiseTableClamp]
@[simp] theorem State.raiseTableClamp_settings (s : State) (n : Fin 16) (t : TickId) (v : Int) : (s.raiseTableClamp n t v).settings = s.settings := by simp [State.raiseTableClamp]
@[simp] theorem State.raiseTableClamp_pending (s : State) (n : Fin 16) (t : TickId) (v : Int) : (s.raiseTableClamp n t v).pending = s.pending := by simp [State.raiseTableClamp]

/-! ### raiseStoreError -/

@[simp] theorem State.raiseStoreError_phase (s : State) (n : Fin 16) (t : TickId) (a : Nat) : (s.raiseStoreError n t a).phase = s.phase := by simp [State.raiseStoreError]
@[simp] theorem State.raiseStoreError_tb (s : State) (n : Fin 16) (t : TickId) (a : Nat) : (s.raiseStoreError n t a).tb = s.tb := by simp [State.raiseStoreError]
@[simp] theorem State.raiseStoreError_portA (s : State) (n : Fin 16) (t : TickId) (a : Nat) : (s.raiseStoreError n t a).portA = s.portA := by simp [State.raiseStoreError]
@[simp] theorem State.raiseStoreError_portB (s : State) (n : Fin 16) (t : TickId) (a : Nat) : (s.raiseStoreError n t a).portB = s.portB := by simp [State.raiseStoreError]
@[simp] theorem State.raiseStoreError_asm (s : State) (n : Fin 16) (t : TickId) (a : Nat) : (s.raiseStoreError n t a).asm = s.asm := by simp [State.raiseStoreError]
@[simp] theorem State.raiseStoreError_store (s : State) (n : Fin 16) (t : TickId) (a : Nat) : (s.raiseStoreError n t a).store = s.store := by simp [State.raiseStoreError]
@[simp] theorem State.raiseStoreError_corr (s : State) (n : Fin 16) (t : TickId) (a : Nat) : (s.raiseStoreError n t a).corr = s.corr := by simp [State.raiseStoreError]
@[simp] theorem State.raiseStoreError_screens (s : State) (n : Fin 16) (t : TickId) (a : Nat) : (s.raiseStoreError n t a).screens = s.screens := by simp [State.raiseStoreError]
@[simp] theorem State.raiseStoreError_dec (s : State) (n : Fin 16) (t : TickId) (a : Nat) : (s.raiseStoreError n t a).dec = s.dec := by simp [State.raiseStoreError]
@[simp] theorem State.raiseStoreError_aux (s : State) (n : Fin 16) (t : TickId) (a : Nat) : (s.raiseStoreError n t a).aux = s.aux := by simp [State.raiseStoreError]
@[simp] theorem State.raiseStoreError_staging (s : State) (n : Fin 16) (t : TickId) (a : Nat) : (s.raiseStoreError n t a).staging = s.staging := by simp [State.raiseStoreError]
@[simp] theorem State.raiseStoreError_settings (s : State) (n : Fin 16) (t : TickId) (a : Nat) : (s.raiseStoreError n t a).settings = s.settings := by simp [State.raiseStoreError]
@[simp] theorem State.raiseStoreError_pending (s : State) (n : Fin 16) (t : TickId) (a : Nat) : (s.raiseStoreError n t a).pending = s.pending := by simp [State.raiseStoreError]

/-! ### temperatureStep -/

@[simp] theorem temperatureStep_phase (cc : CloseContext) (t : OpenTick) (l : Vector Slot 16) (x : Correcting) (n : Fin 16) :
    (temperatureStep cc t l x n).state.phase = x.state.phase := by
  unfold temperatureStep; simp only []; split
  · split
    · rfl
    · rfl
    · simp only [State.setCorr_phase]; split <;> simp
  · rfl
@[simp] theorem temperatureStep_tb (cc : CloseContext) (t : OpenTick) (l : Vector Slot 16) (x : Correcting) (n : Fin 16) :
    (temperatureStep cc t l x n).state.tb = x.state.tb := by
  unfold temperatureStep; simp only []; split
  · split
    · rfl
    · rfl
    · simp only [State.setCorr_tb]; split <;> simp
  · rfl
@[simp] theorem temperatureStep_portA (cc : CloseContext) (t : OpenTick) (l : Vector Slot 16) (x : Correcting) (n : Fin 16) :
    (temperatureStep cc t l x n).state.portA = x.state.portA := by
  unfold temperatureStep; simp only []; split
  · split
    · rfl
    · rfl
    · simp only [State.setCorr_portA]; split <;> simp
  · rfl
@[simp] theorem temperatureStep_portB (cc : CloseContext) (t : OpenTick) (l : Vector Slot 16) (x : Correcting) (n : Fin 16) :
    (temperatureStep cc t l x n).state.portB = x.state.portB := by
  unfold temperatureStep; simp only []; split
  · split
    · rfl
    · rfl
    · simp only [State.setCorr_portB]; split <;> simp
  · rfl
@[simp] theorem temperatureStep_asm (cc : CloseContext) (t : OpenTick) (l : Vector Slot 16) (x : Correcting) (n : Fin 16) :
    (temperatureStep cc t l x n).state.asm = x.state.asm := by
  unfold temperatureStep; simp only []; split
  · split
    · rfl
    · rfl
    · simp only [State.setCorr_asm]; split <;> simp
  · rfl
@[simp] theorem temperatureStep_store (cc : CloseContext) (t : OpenTick) (l : Vector Slot 16) (x : Correcting) (n : Fin 16) :
    (temperatureStep cc t l x n).state.store = x.state.store := by
  unfold temperatureStep; simp only []; split
  · split
    · rfl
    · rfl
    · simp only [State.setCorr_store]; split <;> simp
  · rfl
@[simp] theorem temperatureStep_screens (cc : CloseContext) (t : OpenTick) (l : Vector Slot 16) (x : Correcting) (n : Fin 16) :
    (temperatureStep cc t l x n).state.screens = x.state.screens := by
  unfold temperatureStep; simp only []; split
  · split
    · rfl
    · rfl
    · simp only [State.setCorr_screens]; split <;> simp
  · rfl
@[simp] theorem temperatureStep_dec (cc : CloseContext) (t : OpenTick) (l : Vector Slot 16) (x : Correcting) (n : Fin 16) :
    (temperatureStep cc t l x n).state.dec = x.state.dec := by
  unfold temperatureStep; simp only []; split
  · split
    · rfl
    · rfl
    · simp only [State.setCorr_dec]; split <;> simp
  · rfl
@[simp] theorem temperatureStep_aux (cc : CloseContext) (t : OpenTick) (l : Vector Slot 16) (x : Correcting) (n : Fin 16) :
    (temperatureStep cc t l x n).state.aux = x.state.aux := by
  unfold temperatureStep; simp only []; split
  · split
    · rfl
    · rfl
    · simp only [State.setCorr_aux]; split <;> simp
  · rfl
@[simp] theorem temperatureStep_staging (cc : CloseContext) (t : OpenTick) (l : Vector Slot 16) (x : Correcting) (n : Fin 16) :
    (temperatureStep cc t l x n).state.staging = x.state.staging := by
  unfold temperatureStep; simp only []; split
  · split
    · rfl
    · rfl
    · simp only [State.setCorr_staging]; split <;> simp
  · rfl
@[simp] theorem temperatureStep_settings (cc : CloseContext) (t : OpenTick) (l : Vector Slot 16) (x : Correcting) (n : Fin 16) :
    (temperatureStep cc t l x n).state.settings = x.state.settings := by
  unfold temperatureStep; simp only []; split
  · split
    · rfl
    · rfl
    · simp only [State.setCorr_settings]; split <;> simp
  · rfl
@[simp] theorem temperatureStep_pending (cc : CloseContext) (t : OpenTick) (l : Vector Slot 16) (x : Correcting) (n : Fin 16) :
    (temperatureStep cc t l x n).state.pending = x.state.pending := by
  unfold temperatureStep; simp only []; split
  · split
    · rfl
    · rfl
    · simp only [State.setCorr_pending]; split <;> simp
  · rfl

/-! ### stageB -/

@[simp] theorem State.stageB_phase (s : State) (cc : CloseContext) (t : TickId) (n m : Fin 16) (g : Segment) (v : Int) : (s.stageB cc t n m g v).1.phase = s.phase := by
  unfold State.stageB; simp only []; split
  · rfl
  · split
    · simp only [State.setCorr_phase]; split <;> simp
    · simp only [State.raiseStoreError_phase]; split <;> simp
@[simp] theorem State.stageB_tb (s : State) (cc : CloseContext) (t : TickId) (n m : Fin 16) (g : Segment) (v : Int) : (s.stageB cc t n m g v).1.tb = s.tb := by
  unfold State.stageB; simp only []; split
  · rfl
  · split
    · simp only [State.setCorr_tb]; split <;> simp
    · simp only [State.raiseStoreError_tb]; split <;> simp
@[simp] theorem State.stageB_portA (s : State) (cc : CloseContext) (t : TickId) (n m : Fin 16) (g : Segment) (v : Int) : (s.stageB cc t n m g v).1.portA = s.portA := by
  unfold State.stageB; simp only []; split
  · rfl
  · split
    · simp only [State.setCorr_portA]; split <;> simp
    · simp only [State.raiseStoreError_portA]; split <;> simp
@[simp] theorem State.stageB_portB (s : State) (cc : CloseContext) (t : TickId) (n m : Fin 16) (g : Segment) (v : Int) : (s.stageB cc t n m g v).1.portB = s.portB := by
  unfold State.stageB; simp only []; split
  · rfl
  · split
    · simp only [State.setCorr_portB]; split <;> simp
    · simp only [State.raiseStoreError_portB]; split <;> simp
@[simp] theorem State.stageB_asm (s : State) (cc : CloseContext) (t : TickId) (n m : Fin 16) (g : Segment) (v : Int) : (s.stageB cc t n m g v).1.asm = s.asm := by
  unfold State.stageB; simp only []; split
  · rfl
  · split
    · simp only [State.setCorr_asm]; split <;> simp
    · simp only [State.raiseStoreError_asm]; split <;> simp
@[simp] theorem State.stageB_store (s : State) (cc : CloseContext) (t : TickId) (n m : Fin 16) (g : Segment) (v : Int) : (s.stageB cc t n m g v).1.store = s.store := by
  unfold State.stageB; simp only []; split
  · rfl
  · split
    · simp only [State.setCorr_store]; split <;> simp
    · simp only [State.raiseStoreError_store]; split <;> simp
@[simp] theorem State.stageB_screens (s : State) (cc : CloseContext) (t : TickId) (n m : Fin 16) (g : Segment) (v : Int) : (s.stageB cc t n m g v).1.screens = s.screens := by
  unfold State.stageB; simp only []; split
  · rfl
  · split
    · simp only [State.setCorr_screens]; split <;> simp
    · simp only [State.raiseStoreError_screens]; split <;> simp
@[simp] theorem State.stageB_dec (s : State) (cc : CloseContext) (t : TickId) (n m : Fin 16) (g : Segment) (v : Int) : (s.stageB cc t n m g v).1.dec = s.dec := by
  unfold State.stageB; simp only []; split
  · rfl
  · split
    · simp only [State.setCorr_dec]; split <;> simp
    · simp only [State.raiseStoreError_dec]; split <;> simp
@[simp] theorem State.stageB_aux (s : State) (cc : CloseContext) (t : TickId) (n m : Fin 16) (g : Segment) (v : Int) : (s.stageB cc t n m g v).1.aux = s.aux := by
  unfold State.stageB; simp only []; split
  · rfl
  · split
    · simp only [State.setCorr_aux]; split <;> simp
    · simp only [State.raiseStoreError_aux]; split <;> simp
@[simp] theorem State.stageB_staging (s : State) (cc : CloseContext) (t : TickId) (n m : Fin 16) (g : Segment) (v : Int) : (s.stageB cc t n m g v).1.staging = s.staging := by
  unfold State.stageB; simp only []; split
  · rfl
  · split
    · simp only [State.setCorr_staging]; split <;> simp
    · simp only [State.raiseStoreError_staging]; split <;> simp
@[simp] theorem State.stageB_settings (s : State) (cc : CloseContext) (t : TickId) (n m : Fin 16) (g : Segment) (v : Int) : (s.stageB cc t n m g v).1.settings = s.settings := by
  unfold State.stageB; simp only []; split
  · rfl
  · split
    · simp only [State.setCorr_settings]; split <;> simp
    · simp only [State.raiseStoreError_settings]; split <;> simp
@[simp] theorem State.stageB_pending (s : State) (cc : CloseContext) (t : TickId) (n m : Fin 16) (g : Segment) (v : Int) : (s.stageB cc t n m g v).1.pending = s.pending := by
  unfold State.stageB; simp only []; split
  · rfl
  · split
    · simp only [State.setCorr_pending]; split <;> simp
    · simp only [State.raiseStoreError_pending]; split <;> simp

/-! ### fieldStep -/

@[simp] theorem fieldStep_phase (cc : CloseContext) (t : OpenTick) (l : Vector Slot 16) (x : Correcting) (n : Fin 16) :
    (fieldStep cc t l x n).state.phase = x.state.phase := by
  unfold fieldStep; simp only []; split
  · split
    · rfl
    · rfl
    · split <;> simp
  · rfl
@[simp] theorem fieldStep_tb (cc : CloseContext) (t : OpenTick) (l : Vector Slot 16) (x : Correcting) (n : Fin 16) :
    (fieldStep cc t l x n).state.tb = x.state.tb := by
  unfold fieldStep; simp only []; split
  · split
    · rfl
    · rfl
    · split <;> simp
  · rfl
@[simp] theorem fieldStep_portA (cc : CloseContext) (t : OpenTick) (l : Vector Slot 16) (x : Correcting) (n : Fin 16) :
    (fieldStep cc t l x n).state.portA = x.state.portA := by
  unfold fieldStep; simp only []; split
  · split
    · rfl
    · rfl
    · split <;> simp
  · rfl
@[simp] theorem fieldStep_portB (cc : CloseContext) (t : OpenTick) (l : Vector Slot 16) (x : Correcting) (n : Fin 16) :
    (fieldStep cc t l x n).state.portB = x.state.portB := by
  unfold fieldStep; simp only []; split
  · split
    · rfl
    · rfl
    · split <;> simp
  · rfl
@[simp] theorem fieldStep_asm (cc : CloseContext) (t : OpenTick) (l : Vector Slot 16) (x : Correcting) (n : Fin 16) :
    (fieldStep cc t l x n).state.asm = x.state.asm := by
  unfold fieldStep; simp only []; split
  · split
    · rfl
    · rfl
    · split <;> simp
  · rfl
@[simp] theorem fieldStep_store (cc : CloseContext) (t : OpenTick) (l : Vector Slot 16) (x : Correcting) (n : Fin 16) :
    (fieldStep cc t l x n).state.store = x.state.store := by
  unfold fieldStep; simp only []; split
  · split
    · rfl
    · rfl
    · split <;> simp
  · rfl
@[simp] theorem fieldStep_screens (cc : CloseContext) (t : OpenTick) (l : Vector Slot 16) (x : Correcting) (n : Fin 16) :
    (fieldStep cc t l x n).state.screens = x.state.screens := by
  unfold fieldStep; simp only []; split
  · split
    · rfl
    · rfl
    · split <;> simp
  · rfl
@[simp] theorem fieldStep_dec (cc : CloseContext) (t : OpenTick) (l : Vector Slot 16) (x : Correcting) (n : Fin 16) :
    (fieldStep cc t l x n).state.dec = x.state.dec := by
  unfold fieldStep; simp only []; split
  · split
    · rfl
    · rfl
    · split <;> simp
  · rfl
@[simp] theorem fieldStep_aux (cc : CloseContext) (t : OpenTick) (l : Vector Slot 16) (x : Correcting) (n : Fin 16) :
    (fieldStep cc t l x n).state.aux = x.state.aux := by
  unfold fieldStep; simp only []; split
  · split
    · rfl
    · rfl
    · split <;> simp
  · rfl
@[simp] theorem fieldStep_staging (cc : CloseContext) (t : OpenTick) (l : Vector Slot 16) (x : Correcting) (n : Fin 16) :
    (fieldStep cc t l x n).state.staging = x.state.staging := by
  unfold fieldStep; simp only []; split
  · split
    · rfl
    · rfl
    · split <;> simp
  · rfl
@[simp] theorem fieldStep_settings (cc : CloseContext) (t : OpenTick) (l : Vector Slot 16) (x : Correcting) (n : Fin 16) :
    (fieldStep cc t l x n).state.settings = x.state.settings := by
  unfold fieldStep; simp only []; split
  · split
    · rfl
    · rfl
    · split <;> simp
  · rfl
@[simp] theorem fieldStep_pending (cc : CloseContext) (t : OpenTick) (l : Vector Slot 16) (x : Correcting) (n : Fin 16) :
    (fieldStep cc t l x n).state.pending = x.state.pending := by
  unfold fieldStep; simp only []; split
  · split
    · rfl
    · rfl
    · split <;> simp
  · rfl

/-! ### correct -/

@[simp] theorem State.correct_phase (s : State) (cc : CloseContext) (t : OpenTick) (l : Vector Slot 16) : (s.correct cc t l).state.phase = s.phase := by
  unfold State.correct; simp only []
  rw [foldl_frame (fun x : Correcting => x.state.phase) _ (fun b a => by simp),
    foldl_frame (fun x : Correcting => x.state.phase) _ (fun b a => by simp)]
  simp
@[simp] theorem State.correct_tb (s : State) (cc : CloseContext) (t : OpenTick) (l : Vector Slot 16) : (s.correct cc t l).state.tb = s.tb := by
  unfold State.correct; simp only []
  rw [foldl_frame (fun x : Correcting => x.state.tb) _ (fun b a => by simp),
    foldl_frame (fun x : Correcting => x.state.tb) _ (fun b a => by simp)]
  simp
@[simp] theorem State.correct_portA (s : State) (cc : CloseContext) (t : OpenTick) (l : Vector Slot 16) : (s.correct cc t l).state.portA = s.portA := by
  unfold State.correct; simp only []
  rw [foldl_frame (fun x : Correcting => x.state.portA) _ (fun b a => by simp),
    foldl_frame (fun x : Correcting => x.state.portA) _ (fun b a => by simp)]
  simp
@[simp] theorem State.correct_portB (s : State) (cc : CloseContext) (t : OpenTick) (l : Vector Slot 16) : (s.correct cc t l).state.portB = s.portB := by
  unfold State.correct; simp only []
  rw [foldl_frame (fun x : Correcting => x.state.portB) _ (fun b a => by simp),
    foldl_frame (fun x : Correcting => x.state.portB) _ (fun b a => by simp)]
  simp
@[simp] theorem State.correct_asm (s : State) (cc : CloseContext) (t : OpenTick) (l : Vector Slot 16) : (s.correct cc t l).state.asm = s.asm := by
  unfold State.correct; simp only []
  rw [foldl_frame (fun x : Correcting => x.state.asm) _ (fun b a => by simp),
    foldl_frame (fun x : Correcting => x.state.asm) _ (fun b a => by simp)]
  simp
@[simp] theorem State.correct_store (s : State) (cc : CloseContext) (t : OpenTick) (l : Vector Slot 16) : (s.correct cc t l).state.store = s.store := by
  unfold State.correct; simp only []
  rw [foldl_frame (fun x : Correcting => x.state.store) _ (fun b a => by simp),
    foldl_frame (fun x : Correcting => x.state.store) _ (fun b a => by simp)]
  simp
@[simp] theorem State.correct_screens (s : State) (cc : CloseContext) (t : OpenTick) (l : Vector Slot 16) : (s.correct cc t l).state.screens = s.screens := by
  unfold State.correct; simp only []
  rw [foldl_frame (fun x : Correcting => x.state.screens) _ (fun b a => by simp),
    foldl_frame (fun x : Correcting => x.state.screens) _ (fun b a => by simp)]
  simp
@[simp] theorem State.correct_dec (s : State) (cc : CloseContext) (t : OpenTick) (l : Vector Slot 16) : (s.correct cc t l).state.dec = s.dec := by
  unfold State.correct; simp only []
  rw [foldl_frame (fun x : Correcting => x.state.dec) _ (fun b a => by simp),
    foldl_frame (fun x : Correcting => x.state.dec) _ (fun b a => by simp)]
  simp
@[simp] theorem State.correct_aux (s : State) (cc : CloseContext) (t : OpenTick) (l : Vector Slot 16) : (s.correct cc t l).state.aux = s.aux := by
  unfold State.correct; simp only []
  rw [foldl_frame (fun x : Correcting => x.state.aux) _ (fun b a => by simp),
    foldl_frame (fun x : Correcting => x.state.aux) _ (fun b a => by simp)]
  simp
@[simp] theorem State.correct_staging (s : State) (cc : CloseContext) (t : OpenTick) (l : Vector Slot 16) : (s.correct cc t l).state.staging = s.staging := by
  unfold State.correct; simp only []
  rw [foldl_frame (fun x : Correcting => x.state.staging) _ (fun b a => by simp),
    foldl_frame (fun x : Correcting => x.state.staging) _ (fun b a => by simp)]
  simp
@[simp] theorem State.correct_settings (s : State) (cc : CloseContext) (t : OpenTick) (l : Vector Slot 16) : (s.correct cc t l).state.settings = s.settings := by
  unfold State.correct; simp only []
  rw [foldl_frame (fun x : Correcting => x.state.settings) _ (fun b a => by simp),
    foldl_frame (fun x : Correcting => x.state.settings) _ (fun b a => by simp)]
  simp
@[simp] theorem State.correct_pending (s : State) (cc : CloseContext) (t : OpenTick) (l : Vector Slot 16) : (s.correct cc t l).state.pending = s.pending := by
  unfold State.correct; simp only []
  rw [foldl_frame (fun x : Correcting => x.state.pending) _ (fun b a => by simp),
    foldl_frame (fun x : Correcting => x.state.pending) _ (fun b a => by simp)]
  simp

/-! ### combine -/

@[simp] theorem State.combine_phase (s : State) (d : TriadDescriptor) (k : Fin 2) (t : TickId) (v : Vector CorrectedSample 16) : (s.combine d k t v).1.phase = s.phase := by
  unfold State.combine; simp only []; split
  · exact foldl_frame (fun x : State => x.phase) _ (fun b a => by simp [State.raiseSaturation]) _ _
  · rfl
@[simp] theorem State.combine_tb (s : State) (d : TriadDescriptor) (k : Fin 2) (t : TickId) (v : Vector CorrectedSample 16) : (s.combine d k t v).1.tb = s.tb := by
  unfold State.combine; simp only []; split
  · exact foldl_frame (fun x : State => x.tb) _ (fun b a => by simp [State.raiseSaturation]) _ _
  · rfl
@[simp] theorem State.combine_portA (s : State) (d : TriadDescriptor) (k : Fin 2) (t : TickId) (v : Vector CorrectedSample 16) : (s.combine d k t v).1.portA = s.portA := by
  unfold State.combine; simp only []; split
  · exact foldl_frame (fun x : State => x.portA) _ (fun b a => by simp [State.raiseSaturation]) _ _
  · rfl
@[simp] theorem State.combine_portB (s : State) (d : TriadDescriptor) (k : Fin 2) (t : TickId) (v : Vector CorrectedSample 16) : (s.combine d k t v).1.portB = s.portB := by
  unfold State.combine; simp only []; split
  · exact foldl_frame (fun x : State => x.portB) _ (fun b a => by simp [State.raiseSaturation]) _ _
  · rfl
@[simp] theorem State.combine_asm (s : State) (d : TriadDescriptor) (k : Fin 2) (t : TickId) (v : Vector CorrectedSample 16) : (s.combine d k t v).1.asm = s.asm := by
  unfold State.combine; simp only []; split
  · exact foldl_frame (fun x : State => x.asm) _ (fun b a => by simp [State.raiseSaturation]) _ _
  · rfl
@[simp] theorem State.combine_store (s : State) (d : TriadDescriptor) (k : Fin 2) (t : TickId) (v : Vector CorrectedSample 16) : (s.combine d k t v).1.store = s.store := by
  unfold State.combine; simp only []; split
  · exact foldl_frame (fun x : State => x.store) _ (fun b a => by simp [State.raiseSaturation]) _ _
  · rfl
@[simp] theorem State.combine_corr (s : State) (d : TriadDescriptor) (k : Fin 2) (t : TickId) (v : Vector CorrectedSample 16) : (s.combine d k t v).1.corr = s.corr := by
  unfold State.combine; simp only []; split
  · exact foldl_frame (fun x : State => x.corr) _ (fun b a => by simp [State.raiseSaturation]) _ _
  · rfl
@[simp] theorem State.combine_screens (s : State) (d : TriadDescriptor) (k : Fin 2) (t : TickId) (v : Vector CorrectedSample 16) : (s.combine d k t v).1.screens = s.screens := by
  unfold State.combine; simp only []; split
  · exact foldl_frame (fun x : State => x.screens) _ (fun b a => by simp [State.raiseSaturation]) _ _
  · rfl
@[simp] theorem State.combine_dec (s : State) (d : TriadDescriptor) (k : Fin 2) (t : TickId) (v : Vector CorrectedSample 16) : (s.combine d k t v).1.dec = s.dec := by
  unfold State.combine; simp only []; split
  · exact foldl_frame (fun x : State => x.dec) _ (fun b a => by simp [State.raiseSaturation]) _ _
  · rfl
@[simp] theorem State.combine_aux (s : State) (d : TriadDescriptor) (k : Fin 2) (t : TickId) (v : Vector CorrectedSample 16) : (s.combine d k t v).1.aux = s.aux := by
  unfold State.combine; simp only []; split
  · exact foldl_frame (fun x : State => x.aux) _ (fun b a => by simp [State.raiseSaturation]) _ _
  · rfl
@[simp] theorem State.combine_staging (s : State) (d : TriadDescriptor) (k : Fin 2) (t : TickId) (v : Vector CorrectedSample 16) : (s.combine d k t v).1.staging = s.staging := by
  unfold State.combine; simp only []; split
  · exact foldl_frame (fun x : State => x.staging) _ (fun b a => by simp [State.raiseSaturation]) _ _
  · rfl
@[simp] theorem State.combine_settings (s : State) (d : TriadDescriptor) (k : Fin 2) (t : TickId) (v : Vector CorrectedSample 16) : (s.combine d k t v).1.settings = s.settings := by
  unfold State.combine; simp only []; split
  · exact foldl_frame (fun x : State => x.settings) _ (fun b a => by simp [State.raiseSaturation]) _ _
  · rfl
@[simp] theorem State.combine_pending (s : State) (d : TriadDescriptor) (k : Fin 2) (t : TickId) (v : Vector CorrectedSample 16) : (s.combine d k t v).1.pending = s.pending := by
  unfold State.combine; simp only []; split
  · exact foldl_frame (fun x : State => x.pending) _ (fun b a => by simp [State.raiseSaturation]) _ _
  · rfl

/-! ### countScreened -/

@[simp] theorem State.countScreened_phase (s : State) (k : Fin 2) (t : TickId) (r : Screened) : (s.countScreened k t r).phase = s.phase := by
  unfold State.countScreened; simp only []; split_ifs <;> simp
@[simp] theorem State.countScreened_tb (s : State) (k : Fin 2) (t : TickId) (r : Screened) : (s.countScreened k t r).tb = s.tb := by
  unfold State.countScreened; simp only []; split_ifs <;> simp
@[simp] theorem State.countScreened_portA (s : State) (k : Fin 2) (t : TickId) (r : Screened) : (s.countScreened k t r).portA = s.portA := by
  unfold State.countScreened; simp only []; split_ifs <;> simp
@[simp] theorem State.countScreened_portB (s : State) (k : Fin 2) (t : TickId) (r : Screened) : (s.countScreened k t r).portB = s.portB := by
  unfold State.countScreened; simp only []; split_ifs <;> simp
@[simp] theorem State.countScreened_asm (s : State) (k : Fin 2) (t : TickId) (r : Screened) : (s.countScreened k t r).asm = s.asm := by
  unfold State.countScreened; simp only []; split_ifs <;> simp
@[simp] theorem State.countScreened_store (s : State) (k : Fin 2) (t : TickId) (r : Screened) : (s.countScreened k t r).store = s.store := by
  unfold State.countScreened; simp only []; split_ifs <;> simp
@[simp] theorem State.countScreened_corr (s : State) (k : Fin 2) (t : TickId) (r : Screened) : (s.countScreened k t r).corr = s.corr := by
  unfold State.countScreened; simp only []; split_ifs <;> simp
@[simp] theorem State.countScreened_screens (s : State) (k : Fin 2) (t : TickId) (r : Screened) : (s.countScreened k t r).screens = s.screens := by
  unfold State.countScreened; simp only []; split_ifs <;> simp
@[simp] theorem State.countScreened_dec (s : State) (k : Fin 2) (t : TickId) (r : Screened) : (s.countScreened k t r).dec = s.dec := by
  unfold State.countScreened; simp only []; split_ifs <;> simp
@[simp] theorem State.countScreened_aux (s : State) (k : Fin 2) (t : TickId) (r : Screened) : (s.countScreened k t r).aux = s.aux := by
  unfold State.countScreened; simp only []; split_ifs <;> simp
@[simp] theorem State.countScreened_staging (s : State) (k : Fin 2) (t : TickId) (r : Screened) : (s.countScreened k t r).staging = s.staging := by
  unfold State.countScreened; simp only []; split_ifs <;> simp
@[simp] theorem State.countScreened_settings (s : State) (k : Fin 2) (t : TickId) (r : Screened) : (s.countScreened k t r).settings = s.settings := by
  unfold State.countScreened; simp only []; split_ifs <;> simp
@[simp] theorem State.countScreened_pending (s : State) (k : Fin 2) (t : TickId) (r : Screened) : (s.countScreened k t r).pending = s.pending := by
  unfold State.countScreened; simp only []; split_ifs <;> simp

/-! ### prepareTriad -/

@[simp] theorem State.prepareTriad_phase (s : State) (cc : CloseContext) (k : Fin 2) : (s.prepareTriad cc k).state.phase = s.phase := by
  simp [State.prepareTriad, State.setScreen]
@[simp] theorem State.prepareTriad_tb (s : State) (cc : CloseContext) (k : Fin 2) : (s.prepareTriad cc k).state.tb = s.tb := by
  simp [State.prepareTriad, State.setScreen]
@[simp] theorem State.prepareTriad_portA (s : State) (cc : CloseContext) (k : Fin 2) : (s.prepareTriad cc k).state.portA = s.portA := by
  simp [State.prepareTriad, State.setScreen]
@[simp] theorem State.prepareTriad_portB (s : State) (cc : CloseContext) (k : Fin 2) : (s.prepareTriad cc k).state.portB = s.portB := by
  simp [State.prepareTriad, State.setScreen]
@[simp] theorem State.prepareTriad_asm (s : State) (cc : CloseContext) (k : Fin 2) : (s.prepareTriad cc k).state.asm = s.asm := by
  simp [State.prepareTriad, State.setScreen]
@[simp] theorem State.prepareTriad_store (s : State) (cc : CloseContext) (k : Fin 2) : (s.prepareTriad cc k).state.store = s.store := by
  simp [State.prepareTriad, State.setScreen]
@[simp] theorem State.prepareTriad_corr (s : State) (cc : CloseContext) (k : Fin 2) : (s.prepareTriad cc k).state.corr = s.corr := by
  simp [State.prepareTriad, State.setScreen]
@[simp] theorem State.prepareTriad_dec (s : State) (cc : CloseContext) (k : Fin 2) : (s.prepareTriad cc k).state.dec = s.dec := by
  simp [State.prepareTriad, State.setScreen]
@[simp] theorem State.prepareTriad_link (s : State) (cc : CloseContext) (k : Fin 2) : (s.prepareTriad cc k).state.link = s.link := by
  simp [State.prepareTriad, State.setScreen]
@[simp] theorem State.prepareTriad_aux (s : State) (cc : CloseContext) (k : Fin 2) : (s.prepareTriad cc k).state.aux = s.aux := by
  simp [State.prepareTriad, State.setScreen]
@[simp] theorem State.prepareTriad_staging (s : State) (cc : CloseContext) (k : Fin 2) : (s.prepareTriad cc k).state.staging = s.staging := by
  simp [State.prepareTriad, State.setScreen]
@[simp] theorem State.prepareTriad_settings (s : State) (cc : CloseContext) (k : Fin 2) : (s.prepareTriad cc k).state.settings = s.settings := by
  simp [State.prepareTriad, State.setScreen]
@[simp] theorem State.prepareTriad_pending (s : State) (cc : CloseContext) (k : Fin 2) : (s.prepareTriad cc k).state.pending = s.pending := by
  simp [State.prepareTriad, State.setScreen]

/-! ### runTriad -/

@[simp] theorem State.runTriad_phase (s : State) (cc : CloseContext) (k : Fin 2) (t : TickId) (v : Vector CorrectedSample 16) : (s.runTriad cc k t v).state.phase = s.phase := by
  unfold State.runTriad; simp only []; split <;> simp [State.setScreen]
@[simp] theorem State.runTriad_tb (s : State) (cc : CloseContext) (k : Fin 2) (t : TickId) (v : Vector CorrectedSample 16) : (s.runTriad cc k t v).state.tb = s.tb := by
  unfold State.runTriad; simp only []; split <;> simp [State.setScreen]
@[simp] theorem State.runTriad_portA (s : State) (cc : CloseContext) (k : Fin 2) (t : TickId) (v : Vector CorrectedSample 16) : (s.runTriad cc k t v).state.portA = s.portA := by
  unfold State.runTriad; simp only []; split <;> simp [State.setScreen]
@[simp] theorem State.runTriad_portB (s : State) (cc : CloseContext) (k : Fin 2) (t : TickId) (v : Vector CorrectedSample 16) : (s.runTriad cc k t v).state.portB = s.portB := by
  unfold State.runTriad; simp only []; split <;> simp [State.setScreen]
@[simp] theorem State.runTriad_asm (s : State) (cc : CloseContext) (k : Fin 2) (t : TickId) (v : Vector CorrectedSample 16) : (s.runTriad cc k t v).state.asm = s.asm := by
  unfold State.runTriad; simp only []; split <;> simp [State.setScreen]
@[simp] theorem State.runTriad_store (s : State) (cc : CloseContext) (k : Fin 2) (t : TickId) (v : Vector CorrectedSample 16) : (s.runTriad cc k t v).state.store = s.store := by
  unfold State.runTriad; simp only []; split <;> simp [State.setScreen]
@[simp] theorem State.runTriad_corr (s : State) (cc : CloseContext) (k : Fin 2) (t : TickId) (v : Vector CorrectedSample 16) : (s.runTriad cc k t v).state.corr = s.corr := by
  unfold State.runTriad; simp only []; split <;> simp [State.setScreen]
@[simp] theorem State.runTriad_dec (s : State) (cc : CloseContext) (k : Fin 2) (t : TickId) (v : Vector CorrectedSample 16) : (s.runTriad cc k t v).state.dec = s.dec := by
  unfold State.runTriad; simp only []; split <;> simp [State.setScreen]
@[simp] theorem State.runTriad_aux (s : State) (cc : CloseContext) (k : Fin 2) (t : TickId) (v : Vector CorrectedSample 16) : (s.runTriad cc k t v).state.aux = s.aux := by
  unfold State.runTriad; simp only []; split <;> simp [State.setScreen]
@[simp] theorem State.runTriad_staging (s : State) (cc : CloseContext) (k : Fin 2) (t : TickId) (v : Vector CorrectedSample 16) : (s.runTriad cc k t v).state.staging = s.staging := by
  unfold State.runTriad; simp only []; split <;> simp [State.setScreen]
@[simp] theorem State.runTriad_settings (s : State) (cc : CloseContext) (k : Fin 2) (t : TickId) (v : Vector CorrectedSample 16) : (s.runTriad cc k t v).state.settings = s.settings := by
  unfold State.runTriad; simp only []; split <;> simp [State.setScreen]
@[simp] theorem State.runTriad_pending (s : State) (cc : CloseContext) (k : Fin 2) (t : TickId) (v : Vector CorrectedSample 16) : (s.runTriad cc k t v).state.pending = s.pending := by
  unfold State.runTriad; simp only []; split <;> simp [State.setScreen]

/-! ### combineTriads -/

@[simp] theorem State.combineTriads_phase (s : State) (cc : CloseContext) (t : TickId) (v : Vector CorrectedSample 16) : (s.combineTriads cc t v).1.phase = s.phase := by
  simp [State.combineTriads]
@[simp] theorem State.combineTriads_tb (s : State) (cc : CloseContext) (t : TickId) (v : Vector CorrectedSample 16) : (s.combineTriads cc t v).1.tb = s.tb := by
  simp [State.combineTriads]
@[simp] theorem State.combineTriads_portA (s : State) (cc : CloseContext) (t : TickId) (v : Vector CorrectedSample 16) : (s.combineTriads cc t v).1.portA = s.portA := by
  simp [State.combineTriads]
@[simp] theorem State.combineTriads_portB (s : State) (cc : CloseContext) (t : TickId) (v : Vector CorrectedSample 16) : (s.combineTriads cc t v).1.portB = s.portB := by
  simp [State.combineTriads]
@[simp] theorem State.combineTriads_asm (s : State) (cc : CloseContext) (t : TickId) (v : Vector CorrectedSample 16) : (s.combineTriads cc t v).1.asm = s.asm := by
  simp [State.combineTriads]
@[simp] theorem State.combineTriads_store (s : State) (cc : CloseContext) (t : TickId) (v : Vector CorrectedSample 16) : (s.combineTriads cc t v).1.store = s.store := by
  simp [State.combineTriads]
@[simp] theorem State.combineTriads_corr (s : State) (cc : CloseContext) (t : TickId) (v : Vector CorrectedSample 16) : (s.combineTriads cc t v).1.corr = s.corr := by
  simp [State.combineTriads]
@[simp] theorem State.combineTriads_dec (s : State) (cc : CloseContext) (t : TickId) (v : Vector CorrectedSample 16) : (s.combineTriads cc t v).1.dec = s.dec := by
  simp [State.combineTriads]
@[simp] theorem State.combineTriads_aux (s : State) (cc : CloseContext) (t : TickId) (v : Vector CorrectedSample 16) : (s.combineTriads cc t v).1.aux = s.aux := by
  simp [State.combineTriads]
@[simp] theorem State.combineTriads_staging (s : State) (cc : CloseContext) (t : TickId) (v : Vector CorrectedSample 16) : (s.combineTriads cc t v).1.staging = s.staging := by
  simp [State.combineTriads]
@[simp] theorem State.combineTriads_settings (s : State) (cc : CloseContext) (t : TickId) (v : Vector CorrectedSample 16) : (s.combineTriads cc t v).1.settings = s.settings := by
  simp [State.combineTriads]
@[simp] theorem State.combineTriads_pending (s : State) (cc : CloseContext) (t : TickId) (v : Vector CorrectedSample 16) : (s.combineTriads cc t v).1.pending = s.pending := by
  simp [State.combineTriads]

/-! ### formMinute -/

@[simp] theorem State.formMinute_phase (s : State) (c : Configuration) (m : Nat) : (s.formMinute c m).phase = s.phase := by
  unfold State.formMinute; simp only []; split <;> simp
@[simp] theorem State.formMinute_tb (s : State) (c : Configuration) (m : Nat) : (s.formMinute c m).tb = s.tb := by
  unfold State.formMinute; simp only []; split <;> simp
@[simp] theorem State.formMinute_portA (s : State) (c : Configuration) (m : Nat) : (s.formMinute c m).portA = s.portA := by
  unfold State.formMinute; simp only []; split <;> simp
@[simp] theorem State.formMinute_portB (s : State) (c : Configuration) (m : Nat) : (s.formMinute c m).portB = s.portB := by
  unfold State.formMinute; simp only []; split <;> simp
@[simp] theorem State.formMinute_asm (s : State) (c : Configuration) (m : Nat) : (s.formMinute c m).asm = s.asm := by
  unfold State.formMinute; simp only []; split <;> simp
@[simp] theorem State.formMinute_store (s : State) (c : Configuration) (m : Nat) : (s.formMinute c m).store = s.store := by
  unfold State.formMinute; simp only []; split <;> simp
@[simp] theorem State.formMinute_corr (s : State) (c : Configuration) (m : Nat) : (s.formMinute c m).corr = s.corr := by
  unfold State.formMinute; simp only []; split <;> simp
@[simp] theorem State.formMinute_screens (s : State) (c : Configuration) (m : Nat) : (s.formMinute c m).screens = s.screens := by
  unfold State.formMinute; simp only []; split <;> simp
@[simp] theorem State.formMinute_aux (s : State) (c : Configuration) (m : Nat) : (s.formMinute c m).aux = s.aux := by
  unfold State.formMinute; simp only []; split <;> simp
@[simp] theorem State.formMinute_staging (s : State) (c : Configuration) (m : Nat) : (s.formMinute c m).staging = s.staging := by
  unfold State.formMinute; simp only []; split <;> simp
@[simp] theorem State.formMinute_settings (s : State) (c : Configuration) (m : Nat) : (s.formMinute c m).settings = s.settings := by
  unfold State.formMinute; simp only []; split <;> simp
@[simp] theorem State.formMinute_pending (s : State) (c : Configuration) (m : Nat) : (s.formMinute c m).pending = s.pending := by
  unfold State.formMinute; simp only []; split <;> simp

/-! ### formMinutes -/

@[simp] theorem State.formMinutes_phase (s : State) (c : Configuration) (n : Num32) (f : Nat) : (s.formMinutes c n f).phase = s.phase := by
  induction f generalizing s with
  | zero => rfl
  | succ f ih =>
    unfold State.formMinutes; split
    · rfl
    · split <;> simp [ih]
@[simp] theorem State.formMinutes_tb (s : State) (c : Configuration) (n : Num32) (f : Nat) : (s.formMinutes c n f).tb = s.tb := by
  induction f generalizing s with
  | zero => rfl
  | succ f ih =>
    unfold State.formMinutes; split
    · rfl
    · split <;> simp [ih]
@[simp] theorem State.formMinutes_portA (s : State) (c : Configuration) (n : Num32) (f : Nat) : (s.formMinutes c n f).portA = s.portA := by
  induction f generalizing s with
  | zero => rfl
  | succ f ih =>
    unfold State.formMinutes; split
    · rfl
    · split <;> simp [ih]
@[simp] theorem State.formMinutes_portB (s : State) (c : Configuration) (n : Num32) (f : Nat) : (s.formMinutes c n f).portB = s.portB := by
  induction f generalizing s with
  | zero => rfl
  | succ f ih =>
    unfold State.formMinutes; split
    · rfl
    · split <;> simp [ih]
@[simp] theorem State.formMinutes_asm (s : State) (c : Configuration) (n : Num32) (f : Nat) : (s.formMinutes c n f).asm = s.asm := by
  induction f generalizing s with
  | zero => rfl
  | succ f ih =>
    unfold State.formMinutes; split
    · rfl
    · split <;> simp [ih]
@[simp] theorem State.formMinutes_store (s : State) (c : Configuration) (n : Num32) (f : Nat) : (s.formMinutes c n f).store = s.store := by
  induction f generalizing s with
  | zero => rfl
  | succ f ih =>
    unfold State.formMinutes; split
    · rfl
    · split <;> simp [ih]
@[simp] theorem State.formMinutes_corr (s : State) (c : Configuration) (n : Num32) (f : Nat) : (s.formMinutes c n f).corr = s.corr := by
  induction f generalizing s with
  | zero => rfl
  | succ f ih =>
    unfold State.formMinutes; split
    · rfl
    · split <;> simp [ih]
@[simp] theorem State.formMinutes_screens (s : State) (c : Configuration) (n : Num32) (f : Nat) : (s.formMinutes c n f).screens = s.screens := by
  induction f generalizing s with
  | zero => rfl
  | succ f ih =>
    unfold State.formMinutes; split
    · rfl
    · split <;> simp [ih]
@[simp] theorem State.formMinutes_aux (s : State) (c : Configuration) (n : Num32) (f : Nat) : (s.formMinutes c n f).aux = s.aux := by
  induction f generalizing s with
  | zero => rfl
  | succ f ih =>
    unfold State.formMinutes; split
    · rfl
    · split <;> simp [ih]
@[simp] theorem State.formMinutes_staging (s : State) (c : Configuration) (n : Num32) (f : Nat) : (s.formMinutes c n f).staging = s.staging := by
  induction f generalizing s with
  | zero => rfl
  | succ f ih =>
    unfold State.formMinutes; split
    · rfl
    · split <;> simp [ih]
@[simp] theorem State.formMinutes_settings (s : State) (c : Configuration) (n : Num32) (f : Nat) : (s.formMinutes c n f).settings = s.settings := by
  induction f generalizing s with
  | zero => rfl
  | succ f ih =>
    unfold State.formMinutes; split
    · rfl
    · split <;> simp [ih]
@[simp] theorem State.formMinutes_pending (s : State) (c : Configuration) (n : Num32) (f : Nat) : (s.formMinutes c n f).pending = s.pending := by
  induction f generalizing s with
  | zero => rfl
  | succ f ih =>
    unfold State.formMinutes; split
    · rfl
    · split <;> simp [ih]

/-! ### scheduleMinutes -/

@[simp] theorem State.scheduleMinutes_phase (s : State) (c : Configuration) (n : Num32) : (s.scheduleMinutes c n).phase = s.phase := by
  simp [State.scheduleMinutes]
@[simp] theorem State.scheduleMinutes_tb (s : State) (c : Configuration) (n : Num32) : (s.scheduleMinutes c n).tb = s.tb := by
  simp [State.scheduleMinutes]
@[simp] theorem State.scheduleMinutes_portA (s : State) (c : Configuration) (n : Num32) : (s.scheduleMinutes c n).portA = s.portA := by
  simp [State.scheduleMinutes]
@[simp] theorem State.scheduleMinutes_portB (s : State) (c : Configuration) (n : Num32) : (s.scheduleMinutes c n).portB = s.portB := by
  simp [State.scheduleMinutes]
@[simp] theorem State.scheduleMinutes_asm (s : State) (c : Configuration) (n : Num32) : (s.scheduleMinutes c n).asm = s.asm := by
  simp [State.scheduleMinutes]
@[simp] theorem State.scheduleMinutes_store (s : State) (c : Configuration) (n : Num32) : (s.scheduleMinutes c n).store = s.store := by
  simp [State.scheduleMinutes]
@[simp] theorem State.scheduleMinutes_corr (s : State) (c : Configuration) (n : Num32) : (s.scheduleMinutes c n).corr = s.corr := by
  simp [State.scheduleMinutes]
@[simp] theorem State.scheduleMinutes_screens (s : State) (c : Configuration) (n : Num32) : (s.scheduleMinutes c n).screens = s.screens := by
  simp [State.scheduleMinutes]
@[simp] theorem State.scheduleMinutes_aux (s : State) (c : Configuration) (n : Num32) : (s.scheduleMinutes c n).aux = s.aux := by
  simp [State.scheduleMinutes]
@[simp] theorem State.scheduleMinutes_staging (s : State) (c : Configuration) (n : Num32) : (s.scheduleMinutes c n).staging = s.staging := by
  simp [State.scheduleMinutes]
@[simp] theorem State.scheduleMinutes_settings (s : State) (c : Configuration) (n : Num32) : (s.scheduleMinutes c n).settings = s.settings := by
  simp [State.scheduleMinutes]
@[simp] theorem State.scheduleMinutes_pending (s : State) (c : Configuration) (n : Num32) : (s.scheduleMinutes c n).pending = s.pending := by
  simp [State.scheduleMinutes]

/-! ### computeSecond -/

@[simp] theorem State.computeSecond_phase (s : State) (c : Configuration) (e : PendingSecond) : (State.computeSecond c s e).phase = s.phase := by
  unfold State.computeSecond; simp only []; split_ifs <;> simp
@[simp] theorem State.computeSecond_tb (s : State) (c : Configuration) (e : PendingSecond) : (State.computeSecond c s e).tb = s.tb := by
  unfold State.computeSecond; simp only []; split_ifs <;> simp
@[simp] theorem State.computeSecond_portA (s : State) (c : Configuration) (e : PendingSecond) : (State.computeSecond c s e).portA = s.portA := by
  unfold State.computeSecond; simp only []; split_ifs <;> simp
@[simp] theorem State.computeSecond_portB (s : State) (c : Configuration) (e : PendingSecond) : (State.computeSecond c s e).portB = s.portB := by
  unfold State.computeSecond; simp only []; split_ifs <;> simp
@[simp] theorem State.computeSecond_asm (s : State) (c : Configuration) (e : PendingSecond) : (State.computeSecond c s e).asm = s.asm := by
  unfold State.computeSecond; simp only []; split_ifs <;> simp
@[simp] theorem State.computeSecond_store (s : State) (c : Configuration) (e : PendingSecond) : (State.computeSecond c s e).store = s.store := by
  unfold State.computeSecond; simp only []; split_ifs <;> simp
@[simp] theorem State.computeSecond_corr (s : State) (c : Configuration) (e : PendingSecond) : (State.computeSecond c s e).corr = s.corr := by
  unfold State.computeSecond; simp only []; split_ifs <;> simp
@[simp] theorem State.computeSecond_screens (s : State) (c : Configuration) (e : PendingSecond) : (State.computeSecond c s e).screens = s.screens := by
  unfold State.computeSecond; simp only []; split_ifs <;> simp
@[simp] theorem State.computeSecond_aux (s : State) (c : Configuration) (e : PendingSecond) : (State.computeSecond c s e).aux = s.aux := by
  unfold State.computeSecond; simp only []; split_ifs <;> simp
@[simp] theorem State.computeSecond_staging (s : State) (c : Configuration) (e : PendingSecond) : (State.computeSecond c s e).staging = s.staging := by
  unfold State.computeSecond; simp only []; split_ifs <;> simp
@[simp] theorem State.computeSecond_settings (s : State) (c : Configuration) (e : PendingSecond) : (State.computeSecond c s e).settings = s.settings := by
  unfold State.computeSecond; simp only []; split_ifs <;> simp
@[simp] theorem State.computeSecond_pending (s : State) (c : Configuration) (e : PendingSecond) : (State.computeSecond c s e).pending = s.pending := by
  unfold State.computeSecond; simp only []; split_ifs <;> simp

/-! ### decimate -/

@[simp] theorem State.decimate_phase (s : State) (cc : CloseContext) (t : TickId) (v : Vector CorrectedSample 16) (a : Bool × Bool) (b : List Decision × List Decision) : (s.decimate cc t v a b).phase = s.phase := by
  unfold State.decimate; simp only []
  rw [foldl_frame (fun x : State => x.phase) _ (fun b a => by simp)]; simp
@[simp] theorem State.decimate_tb (s : State) (cc : CloseContext) (t : TickId) (v : Vector CorrectedSample 16) (a : Bool × Bool) (b : List Decision × List Decision) : (s.decimate cc t v a b).tb = s.tb := by
  unfold State.decimate; simp only []
  rw [foldl_frame (fun x : State => x.tb) _ (fun b a => by simp)]; simp
@[simp] theorem State.decimate_portA (s : State) (cc : CloseContext) (t : TickId) (v : Vector CorrectedSample 16) (a : Bool × Bool) (b : List Decision × List Decision) : (s.decimate cc t v a b).portA = s.portA := by
  unfold State.decimate; simp only []
  rw [foldl_frame (fun x : State => x.portA) _ (fun b a => by simp)]; simp
@[simp] theorem State.decimate_portB (s : State) (cc : CloseContext) (t : TickId) (v : Vector CorrectedSample 16) (a : Bool × Bool) (b : List Decision × List Decision) : (s.decimate cc t v a b).portB = s.portB := by
  unfold State.decimate; simp only []
  rw [foldl_frame (fun x : State => x.portB) _ (fun b a => by simp)]; simp
@[simp] theorem State.decimate_asm (s : State) (cc : CloseContext) (t : TickId) (v : Vector CorrectedSample 16) (a : Bool × Bool) (b : List Decision × List Decision) : (s.decimate cc t v a b).asm = s.asm := by
  unfold State.decimate; simp only []
  rw [foldl_frame (fun x : State => x.asm) _ (fun b a => by simp)]; simp
@[simp] theorem State.decimate_store (s : State) (cc : CloseContext) (t : TickId) (v : Vector CorrectedSample 16) (a : Bool × Bool) (b : List Decision × List Decision) : (s.decimate cc t v a b).store = s.store := by
  unfold State.decimate; simp only []
  rw [foldl_frame (fun x : State => x.store) _ (fun b a => by simp)]; simp
@[simp] theorem State.decimate_corr (s : State) (cc : CloseContext) (t : TickId) (v : Vector CorrectedSample 16) (a : Bool × Bool) (b : List Decision × List Decision) : (s.decimate cc t v a b).corr = s.corr := by
  unfold State.decimate; simp only []
  rw [foldl_frame (fun x : State => x.corr) _ (fun b a => by simp)]; simp
@[simp] theorem State.decimate_screens (s : State) (cc : CloseContext) (t : TickId) (v : Vector CorrectedSample 16) (a : Bool × Bool) (b : List Decision × List Decision) : (s.decimate cc t v a b).screens = s.screens := by
  unfold State.decimate; simp only []
  rw [foldl_frame (fun x : State => x.screens) _ (fun b a => by simp)]; simp
@[simp] theorem State.decimate_aux (s : State) (cc : CloseContext) (t : TickId) (v : Vector CorrectedSample 16) (a : Bool × Bool) (b : List Decision × List Decision) : (s.decimate cc t v a b).aux = s.aux := by
  unfold State.decimate; simp only []
  rw [foldl_frame (fun x : State => x.aux) _ (fun b a => by simp)]; simp
@[simp] theorem State.decimate_staging (s : State) (cc : CloseContext) (t : TickId) (v : Vector CorrectedSample 16) (a : Bool × Bool) (b : List Decision × List Decision) : (s.decimate cc t v a b).staging = s.staging := by
  unfold State.decimate; simp only []
  rw [foldl_frame (fun x : State => x.staging) _ (fun b a => by simp)]; simp
@[simp] theorem State.decimate_settings (s : State) (cc : CloseContext) (t : TickId) (v : Vector CorrectedSample 16) (a : Bool × Bool) (b : List Decision × List Decision) : (s.decimate cc t v a b).settings = s.settings := by
  unfold State.decimate; simp only []
  rw [foldl_frame (fun x : State => x.settings) _ (fun b a => by simp)]; simp
@[simp] theorem State.decimate_pending (s : State) (cc : CloseContext) (t : TickId) (v : Vector CorrectedSample 16) (a : Bool × Bool) (b : List Decision × List Decision) : (s.decimate cc t v a b).pending = s.pending := by
  unfold State.decimate; simp only []
  rw [foldl_frame (fun x : State => x.pending) _ (fun b a => by simp)]; simp

/-! ### closeTick -/

@[simp] theorem State.closeTick_phase (s : State) (cc : CloseContext) (t : OpenTick) : (s.closeTick cc t).phase = s.phase := by simp [State.closeTick]
@[simp] theorem State.closeTick_tb (s : State) (cc : CloseContext) (t : OpenTick) : (s.closeTick cc t).tb = s.tb := by simp [State.closeTick]
@[simp] theorem State.closeTick_portA (s : State) (cc : CloseContext) (t : OpenTick) : (s.closeTick cc t).portA = s.portA := by simp [State.closeTick]
@[simp] theorem State.closeTick_portB (s : State) (cc : CloseContext) (t : OpenTick) : (s.closeTick cc t).portB = s.portB := by simp [State.closeTick]
@[simp] theorem State.closeTick_asm (s : State) (cc : CloseContext) (t : OpenTick) : (s.closeTick cc t).asm = s.asm := by simp [State.closeTick]
@[simp] theorem State.closeTick_store (s : State) (cc : CloseContext) (t : OpenTick) : (s.closeTick cc t).store = s.store := by simp [State.closeTick]
@[simp] theorem State.closeTick_aux (s : State) (cc : CloseContext) (t : OpenTick) : (s.closeTick cc t).aux = s.aux := by simp [State.closeTick]
@[simp] theorem State.closeTick_staging (s : State) (cc : CloseContext) (t : OpenTick) : (s.closeTick cc t).staging = s.staging := by simp [State.closeTick]
@[simp] theorem State.closeTick_settings (s : State) (cc : CloseContext) (t : OpenTick) : (s.closeTick cc t).settings = s.settings := by simp [State.closeTick]
@[simp] theorem State.closeTick_pending (s : State) (cc : CloseContext) (t : OpenTick) : (s.closeTick cc t).pending = s.pending := by simp [State.closeTick]

/-! ### endClose -/

@[simp] theorem State.endClose_phase (s : State) : s.endClose.phase = s.phase := by simp [State.endClose]
@[simp] theorem State.endClose_tb (s : State) : s.endClose.tb = s.tb := by simp [State.endClose]
@[simp] theorem State.endClose_portA (s : State) : s.endClose.portA = s.portA := by simp [State.endClose]
@[simp] theorem State.endClose_portB (s : State) : s.endClose.portB = s.portB := by simp [State.endClose]
@[simp] theorem State.endClose_store (s : State) : s.endClose.store = s.store := by simp [State.endClose]
@[simp] theorem State.endClose_corr (s : State) : s.endClose.corr = s.corr := by simp [State.endClose]
@[simp] theorem State.endClose_screens (s : State) : s.endClose.screens = s.screens := by simp [State.endClose]
@[simp] theorem State.endClose_dec (s : State) : s.endClose.dec = s.dec := by simp [State.endClose]
@[simp] theorem State.endClose_link (s : State) : s.endClose.link = s.link := by simp [State.endClose]
@[simp] theorem State.endClose_status (s : State) : s.endClose.status = s.status := by simp [State.endClose]
@[simp] theorem State.endClose_aux (s : State) : s.endClose.aux = s.aux := by simp [State.endClose]
@[simp] theorem State.endClose_staging (s : State) : s.endClose.staging = s.staging := by simp [State.endClose]
@[simp] theorem State.endClose_settings (s : State) : s.endClose.settings = s.settings := by simp [State.endClose]
@[simp] theorem State.endClose_pending (s : State) : s.endClose.pending = s.pending := by simp [State.endClose]

/-! ### upstreamBad -/

@[simp] theorem State.upstreamBad_phase (s : State) : s.upstreamBad.phase = s.phase := rfl
@[simp] theorem State.upstreamBad_tb (s : State) : s.upstreamBad.tb = s.tb := rfl
@[simp] theorem State.upstreamBad_portA (s : State) : s.upstreamBad.portA = s.portA := rfl
@[simp] theorem State.upstreamBad_portB (s : State) : s.upstreamBad.portB = s.portB := rfl
@[simp] theorem State.upstreamBad_asm (s : State) : s.upstreamBad.asm = s.asm := rfl
@[simp] theorem State.upstreamBad_store (s : State) : s.upstreamBad.store = s.store := rfl
@[simp] theorem State.upstreamBad_corr (s : State) : s.upstreamBad.corr = s.corr := rfl
@[simp] theorem State.upstreamBad_screens (s : State) : s.upstreamBad.screens = s.screens := rfl
@[simp] theorem State.upstreamBad_dec (s : State) : s.upstreamBad.dec = s.dec := rfl
@[simp] theorem State.upstreamBad_link (s : State) : s.upstreamBad.link = s.link := rfl
@[simp] theorem State.upstreamBad_aux (s : State) : s.upstreamBad.aux = s.aux := rfl
@[simp] theorem State.upstreamBad_staging (s : State) : s.upstreamBad.staging = s.staging := rfl
@[simp] theorem State.upstreamBad_settings (s : State) : s.upstreamBad.settings = s.settings := rfl
@[simp] theorem State.upstreamBad_pending (s : State) : s.upstreamBad.pending = s.pending := rfl

/-! ### confirmTrial -/

@[simp] theorem State.confirmTrial_phase (s : State) : s.confirmTrial.phase = s.phase := by unfold State.confirmTrial; split <;> simp
@[simp] theorem State.confirmTrial_tb (s : State) : s.confirmTrial.tb = s.tb := by unfold State.confirmTrial; split <;> simp
@[simp] theorem State.confirmTrial_portA (s : State) : s.confirmTrial.portA = s.portA := by unfold State.confirmTrial; split <;> simp
@[simp] theorem State.confirmTrial_portB (s : State) : s.confirmTrial.portB = s.portB := by unfold State.confirmTrial; split <;> simp
@[simp] theorem State.confirmTrial_asm (s : State) : s.confirmTrial.asm = s.asm := by unfold State.confirmTrial; split <;> simp
@[simp] theorem State.confirmTrial_store (s : State) : s.confirmTrial.store = s.store := by unfold State.confirmTrial; split <;> simp
@[simp] theorem State.confirmTrial_corr (s : State) : s.confirmTrial.corr = s.corr := by unfold State.confirmTrial; split <;> simp
@[simp] theorem State.confirmTrial_screens (s : State) : s.confirmTrial.screens = s.screens := by unfold State.confirmTrial; split <;> simp
@[simp] theorem State.confirmTrial_dec (s : State) : s.confirmTrial.dec = s.dec := by unfold State.confirmTrial; split <;> simp
@[simp] theorem State.confirmTrial_status (s : State) : s.confirmTrial.status = s.status := by unfold State.confirmTrial; split <;> simp
@[simp] theorem State.confirmTrial_aux (s : State) : s.confirmTrial.aux = s.aux := by unfold State.confirmTrial; split <;> simp
@[simp] theorem State.confirmTrial_staging (s : State) : s.confirmTrial.staging = s.staging := by unfold State.confirmTrial; split <;> simp
@[simp] theorem State.confirmTrial_pending (s : State) : s.confirmTrial.pending = s.pending := by unfold State.confirmTrial; split <;> simp

/-! ### joinRequest -/

@[simp] theorem State.joinRequest_phase (s : State) (q : Request) : (s.joinRequest q).phase = s.phase := by unfold State.joinRequest; split <;> simp
@[simp] theorem State.joinRequest_tb (s : State) (q : Request) : (s.joinRequest q).tb = s.tb := by unfold State.joinRequest; split <;> simp
@[simp] theorem State.joinRequest_portA (s : State) (q : Request) : (s.joinRequest q).portA = s.portA := by unfold State.joinRequest; split <;> simp
@[simp] theorem State.joinRequest_portB (s : State) (q : Request) : (s.joinRequest q).portB = s.portB := by unfold State.joinRequest; split <;> simp
@[simp] theorem State.joinRequest_asm (s : State) (q : Request) : (s.joinRequest q).asm = s.asm := by unfold State.joinRequest; split <;> simp
@[simp] theorem State.joinRequest_store (s : State) (q : Request) : (s.joinRequest q).store = s.store := by unfold State.joinRequest; split <;> simp
@[simp] theorem State.joinRequest_corr (s : State) (q : Request) : (s.joinRequest q).corr = s.corr := by unfold State.joinRequest; split <;> simp
@[simp] theorem State.joinRequest_screens (s : State) (q : Request) : (s.joinRequest q).screens = s.screens := by unfold State.joinRequest; split <;> simp
@[simp] theorem State.joinRequest_dec (s : State) (q : Request) : (s.joinRequest q).dec = s.dec := by unfold State.joinRequest; split <;> simp
@[simp] theorem State.joinRequest_aux (s : State) (q : Request) : (s.joinRequest q).aux = s.aux := by unfold State.joinRequest; split <;> simp
@[simp] theorem State.joinRequest_staging (s : State) (q : Request) : (s.joinRequest q).staging = s.staging := by unfold State.joinRequest; split <;> simp
@[simp] theorem State.joinRequest_settings (s : State) (q : Request) : (s.joinRequest q).settings = s.settings := by unfold State.joinRequest; split <;> simp
@[simp] theorem State.joinRequest_pending (s : State) (q : Request) : (s.joinRequest q).pending = s.pending := by unfold State.joinRequest; split <;> simp

/-! ### judgeFrame -/

@[simp] theorem State.judgeFrame_phase (s : State) (n : Nat) (l : List Byte) : (s.judgeFrame n l).phase = s.phase := by
  unfold State.judgeFrame; split <;> simp
@[simp] theorem State.judgeFrame_tb (s : State) (n : Nat) (l : List Byte) : (s.judgeFrame n l).tb = s.tb := by
  unfold State.judgeFrame; split <;> simp
@[simp] theorem State.judgeFrame_portA (s : State) (n : Nat) (l : List Byte) : (s.judgeFrame n l).portA = s.portA := by
  unfold State.judgeFrame; split <;> simp
@[simp] theorem State.judgeFrame_portB (s : State) (n : Nat) (l : List Byte) : (s.judgeFrame n l).portB = s.portB := by
  unfold State.judgeFrame; split <;> simp
@[simp] theorem State.judgeFrame_asm (s : State) (n : Nat) (l : List Byte) : (s.judgeFrame n l).asm = s.asm := by
  unfold State.judgeFrame; split <;> simp
@[simp] theorem State.judgeFrame_store (s : State) (n : Nat) (l : List Byte) : (s.judgeFrame n l).store = s.store := by
  unfold State.judgeFrame; split <;> simp
@[simp] theorem State.judgeFrame_corr (s : State) (n : Nat) (l : List Byte) : (s.judgeFrame n l).corr = s.corr := by
  unfold State.judgeFrame; split <;> simp
@[simp] theorem State.judgeFrame_screens (s : State) (n : Nat) (l : List Byte) : (s.judgeFrame n l).screens = s.screens := by
  unfold State.judgeFrame; split <;> simp
@[simp] theorem State.judgeFrame_dec (s : State) (n : Nat) (l : List Byte) : (s.judgeFrame n l).dec = s.dec := by
  unfold State.judgeFrame; split <;> simp
@[simp] theorem State.judgeFrame_aux (s : State) (n : Nat) (l : List Byte) : (s.judgeFrame n l).aux = s.aux := by
  unfold State.judgeFrame; split <;> simp
@[simp] theorem State.judgeFrame_staging (s : State) (n : Nat) (l : List Byte) : (s.judgeFrame n l).staging = s.staging := by
  unfold State.judgeFrame; split <;> simp
@[simp] theorem State.judgeFrame_settings (s : State) (n : Nat) (l : List Byte) : (s.judgeFrame n l).settings = s.settings := by
  unfold State.judgeFrame; split <;> simp
@[simp] theorem State.judgeFrame_pending (s : State) (n : Nat) (l : List Byte) : (s.judgeFrame n l).pending = s.pending := by
  unfold State.judgeFrame; split <;> simp

/-! ### frameArrived -/

@[simp] theorem State.frameArrived_phase (s : State) (n : Nat) (l : List Byte) : (s.frameArrived n l).phase = s.phase := by
  unfold State.frameArrived; split <;> simp
@[simp] theorem State.frameArrived_tb (s : State) (n : Nat) (l : List Byte) : (s.frameArrived n l).tb = s.tb := by
  unfold State.frameArrived; split <;> simp
@[simp] theorem State.frameArrived_portA (s : State) (n : Nat) (l : List Byte) : (s.frameArrived n l).portA = s.portA := by
  unfold State.frameArrived; split <;> simp
@[simp] theorem State.frameArrived_portB (s : State) (n : Nat) (l : List Byte) : (s.frameArrived n l).portB = s.portB := by
  unfold State.frameArrived; split <;> simp
@[simp] theorem State.frameArrived_asm (s : State) (n : Nat) (l : List Byte) : (s.frameArrived n l).asm = s.asm := by
  unfold State.frameArrived; split <;> simp
@[simp] theorem State.frameArrived_store (s : State) (n : Nat) (l : List Byte) : (s.frameArrived n l).store = s.store := by
  unfold State.frameArrived; split <;> simp
@[simp] theorem State.frameArrived_corr (s : State) (n : Nat) (l : List Byte) : (s.frameArrived n l).corr = s.corr := by
  unfold State.frameArrived; split <;> simp
@[simp] theorem State.frameArrived_screens (s : State) (n : Nat) (l : List Byte) : (s.frameArrived n l).screens = s.screens := by
  unfold State.frameArrived; split <;> simp
@[simp] theorem State.frameArrived_dec (s : State) (n : Nat) (l : List Byte) : (s.frameArrived n l).dec = s.dec := by
  unfold State.frameArrived; split <;> simp
@[simp] theorem State.frameArrived_aux (s : State) (n : Nat) (l : List Byte) : (s.frameArrived n l).aux = s.aux := by
  unfold State.frameArrived; split <;> simp
@[simp] theorem State.frameArrived_staging (s : State) (n : Nat) (l : List Byte) : (s.frameArrived n l).staging = s.staging := by
  unfold State.frameArrived; split <;> simp
@[simp] theorem State.frameArrived_pending (s : State) (n : Nat) (l : List Byte) : (s.frameArrived n l).pending = s.pending := by
  unfold State.frameArrived; split <;> simp

/-! ### lateFrameArrived -/

@[simp] theorem State.lateFrameArrived_phase (s : State) (n : Nat) (l : List Byte) : (s.lateFrameArrived n l).phase = s.phase := by
  unfold State.lateFrameArrived; split <;> simp
@[simp] theorem State.lateFrameArrived_tb (s : State) (n : Nat) (l : List Byte) : (s.lateFrameArrived n l).tb = s.tb := by
  unfold State.lateFrameArrived; split <;> simp
@[simp] theorem State.lateFrameArrived_portA (s : State) (n : Nat) (l : List Byte) : (s.lateFrameArrived n l).portA = s.portA := by
  unfold State.lateFrameArrived; split <;> simp
@[simp] theorem State.lateFrameArrived_portB (s : State) (n : Nat) (l : List Byte) : (s.lateFrameArrived n l).portB = s.portB := by
  unfold State.lateFrameArrived; split <;> simp
@[simp] theorem State.lateFrameArrived_asm (s : State) (n : Nat) (l : List Byte) : (s.lateFrameArrived n l).asm = s.asm := by
  unfold State.lateFrameArrived; split <;> simp
@[simp] theorem State.lateFrameArrived_store (s : State) (n : Nat) (l : List Byte) : (s.lateFrameArrived n l).store = s.store := by
  unfold State.lateFrameArrived; split <;> simp
@[simp] theorem State.lateFrameArrived_corr (s : State) (n : Nat) (l : List Byte) : (s.lateFrameArrived n l).corr = s.corr := by
  unfold State.lateFrameArrived; split <;> simp
@[simp] theorem State.lateFrameArrived_screens (s : State) (n : Nat) (l : List Byte) : (s.lateFrameArrived n l).screens = s.screens := by
  unfold State.lateFrameArrived; split <;> simp
@[simp] theorem State.lateFrameArrived_dec (s : State) (n : Nat) (l : List Byte) : (s.lateFrameArrived n l).dec = s.dec := by
  unfold State.lateFrameArrived; split <;> simp
@[simp] theorem State.lateFrameArrived_aux (s : State) (n : Nat) (l : List Byte) : (s.lateFrameArrived n l).aux = s.aux := by
  unfold State.lateFrameArrived; split <;> simp
@[simp] theorem State.lateFrameArrived_staging (s : State) (n : Nat) (l : List Byte) : (s.lateFrameArrived n l).staging = s.staging := by
  unfold State.lateFrameArrived; split <;> simp
@[simp] theorem State.lateFrameArrived_pending (s : State) (n : Nat) (l : List Byte) : (s.lateFrameArrived n l).pending = s.pending := by
  unfold State.lateFrameArrived; split <;> simp

/-! ### huntByte, linkByte -/

@[simp] theorem State.huntByte_phase (s : State) (b : Byte) : (s.huntByte b).phase = s.phase := by
  unfold State.huntByte; simp only []; split <;> (try split_ifs) <;> simp
@[simp] theorem State.huntByte_tb (s : State) (b : Byte) : (s.huntByte b).tb = s.tb := by
  unfold State.huntByte; simp only []; split <;> (try split_ifs) <;> simp
@[simp] theorem State.huntByte_portA (s : State) (b : Byte) : (s.huntByte b).portA = s.portA := by
  unfold State.huntByte; simp only []; split <;> (try split_ifs) <;> simp
@[simp] theorem State.huntByte_portB (s : State) (b : Byte) : (s.huntByte b).portB = s.portB := by
  unfold State.huntByte; simp only []; split <;> (try split_ifs) <;> simp
@[simp] theorem State.huntByte_asm (s : State) (b : Byte) : (s.huntByte b).asm = s.asm := by
  unfold State.huntByte; simp only []; split <;> (try split_ifs) <;> simp
@[simp] theorem State.huntByte_store (s : State) (b : Byte) : (s.huntByte b).store = s.store := by
  unfold State.huntByte; simp only []; split <;> (try split_ifs) <;> simp
@[simp] theorem State.huntByte_corr (s : State) (b : Byte) : (s.huntByte b).corr = s.corr := by
  unfold State.huntByte; simp only []; split <;> (try split_ifs) <;> simp
@[simp] theorem State.huntByte_screens (s : State) (b : Byte) : (s.huntByte b).screens = s.screens := by
  unfold State.huntByte; simp only []; split <;> (try split_ifs) <;> simp
@[simp] theorem State.huntByte_dec (s : State) (b : Byte) : (s.huntByte b).dec = s.dec := by
  unfold State.huntByte; simp only []; split <;> (try split_ifs) <;> simp
@[simp] theorem State.huntByte_aux (s : State) (b : Byte) : (s.huntByte b).aux = s.aux := by
  unfold State.huntByte; simp only []; split <;> (try split_ifs) <;> simp
@[simp] theorem State.huntByte_staging (s : State) (b : Byte) : (s.huntByte b).staging = s.staging := by
  unfold State.huntByte; simp only []; split <;> (try split_ifs) <;> simp
@[simp] theorem State.huntByte_pending (s : State) (b : Byte) : (s.huntByte b).pending = s.pending := by
  unfold State.huntByte; simp only []; split <;> (try split_ifs) <;> simp
@[simp] theorem State.linkByte_phase (s : State) (b : Byte) : (s.linkByte b).phase = s.phase := by
  unfold State.linkByte; simp only []; split <;> (try split_ifs) <;> simp
@[simp] theorem State.linkByte_tb (s : State) (b : Byte) : (s.linkByte b).tb = s.tb := by
  unfold State.linkByte; simp only []; split <;> (try split_ifs) <;> simp
@[simp] theorem State.linkByte_portA (s : State) (b : Byte) : (s.linkByte b).portA = s.portA := by
  unfold State.linkByte; simp only []; split <;> (try split_ifs) <;> simp
@[simp] theorem State.linkByte_portB (s : State) (b : Byte) : (s.linkByte b).portB = s.portB := by
  unfold State.linkByte; simp only []; split <;> (try split_ifs) <;> simp
@[simp] theorem State.linkByte_asm (s : State) (b : Byte) : (s.linkByte b).asm = s.asm := by
  unfold State.linkByte; simp only []; split <;> (try split_ifs) <;> simp
@[simp] theorem State.linkByte_store (s : State) (b : Byte) : (s.linkByte b).store = s.store := by
  unfold State.linkByte; simp only []; split <;> (try split_ifs) <;> simp
@[simp] theorem State.linkByte_corr (s : State) (b : Byte) : (s.linkByte b).corr = s.corr := by
  unfold State.linkByte; simp only []; split <;> (try split_ifs) <;> simp
@[simp] theorem State.linkByte_screens (s : State) (b : Byte) : (s.linkByte b).screens = s.screens := by
  unfold State.linkByte; simp only []; split <;> (try split_ifs) <;> simp
@[simp] theorem State.linkByte_dec (s : State) (b : Byte) : (s.linkByte b).dec = s.dec := by
  unfold State.linkByte; simp only []; split <;> (try split_ifs) <;> simp
@[simp] theorem State.linkByte_aux (s : State) (b : Byte) : (s.linkByte b).aux = s.aux := by
  unfold State.linkByte; simp only []; split <;> (try split_ifs) <;> simp
@[simp] theorem State.linkByte_staging (s : State) (b : Byte) : (s.linkByte b).staging = s.staging := by
  unfold State.linkByte; simp only []; split <;> (try split_ifs) <;> simp
@[simp] theorem State.linkByte_pending (s : State) (b : Byte) : (s.linkByte b).pending = s.pending := by
  unfold State.linkByte; simp only []; split <;> (try split_ifs) <;> simp

/-! ### onLinkByte -/

@[simp] theorem State.onLinkByte_phase (s : State) (b : Byte) (n : Nat) : (s.onLinkByte b n).phase = s.phase := by
  unfold State.onLinkByte; simp only []; split <;> simp
@[simp] theorem State.onLinkByte_portA (s : State) (b : Byte) (n : Nat) : (s.onLinkByte b n).portA = s.portA := by
  unfold State.onLinkByte; simp only []; split <;> simp
@[simp] theorem State.onLinkByte_portB (s : State) (b : Byte) (n : Nat) : (s.onLinkByte b n).portB = s.portB := by
  unfold State.onLinkByte; simp only []; split <;> simp
@[simp] theorem State.onLinkByte_asm (s : State) (b : Byte) (n : Nat) : (s.onLinkByte b n).asm = s.asm := by
  unfold State.onLinkByte; simp only []; split <;> simp
@[simp] theorem State.onLinkByte_store (s : State) (b : Byte) (n : Nat) : (s.onLinkByte b n).store = s.store := by
  unfold State.onLinkByte; simp only []; split <;> simp
@[simp] theorem State.onLinkByte_corr (s : State) (b : Byte) (n : Nat) : (s.onLinkByte b n).corr = s.corr := by
  unfold State.onLinkByte; simp only []; split <;> simp
@[simp] theorem State.onLinkByte_screens (s : State) (b : Byte) (n : Nat) : (s.onLinkByte b n).screens = s.screens := by
  unfold State.onLinkByte; simp only []; split <;> simp
@[simp] theorem State.onLinkByte_dec (s : State) (b : Byte) (n : Nat) : (s.onLinkByte b n).dec = s.dec := by
  unfold State.onLinkByte; simp only []; split <;> simp
@[simp] theorem State.onLinkByte_aux (s : State) (b : Byte) (n : Nat) : (s.onLinkByte b n).aux = s.aux := by
  unfold State.onLinkByte; simp only []; split <;> simp
@[simp] theorem State.onLinkByte_staging (s : State) (b : Byte) (n : Nat) : (s.onLinkByte b n).staging = s.staging := by
  unfold State.onLinkByte; simp only []; split <;> simp
@[simp] theorem State.onLinkByte_pending (s : State) (b : Byte) (n : Nat) : (s.onLinkByte b n).pending = s.pending := by
  unfold State.onLinkByte; simp only []; split <;> simp

/-! ### abandonUpstream -/

@[simp] theorem State.abandonUpstream_phase (s : State) : s.abandonUpstream.phase = s.phase := by unfold State.abandonUpstream; split <;> simp
@[simp] theorem State.abandonUpstream_tb (s : State) : s.abandonUpstream.tb = s.tb := by unfold State.abandonUpstream; split <;> simp
@[simp] theorem State.abandonUpstream_portA (s : State) : s.abandonUpstream.portA = s.portA := by unfold State.abandonUpstream; split <;> simp
@[simp] theorem State.abandonUpstream_portB (s : State) : s.abandonUpstream.portB = s.portB := by unfold State.abandonUpstream; split <;> simp
@[simp] theorem State.abandonUpstream_asm (s : State) : s.abandonUpstream.asm = s.asm := by unfold State.abandonUpstream; split <;> simp
@[simp] theorem State.abandonUpstream_store (s : State) : s.abandonUpstream.store = s.store := by unfold State.abandonUpstream; split <;> simp
@[simp] theorem State.abandonUpstream_corr (s : State) : s.abandonUpstream.corr = s.corr := by unfold State.abandonUpstream; split <;> simp
@[simp] theorem State.abandonUpstream_screens (s : State) : s.abandonUpstream.screens = s.screens := by unfold State.abandonUpstream; split <;> simp
@[simp] theorem State.abandonUpstream_dec (s : State) : s.abandonUpstream.dec = s.dec := by unfold State.abandonUpstream; split <;> simp
@[simp] theorem State.abandonUpstream_aux (s : State) : s.abandonUpstream.aux = s.aux := by unfold State.abandonUpstream; split <;> simp
@[simp] theorem State.abandonUpstream_staging (s : State) : s.abandonUpstream.staging = s.staging := by unfold State.abandonUpstream; split <;> simp
@[simp] theorem State.abandonUpstream_settings (s : State) : s.abandonUpstream.settings = s.settings := by unfold State.abandonUpstream; split <;> simp
@[simp] theorem State.abandonUpstream_pending (s : State) : s.abandonUpstream.pending = s.pending := by unfold State.abandonUpstream; split <;> simp

/-! ### takeMarker -/

@[simp] theorem State.takeMarker_phase (s : State) (e : Edge) : (s.takeMarker e).phase = s.phase := by
  unfold State.takeMarker; simp only []; split <;> simp
@[simp] theorem State.takeMarker_tb (s : State) (e : Edge) : (s.takeMarker e).tb = s.tb := by
  unfold State.takeMarker; simp only []; split <;> simp
@[simp] theorem State.takeMarker_portA (s : State) (e : Edge) : (s.takeMarker e).portA = s.portA := by
  unfold State.takeMarker; simp only []; split <;> simp
@[simp] theorem State.takeMarker_portB (s : State) (e : Edge) : (s.takeMarker e).portB = s.portB := by
  unfold State.takeMarker; simp only []; split <;> simp
@[simp] theorem State.takeMarker_asm (s : State) (e : Edge) : (s.takeMarker e).asm = s.asm := by
  unfold State.takeMarker; simp only []; split <;> simp
@[simp] theorem State.takeMarker_store (s : State) (e : Edge) : (s.takeMarker e).store = s.store := by
  unfold State.takeMarker; simp only []; split <;> simp
@[simp] theorem State.takeMarker_corr (s : State) (e : Edge) : (s.takeMarker e).corr = s.corr := by
  unfold State.takeMarker; simp only []; split <;> simp
@[simp] theorem State.takeMarker_screens (s : State) (e : Edge) : (s.takeMarker e).screens = s.screens := by
  unfold State.takeMarker; simp only []; split <;> simp
@[simp] theorem State.takeMarker_dec (s : State) (e : Edge) : (s.takeMarker e).dec = s.dec := by
  unfold State.takeMarker; simp only []; split <;> simp
@[simp] theorem State.takeMarker_staging (s : State) (e : Edge) : (s.takeMarker e).staging = s.staging := by
  unfold State.takeMarker; simp only []; split <;> simp
@[simp] theorem State.takeMarker_settings (s : State) (e : Edge) : (s.takeMarker e).settings = s.settings := by
  unfold State.takeMarker; simp only []; split <;> simp
@[simp] theorem State.takeMarker_pending (s : State) (e : Edge) : (s.takeMarker e).pending = s.pending := by
  unfold State.takeMarker; simp only []; split <;> simp

/-! ### noteEarlyEdge -/

@[simp] theorem State.noteEarlyEdge_phase (s : State) : s.noteEarlyEdge.phase = s.phase := by unfold State.noteEarlyEdge; split <;> simp
@[simp] theorem State.noteEarlyEdge_portA (s : State) : s.noteEarlyEdge.portA = s.portA := by unfold State.noteEarlyEdge; split <;> simp
@[simp] theorem State.noteEarlyEdge_portB (s : State) : s.noteEarlyEdge.portB = s.portB := by unfold State.noteEarlyEdge; split <;> simp
@[simp] theorem State.noteEarlyEdge_asm (s : State) : s.noteEarlyEdge.asm = s.asm := by unfold State.noteEarlyEdge; split <;> simp
@[simp] theorem State.noteEarlyEdge_store (s : State) : s.noteEarlyEdge.store = s.store := by unfold State.noteEarlyEdge; split <;> simp
@[simp] theorem State.noteEarlyEdge_corr (s : State) : s.noteEarlyEdge.corr = s.corr := by unfold State.noteEarlyEdge; split <;> simp
@[simp] theorem State.noteEarlyEdge_screens (s : State) : s.noteEarlyEdge.screens = s.screens := by unfold State.noteEarlyEdge; split <;> simp
@[simp] theorem State.noteEarlyEdge_dec (s : State) : s.noteEarlyEdge.dec = s.dec := by unfold State.noteEarlyEdge; split <;> simp
@[simp] theorem State.noteEarlyEdge_link (s : State) : s.noteEarlyEdge.link = s.link := by unfold State.noteEarlyEdge; split <;> simp
@[simp] theorem State.noteEarlyEdge_status (s : State) : s.noteEarlyEdge.status = s.status := by unfold State.noteEarlyEdge; split <;> simp
@[simp] theorem State.noteEarlyEdge_aux (s : State) : s.noteEarlyEdge.aux = s.aux := by unfold State.noteEarlyEdge; split <;> simp
@[simp] theorem State.noteEarlyEdge_staging (s : State) : s.noteEarlyEdge.staging = s.staging := by unfold State.noteEarlyEdge; split <;> simp
@[simp] theorem State.noteEarlyEdge_settings (s : State) : s.noteEarlyEdge.settings = s.settings := by unfold State.noteEarlyEdge; split <;> simp
@[simp] theorem State.noteEarlyEdge_pending (s : State) : s.noteEarlyEdge.pending = s.pending := by unfold State.noteEarlyEdge; split <;> simp

/-- A powered device keeps the moment of an edge before the first mark (log 24). -/
theorem State.noteEarlyEdge_of_on {s : State} (h : s.phase ≠ .off) :
    s.noteEarlyEdge = s.setTb { s.tb with earlyEdge := some s.tb.clock } := by
  unfold State.noteEarlyEdge; rw [if_neg h]

/-- Without power an edge leaves nothing. -/
theorem State.noteEarlyEdge_of_off {s : State} (h : s.phase = .off) : s.noteEarlyEdge = s := by
  unfold State.noteEarlyEdge; rw [if_pos h]

/-! ### A frame that arrives together with the expiry of its trial (R173) -/

/-- The byte that completes a frame which an expiry of its own period found one byte short: the frame is judged. -/
theorem State.huntByte_late {s : State} {f : LateFrame} (b : Byte) (h : s.link.lateAt s.tb.clock = some f) :
    s.huntByte b = (s.setLink { s.link with late := none }).lateFrameArrived f.len (f.bytes ++ [b]) := by
  unfold State.huntByte; rw [h]

/-- Any other byte in HUNT: the sync byte enters LENGTH, the rest are discarded (R160). -/
theorem State.huntByte_plain {s : State} (b : Byte) (h : s.link.lateAt s.tb.clock = none) :
    s.huntByte b =
      if b = Config.linkSync then s.setLink { s.link with framing := .length, lastByteAt := s.tb.clock } else s := by
  unfold State.huntByte; rw [h]

/-- A return at the expiry keeps the frame in collection exactly when one byte of it is missing. -/
theorem Link.revertAtExpiry_late (l : Link) (clock : Nat) : (l.revertAtExpiry clock).late = l.lastByteMissing clock := rfl

end Sys2Proof.Machine
end

