-- ==== Sys2Proof/Laws/Handler.lean ====
section
/-! SUPPORT. Laws/Handler: what a take of the request handler does, in one lemma per case (R163). -/

namespace Sys2Proof.Machine

/-- The code of a catalogue request names that request. -/
@[simp] theorem RequestName.ofCode_code (r : RequestName) : RequestName.ofCode r.code = some r := by
  cases r <;> decide

/-- Two requests with one code are the same request. -/
theorem RequestName.code_inj {a b : RequestName} (h : a.code = b.code) : a = b := by
  have ha := RequestName.ofCode_code a
  rw [h, RequestName.ofCode_code] at ha
  exact (Option.some.inj ha).symm

/-- A code that no catalogue request has names none. -/
theorem RequestName.ofCode_none {b : Byte} (h : ∀ r : RequestName, b ≠ r.code) : RequestName.ofCode b = none := by
  unfold RequestName.ofCode
  rw [List.find?_eq_none]
  intro r _
  simpa using fun e : r.code = b => h r e.symm

/-- A request in the queue is takeable when the device runs, no SAVE response is held and its places are free. -/
theorem State.takeable_eq {s : State} {q : Request} {rest : List Request} (hr : s.phase = .running)
    (hh : s.link.heldSave = none) (hq : s.link.requests = q :: rest)
    (hl : s.link.output.length + placesNeeded (RequestName.ofCode q.code) ≤ 64) : s.takeable = some q := by
  simp [State.takeable, State.running, hq, hr, hh, Config.outputPlaces, hl]

/-- Nothing is takeable while the device does not run, the queue is empty, a response is held or no place is free. -/
theorem State.takeable_none {s : State} (h : s.phase ≠ .running ∨ s.link.requests = [] ∨ s.link.heldSave.isSome = true ∨
    64 ≤ s.link.output.length) : s.takeable = none := by
  unfold State.takeable
  cases hq : s.link.requests with
  | nil => rfl
  | cons q rest =>
    have hp : 1 ≤ placesNeeded (RequestName.ofCode q.code) := by unfold placesNeeded; split <;> omega
    rcases h with h | h | h | h
    · simp [State.running, h]
    · simp [hq] at h
    · cases hh : s.link.heldSave <;> simp_all
    · have : ¬ s.link.output.length + placesNeeded (RequestName.ofCode q.code) ≤ Config.outputPlaces := by
        unfold Config.outputPlaces; omega
      simp [this]

/-- A takeable request of the row's code and of the right length is judged. -/
theorem State.take_judged {s : State} {name : RequestName} {judge : Request → State → Reply} {q : Request}
    (ht : s.takeable = some q) (hc : q.code = name.code) (hl : name.lengthOk q.params = true) :
    s.take name judge = (judge q s.dropRequest).finish q := by
  simp [State.take, ht, hc, hl]

/-- A takeable request of the row's code and of the wrong length is answered BAD_LENGTH. -/
theorem State.take_badLength {s : State} {name : RequestName} {judge : Request → State → Reply} {q : Request}
    (ht : s.takeable = some q) (hc : q.code = name.code) (hl : name.lengthOk q.params = false) :
    s.take name judge = (Reply.refuse s.dropRequest .badLength).finish q := by
  simp [State.take, ht, hc, hl]

/-- A row whose request is not the oldest takes nothing. -/
theorem State.take_other {s : State} {name : RequestName} {judge : Request → State → Reply}
    (h : ∀ q, s.takeable = some q → q.code ≠ name.code) : s.take name judge = s := by
  unfold State.take
  cases ht : s.takeable with
  | none => rfl
  | some q =>
    simp only []
    split
    · rename_i hc
      exact absurd (by
        have := List.find?_some hc
        exact (beq_iff_eq.mp this).symm) (h q ht)
    · rfl

/-- A response without notices whose data fit one frame: one frame joins the queue. -/
theorem Reply.finish_of (s : State) (q : Request) (r : Result) (data : List Byte) (h : data.length ≤ 246) :
    (Reply.of s r data).finish q = s.offerResponse [⟨.response ⟨q.tag, q.code, r, 0, data⟩, false⟩] := by
  simp [Reply.of, Reply.finish, responseFrames, Config.responseData, h]

/-- What a finished reply leaves of any part that responses and notices do not touch. -/
theorem Reply.finish_frame {α : Type} (f : State → α) (hr : ∀ s l, f (State.offerResponse s l) = f s)
    (hn : ∀ s n, f (State.offerNotice s n) = f s) (r : Reply) (q : Request) : f (r.finish q) = f r.state := by
  unfold Reply.finish
  have hf : ∀ (l : List Notice) (s : State), f (l.foldl State.offerNotice s) = f s := by
    intro l
    induction l with
    | nil => intro s; rfl
    | cons n l ih => intro s; rw [List.foldl_cons, ih, hn]
  rw [hf]
  split
  · exact hr _ _
  · rfl

/-- What no judgement of a row changes, and no queue of the link holds, the take does not change. -/
theorem State.take_frame {α : Type} (f : State → α) (hr : ∀ s l, f (State.offerResponse s l) = f s)
    (hn : ∀ s n, f (State.offerNotice s n) = f s) (hd : ∀ s, f (State.dropRequest s) = f s) (s : State)
    (name : RequestName) (judge : Request → State → Reply) (hj : ∀ q s, f (judge q s).state = f s) :
    f (s.take name judge) = f s := by
  unfold State.take
  split
  · rfl
  · split
    · simp only []
      split
      · rw [Reply.finish_frame f hr hn, hj, hd]
      · rw [Reply.finish_frame f hr hn]; exact hd s
    · rfl

/-- A take of a row whose judgement leaves what it finds is either nothing or a response. -/
theorem State.take_cases (s : State) (name : RequestName) (judge : Request → State → Reply) :
    s.take name judge = s ∨ ∃ q, s.takeable = some q ∧ q.code = name.code ∧
      (name.lengthOk q.params = true ∧ s.take name judge = (judge q s.dropRequest).finish q ∨
        name.lengthOk q.params = false ∧ s.take name judge = (Reply.refuse s.dropRequest .badLength).finish q) := by
  cases ht : s.takeable with
  | none => left; simp [State.take, ht]
  | some q =>
    by_cases hc : q.code = name.code
    · right
      refine ⟨q, rfl, hc, ?_⟩
      cases hl : name.lengthOk q.params with
      | true => left; exact ⟨rfl, State.take_judged ht hc hl⟩
      | false => right; exact ⟨rfl, State.take_badLength ht hc hl⟩
    · left
      exact State.take_other fun r hr => by rw [ht] at hr; cases hr; exact hc

end Sys2Proof.Machine
end

