-- ==== Sys2Proof/Laws/Judges.lean ====
section
/-! SUPPORT. Laws/Judges: the blocks that the judgement of each request leaves untouched, and what every reply and take keep. -/

namespace Sys2Proof.Machine

@[simp] theorem Reply.of_state (s : State) (r : Result) (d : List Byte) : (Reply.of s r d).state = s := rfl
@[simp] theorem Reply.ok_state (s : State) (d : List Byte) : (Reply.ok s d).state = s := rfl
@[simp] theorem Reply.refuse_state (s : State) (r : Result) : (Reply.refuse s r).state = s := rfl
@[simp] theorem rateReply_state (s : State) (m : Count16) (b : Bool) : (rateReply s m b).state = s := rfl

@[simp] theorem State.writePending_phase (s : State) (c : Configuration) (d : List Byte) : (s.writePending c d).state.phase = s.phase := by
  unfold State.writePending; split <;> rfl
@[simp] theorem State.writePending_tb (s : State) (c : Configuration) (d : List Byte) : (s.writePending c d).state.tb = s.tb := by
  unfold State.writePending; split <;> rfl
@[simp] theorem State.writePending_portA (s : State) (c : Configuration) (d : List Byte) : (s.writePending c d).state.portA = s.portA := by
  unfold State.writePending; split <;> rfl
@[simp] theorem State.writePending_portB (s : State) (c : Configuration) (d : List Byte) : (s.writePending c d).state.portB = s.portB := by
  unfold State.writePending; split <;> rfl
@[simp] theorem State.writePending_asm (s : State) (c : Configuration) (d : List Byte) : (s.writePending c d).state.asm = s.asm := by
  unfold State.writePending; split <;> rfl
@[simp] theorem State.writePending_store (s : State) (c : Configuration) (d : List Byte) : (s.writePending c d).state.store = s.store := by
  unfold State.writePending; split <;> rfl
@[simp] theorem State.writePending_corr (s : State) (c : Configuration) (d : List Byte) : (s.writePending c d).state.corr = s.corr := by
  unfold State.writePending; split <;> rfl
@[simp] theorem State.writePending_screens (s : State) (c : Configuration) (d : List Byte) : (s.writePending c d).state.screens = s.screens := by
  unfold State.writePending; split <;> rfl
@[simp] theorem State.writePending_dec (s : State) (c : Configuration) (d : List Byte) : (s.writePending c d).state.dec = s.dec := by
  unfold State.writePending; split <;> rfl
@[simp] theorem State.writePending_link (s : State) (c : Configuration) (d : List Byte) : (s.writePending c d).state.link = s.link := by
  unfold State.writePending; split <;> rfl
@[simp] theorem State.writePending_status (s : State) (c : Configuration) (d : List Byte) : (s.writePending c d).state.status = s.status := by
  unfold State.writePending; split <;> rfl
@[simp] theorem State.writePending_aux (s : State) (c : Configuration) (d : List Byte) : (s.writePending c d).state.aux = s.aux := by
  unfold State.writePending; split <;> rfl
@[simp] theorem State.writePending_settings (s : State) (c : Configuration) (d : List Byte) : (s.writePending c d).state.settings = s.settings := by
  unfold State.writePending; split <;> rfl
@[simp] theorem State.writePending_pending (s : State) (c : Configuration) (d : List Byte) : (s.writePending c d).state.pending = s.pending := by
  unfold State.writePending; split <;> rfl
@[simp] theorem State.writeStore_phase (s : State) (l : List Nat) (x : Store) (d : List Byte) : (s.writeStore l x d).state.phase = s.phase := by
  unfold State.writeStore; split
  · rfl
  · split <;> rfl
@[simp] theorem State.writeStore_tb (s : State) (l : List Nat) (x : Store) (d : List Byte) : (s.writeStore l x d).state.tb = s.tb := by
  unfold State.writeStore; split
  · rfl
  · split <;> rfl
@[simp] theorem State.writeStore_portA (s : State) (l : List Nat) (x : Store) (d : List Byte) : (s.writeStore l x d).state.portA = s.portA := by
  unfold State.writeStore; split
  · rfl
  · split <;> rfl
@[simp] theorem State.writeStore_portB (s : State) (l : List Nat) (x : Store) (d : List Byte) : (s.writeStore l x d).state.portB = s.portB := by
  unfold State.writeStore; split
  · rfl
  · split <;> rfl
@[simp] theorem State.writeStore_asm (s : State) (l : List Nat) (x : Store) (d : List Byte) : (s.writeStore l x d).state.asm = s.asm := by
  unfold State.writeStore; split
  · rfl
  · split <;> rfl
@[simp] theorem State.writeStore_corr (s : State) (l : List Nat) (x : Store) (d : List Byte) : (s.writeStore l x d).state.corr = s.corr := by
  unfold State.writeStore; split
  · rfl
  · split <;> rfl
@[simp] theorem State.writeStore_screens (s : State) (l : List Nat) (x : Store) (d : List Byte) : (s.writeStore l x d).state.screens = s.screens := by
  unfold State.writeStore; split
  · rfl
  · split <;> rfl
@[simp] theorem State.writeStore_dec (s : State) (l : List Nat) (x : Store) (d : List Byte) : (s.writeStore l x d).state.dec = s.dec := by
  unfold State.writeStore; split
  · rfl
  · split <;> rfl
@[simp] theorem State.writeStore_link (s : State) (l : List Nat) (x : Store) (d : List Byte) : (s.writeStore l x d).state.link = s.link := by
  unfold State.writeStore; split
  · rfl
  · split <;> rfl
@[simp] theorem State.writeStore_status (s : State) (l : List Nat) (x : Store) (d : List Byte) : (s.writeStore l x d).state.status = s.status := by
  unfold State.writeStore; split
  · rfl
  · split <;> rfl
@[simp] theorem State.writeStore_aux (s : State) (l : List Nat) (x : Store) (d : List Byte) : (s.writeStore l x d).state.aux = s.aux := by
  unfold State.writeStore; split
  · rfl
  · split <;> rfl
@[simp] theorem State.writeStore_staging (s : State) (l : List Nat) (x : Store) (d : List Byte) : (s.writeStore l x d).state.staging = s.staging := by
  unfold State.writeStore; split
  · rfl
  · split <;> rfl
@[simp] theorem State.writeStore_pending (s : State) (l : List Nat) (x : Store) (d : List Byte) : (s.writeStore l x d).state.pending = s.pending := by
  unfold State.writeStore; split
  · rfl
  · split <;> rfl

/-! ### judgeIdent -/

@[simp] theorem judgeIdent_state (q : Request) (s : State) : (judgeIdent q s).state = s := rfl

/-! ### judgeStatus -/

@[simp] theorem judgeStatus_state (q : Request) (s : State) : (judgeStatus q s).state = s := by
  unfold judgeStatus; (repeat' split) <;> simp

/-! ### judgeChannelGet -/

@[simp] theorem judgeChannelGet_state (q : Request) (s : State) : (judgeChannelGet q s).state = s := by
  unfold judgeChannelGet; (repeat' split) <;> simp

/-! ### judgeTriadGet -/

@[simp] theorem judgeTriadGet_state (q : Request) (s : State) : (judgeTriadGet q s).state = s := by
  unfold judgeTriadGet; (repeat' split) <;> simp

/-! ### judgeFilterGet -/

@[simp] theorem judgeFilterGet_state (q : Request) (s : State) : (judgeFilterGet q s).state = s := by
  unfold judgeFilterGet; (repeat' split) <;> simp

/-! ### judgeStoreRead -/

@[simp] theorem judgeStoreRead_state (q : Request) (s : State) : (judgeStoreRead q s).state = s := by
  unfold judgeStoreRead; simp only []; (repeat' split) <;> simp

/-! ### judgeCountersRead -/

@[simp] theorem judgeCountersRead_state (q : Request) (s : State) : (judgeCountersRead q s).state = s := by
  unfold judgeCountersRead; simp only []; (repeat' split) <;> simp

/-! ### judgeFaultRead -/

@[simp] theorem judgeFaultRead_state (q : Request) (s : State) : (judgeFaultRead q s).state = s := rfl

/-! ### judgeOutputSet -/

@[simp] theorem judgeOutputSet_phase (q : Request) (s : State) : (judgeOutputSet q s).state.phase = s.phase := by
  unfold judgeOutputSet; simp only []; (repeat' split) <;> simp
@[simp] theorem judgeOutputSet_tb (q : Request) (s : State) : (judgeOutputSet q s).state.tb = s.tb := by
  unfold judgeOutputSet; simp only []; (repeat' split) <;> simp
@[simp] theorem judgeOutputSet_portA (q : Request) (s : State) : (judgeOutputSet q s).state.portA = s.portA := by
  unfold judgeOutputSet; simp only []; (repeat' split) <;> simp
@[simp] theorem judgeOutputSet_portB (q : Request) (s : State) : (judgeOutputSet q s).state.portB = s.portB := by
  unfold judgeOutputSet; simp only []; (repeat' split) <;> simp
@[simp] theorem judgeOutputSet_asm (q : Request) (s : State) : (judgeOutputSet q s).state.asm = s.asm := by
  unfold judgeOutputSet; simp only []; (repeat' split) <;> simp
@[simp] theorem judgeOutputSet_store (q : Request) (s : State) : (judgeOutputSet q s).state.store = s.store := by
  unfold judgeOutputSet; simp only []; (repeat' split) <;> simp
@[simp] theorem judgeOutputSet_corr (q : Request) (s : State) : (judgeOutputSet q s).state.corr = s.corr := by
  unfold judgeOutputSet; simp only []; (repeat' split) <;> simp
@[simp] theorem judgeOutputSet_screens (q : Request) (s : State) : (judgeOutputSet q s).state.screens = s.screens := by
  unfold judgeOutputSet; simp only []; (repeat' split) <;> simp
@[simp] theorem judgeOutputSet_dec (q : Request) (s : State) : (judgeOutputSet q s).state.dec = s.dec := by
  unfold judgeOutputSet; simp only []; (repeat' split) <;> simp
@[simp] theorem judgeOutputSet_status (q : Request) (s : State) : (judgeOutputSet q s).state.status = s.status := by
  unfold judgeOutputSet; simp only []; (repeat' split) <;> simp
@[simp] theorem judgeOutputSet_aux (q : Request) (s : State) : (judgeOutputSet q s).state.aux = s.aux := by
  unfold judgeOutputSet; simp only []; (repeat' split) <;> simp
@[simp] theorem judgeOutputSet_staging (q : Request) (s : State) : (judgeOutputSet q s).state.staging = s.staging := by
  unfold judgeOutputSet; simp only []; (repeat' split) <;> simp
@[simp] theorem judgeOutputSet_pending (q : Request) (s : State) : (judgeOutputSet q s).state.pending = s.pending := by
  unfold judgeOutputSet; simp only []; (repeat' split) <;> simp

/-! ### judgeLinkRate -/

@[simp] theorem judgeLinkRate_phase (q : Request) (s : State) : (judgeLinkRate q s).state.phase = s.phase := by
  unfold judgeLinkRate; simp only []; (repeat' split) <;> simp
@[simp] theorem judgeLinkRate_tb (q : Request) (s : State) : (judgeLinkRate q s).state.tb = s.tb := by
  unfold judgeLinkRate; simp only []; (repeat' split) <;> simp
@[simp] theorem judgeLinkRate_portA (q : Request) (s : State) : (judgeLinkRate q s).state.portA = s.portA := by
  unfold judgeLinkRate; simp only []; (repeat' split) <;> simp
@[simp] theorem judgeLinkRate_portB (q : Request) (s : State) : (judgeLinkRate q s).state.portB = s.portB := by
  unfold judgeLinkRate; simp only []; (repeat' split) <;> simp
@[simp] theorem judgeLinkRate_asm (q : Request) (s : State) : (judgeLinkRate q s).state.asm = s.asm := by
  unfold judgeLinkRate; simp only []; (repeat' split) <;> simp
@[simp] theorem judgeLinkRate_store (q : Request) (s : State) : (judgeLinkRate q s).state.store = s.store := by
  unfold judgeLinkRate; simp only []; (repeat' split) <;> simp
@[simp] theorem judgeLinkRate_corr (q : Request) (s : State) : (judgeLinkRate q s).state.corr = s.corr := by
  unfold judgeLinkRate; simp only []; (repeat' split) <;> simp
@[simp] theorem judgeLinkRate_screens (q : Request) (s : State) : (judgeLinkRate q s).state.screens = s.screens := by
  unfold judgeLinkRate; simp only []; (repeat' split) <;> simp
@[simp] theorem judgeLinkRate_dec (q : Request) (s : State) : (judgeLinkRate q s).state.dec = s.dec := by
  unfold judgeLinkRate; simp only []; (repeat' split) <;> simp
@[simp] theorem judgeLinkRate_status (q : Request) (s : State) : (judgeLinkRate q s).state.status = s.status := by
  unfold judgeLinkRate; simp only []; (repeat' split) <;> simp
@[simp] theorem judgeLinkRate_aux (q : Request) (s : State) : (judgeLinkRate q s).state.aux = s.aux := by
  unfold judgeLinkRate; simp only []; (repeat' split) <;> simp
@[simp] theorem judgeLinkRate_staging (q : Request) (s : State) : (judgeLinkRate q s).state.staging = s.staging := by
  unfold judgeLinkRate; simp only []; (repeat' split) <;> simp
@[simp] theorem judgeLinkRate_settings (q : Request) (s : State) : (judgeLinkRate q s).state.settings = s.settings := by
  unfold judgeLinkRate; simp only []; (repeat' split) <;> simp
@[simp] theorem judgeLinkRate_pending (q : Request) (s : State) : (judgeLinkRate q s).state.pending = s.pending := by
  unfold judgeLinkRate; simp only []; (repeat' split) <;> simp

/-! ### judgeTimeLabel -/

@[simp] theorem judgeTimeLabel_phase (q : Request) (s : State) : (judgeTimeLabel q s).state.phase = s.phase := by simp [judgeTimeLabel]
@[simp] theorem judgeTimeLabel_portA (q : Request) (s : State) : (judgeTimeLabel q s).state.portA = s.portA := by simp [judgeTimeLabel]
@[simp] theorem judgeTimeLabel_portB (q : Request) (s : State) : (judgeTimeLabel q s).state.portB = s.portB := by simp [judgeTimeLabel]
@[simp] theorem judgeTimeLabel_asm (q : Request) (s : State) : (judgeTimeLabel q s).state.asm = s.asm := by simp [judgeTimeLabel]
@[simp] theorem judgeTimeLabel_store (q : Request) (s : State) : (judgeTimeLabel q s).state.store = s.store := by simp [judgeTimeLabel]
@[simp] theorem judgeTimeLabel_corr (q : Request) (s : State) : (judgeTimeLabel q s).state.corr = s.corr := by simp [judgeTimeLabel]
@[simp] theorem judgeTimeLabel_screens (q : Request) (s : State) : (judgeTimeLabel q s).state.screens = s.screens := by simp [judgeTimeLabel]
@[simp] theorem judgeTimeLabel_dec (q : Request) (s : State) : (judgeTimeLabel q s).state.dec = s.dec := by simp [judgeTimeLabel]
@[simp] theorem judgeTimeLabel_link (q : Request) (s : State) : (judgeTimeLabel q s).state.link = s.link := by simp [judgeTimeLabel]
@[simp] theorem judgeTimeLabel_status (q : Request) (s : State) : (judgeTimeLabel q s).state.status = s.status := by simp [judgeTimeLabel]
@[simp] theorem judgeTimeLabel_aux (q : Request) (s : State) : (judgeTimeLabel q s).state.aux = s.aux := by simp [judgeTimeLabel]
@[simp] theorem judgeTimeLabel_staging (q : Request) (s : State) : (judgeTimeLabel q s).state.staging = s.staging := by simp [judgeTimeLabel]
@[simp] theorem judgeTimeLabel_settings (q : Request) (s : State) : (judgeTimeLabel q s).state.settings = s.settings := by simp [judgeTimeLabel]
@[simp] theorem judgeTimeLabel_pending (q : Request) (s : State) : (judgeTimeLabel q s).state.pending = s.pending := by simp [judgeTimeLabel]

/-! ### judgeTimebaseSet -/

@[simp] theorem judgeTimebaseSet_phase (q : Request) (s : State) : (judgeTimebaseSet q s).state.phase = s.phase := by
  unfold judgeTimebaseSet; simp only []; (repeat' split) <;> simp
@[simp] theorem judgeTimebaseSet_portA (q : Request) (s : State) : (judgeTimebaseSet q s).state.portA = s.portA := by
  unfold judgeTimebaseSet; simp only []; (repeat' split) <;> simp
@[simp] theorem judgeTimebaseSet_portB (q : Request) (s : State) : (judgeTimebaseSet q s).state.portB = s.portB := by
  unfold judgeTimebaseSet; simp only []; (repeat' split) <;> simp
@[simp] theorem judgeTimebaseSet_asm (q : Request) (s : State) : (judgeTimebaseSet q s).state.asm = s.asm := by
  unfold judgeTimebaseSet; simp only []; (repeat' split) <;> simp
@[simp] theorem judgeTimebaseSet_store (q : Request) (s : State) : (judgeTimebaseSet q s).state.store = s.store := by
  unfold judgeTimebaseSet; simp only []; (repeat' split) <;> simp
@[simp] theorem judgeTimebaseSet_corr (q : Request) (s : State) : (judgeTimebaseSet q s).state.corr = s.corr := by
  unfold judgeTimebaseSet; simp only []; (repeat' split) <;> simp
@[simp] theorem judgeTimebaseSet_screens (q : Request) (s : State) : (judgeTimebaseSet q s).state.screens = s.screens := by
  unfold judgeTimebaseSet; simp only []; (repeat' split) <;> simp
@[simp] theorem judgeTimebaseSet_dec (q : Request) (s : State) : (judgeTimebaseSet q s).state.dec = s.dec := by
  unfold judgeTimebaseSet; simp only []; (repeat' split) <;> simp
@[simp] theorem judgeTimebaseSet_link (q : Request) (s : State) : (judgeTimebaseSet q s).state.link = s.link := by
  unfold judgeTimebaseSet; simp only []; (repeat' split) <;> simp
@[simp] theorem judgeTimebaseSet_status (q : Request) (s : State) : (judgeTimebaseSet q s).state.status = s.status := by
  unfold judgeTimebaseSet; simp only []; (repeat' split) <;> simp
@[simp] theorem judgeTimebaseSet_aux (q : Request) (s : State) : (judgeTimebaseSet q s).state.aux = s.aux := by
  unfold judgeTimebaseSet; simp only []; (repeat' split) <;> simp
@[simp] theorem judgeTimebaseSet_staging (q : Request) (s : State) : (judgeTimebaseSet q s).state.staging = s.staging := by
  unfold judgeTimebaseSet; simp only []; (repeat' split) <;> simp
@[simp] theorem judgeTimebaseSet_pending (q : Request) (s : State) : (judgeTimebaseSet q s).state.pending = s.pending := by
  unfold judgeTimebaseSet; simp only []; (repeat' split) <;> simp

/-! ### judgePortReset -/

@[simp] theorem judgePortReset_phase (q : Request) (s : State) : (judgePortReset q s).state.phase = s.phase := by
  unfold judgePortReset; simp only []; (repeat' split) <;> simp
@[simp] theorem judgePortReset_tb (q : Request) (s : State) : (judgePortReset q s).state.tb = s.tb := by
  unfold judgePortReset; simp only []; (repeat' split) <;> simp
@[simp] theorem judgePortReset_asm (q : Request) (s : State) : (judgePortReset q s).state.asm = s.asm := by
  unfold judgePortReset; simp only []; (repeat' split) <;> simp
@[simp] theorem judgePortReset_store (q : Request) (s : State) : (judgePortReset q s).state.store = s.store := by
  unfold judgePortReset; simp only []; (repeat' split) <;> simp
@[simp] theorem judgePortReset_corr (q : Request) (s : State) : (judgePortReset q s).state.corr = s.corr := by
  unfold judgePortReset; simp only []; (repeat' split) <;> simp
@[simp] theorem judgePortReset_screens (q : Request) (s : State) : (judgePortReset q s).state.screens = s.screens := by
  unfold judgePortReset; simp only []; (repeat' split) <;> simp
@[simp] theorem judgePortReset_dec (q : Request) (s : State) : (judgePortReset q s).state.dec = s.dec := by
  unfold judgePortReset; simp only []; (repeat' split) <;> simp
@[simp] theorem judgePortReset_link (q : Request) (s : State) : (judgePortReset q s).state.link = s.link := by
  unfold judgePortReset; simp only []; (repeat' split) <;> simp
@[simp] theorem judgePortReset_status (q : Request) (s : State) : (judgePortReset q s).state.status = s.status := by
  unfold judgePortReset; simp only []; (repeat' split) <;> simp
@[simp] theorem judgePortReset_aux (q : Request) (s : State) : (judgePortReset q s).state.aux = s.aux := by
  unfold judgePortReset; simp only []; (repeat' split) <;> simp
@[simp] theorem judgePortReset_staging (q : Request) (s : State) : (judgePortReset q s).state.staging = s.staging := by
  unfold judgePortReset; simp only []; (repeat' split) <;> simp
@[simp] theorem judgePortReset_pending (q : Request) (s : State) : (judgePortReset q s).state.pending = s.pending := by
  unfold judgePortReset; simp only []; (repeat' split) <;> simp

/-! ### judgePortEnable -/

@[simp] theorem judgePortEnable_phase (q : Request) (s : State) : (judgePortEnable q s).state.phase = s.phase := by
  unfold judgePortEnable; (repeat' split) <;> simp
@[simp] theorem judgePortEnable_tb (q : Request) (s : State) : (judgePortEnable q s).state.tb = s.tb := by
  unfold judgePortEnable; (repeat' split) <;> simp
@[simp] theorem judgePortEnable_asm (q : Request) (s : State) : (judgePortEnable q s).state.asm = s.asm := by
  unfold judgePortEnable; (repeat' split) <;> simp
@[simp] theorem judgePortEnable_store (q : Request) (s : State) : (judgePortEnable q s).state.store = s.store := by
  unfold judgePortEnable; (repeat' split) <;> simp
@[simp] theorem judgePortEnable_corr (q : Request) (s : State) : (judgePortEnable q s).state.corr = s.corr := by
  unfold judgePortEnable; (repeat' split) <;> simp
@[simp] theorem judgePortEnable_screens (q : Request) (s : State) : (judgePortEnable q s).state.screens = s.screens := by
  unfold judgePortEnable; (repeat' split) <;> simp
@[simp] theorem judgePortEnable_dec (q : Request) (s : State) : (judgePortEnable q s).state.dec = s.dec := by
  unfold judgePortEnable; (repeat' split) <;> simp
@[simp] theorem judgePortEnable_link (q : Request) (s : State) : (judgePortEnable q s).state.link = s.link := by
  unfold judgePortEnable; (repeat' split) <;> simp
@[simp] theorem judgePortEnable_status (q : Request) (s : State) : (judgePortEnable q s).state.status = s.status := by
  unfold judgePortEnable; (repeat' split) <;> simp
@[simp] theorem judgePortEnable_aux (q : Request) (s : State) : (judgePortEnable q s).state.aux = s.aux := by
  unfold judgePortEnable; (repeat' split) <;> simp
@[simp] theorem judgePortEnable_staging (q : Request) (s : State) : (judgePortEnable q s).state.staging = s.staging := by
  unfold judgePortEnable; (repeat' split) <;> simp
@[simp] theorem judgePortEnable_pending (q : Request) (s : State) : (judgePortEnable q s).state.pending = s.pending := by
  unfold judgePortEnable; (repeat' split) <;> simp

/-! ### judgePortSet -/

@[simp] theorem judgePortSet_phase (q : Request) (s : State) : (judgePortSet q s).state.phase = s.phase := by
  unfold judgePortSet; (repeat' split) <;> simp
@[simp] theorem judgePortSet_tb (q : Request) (s : State) : (judgePortSet q s).state.tb = s.tb := by
  unfold judgePortSet; (repeat' split) <;> simp
@[simp] theorem judgePortSet_asm (q : Request) (s : State) : (judgePortSet q s).state.asm = s.asm := by
  unfold judgePortSet; (repeat' split) <;> simp
@[simp] theorem judgePortSet_store (q : Request) (s : State) : (judgePortSet q s).state.store = s.store := by
  unfold judgePortSet; (repeat' split) <;> simp
@[simp] theorem judgePortSet_corr (q : Request) (s : State) : (judgePortSet q s).state.corr = s.corr := by
  unfold judgePortSet; (repeat' split) <;> simp
@[simp] theorem judgePortSet_screens (q : Request) (s : State) : (judgePortSet q s).state.screens = s.screens := by
  unfold judgePortSet; (repeat' split) <;> simp
@[simp] theorem judgePortSet_dec (q : Request) (s : State) : (judgePortSet q s).state.dec = s.dec := by
  unfold judgePortSet; (repeat' split) <;> simp
@[simp] theorem judgePortSet_link (q : Request) (s : State) : (judgePortSet q s).state.link = s.link := by
  unfold judgePortSet; (repeat' split) <;> simp
@[simp] theorem judgePortSet_status (q : Request) (s : State) : (judgePortSet q s).state.status = s.status := by
  unfold judgePortSet; (repeat' split) <;> simp
@[simp] theorem judgePortSet_aux (q : Request) (s : State) : (judgePortSet q s).state.aux = s.aux := by
  unfold judgePortSet; (repeat' split) <;> simp
@[simp] theorem judgePortSet_staging (q : Request) (s : State) : (judgePortSet q s).state.staging = s.staging := by
  unfold judgePortSet; (repeat' split) <;> simp
@[simp] theorem judgePortSet_pending (q : Request) (s : State) : (judgePortSet q s).state.pending = s.pending := by
  unfold judgePortSet; (repeat' split) <;> simp

/-! ### judgeChannelSet -/

@[simp] theorem judgeChannelSet_phase (q : Request) (s : State) : (judgeChannelSet q s).state.phase = s.phase := by
  unfold judgeChannelSet; simp only []; (repeat' split) <;> simp
@[simp] theorem judgeChannelSet_tb (q : Request) (s : State) : (judgeChannelSet q s).state.tb = s.tb := by
  unfold judgeChannelSet; simp only []; (repeat' split) <;> simp
@[simp] theorem judgeChannelSet_portA (q : Request) (s : State) : (judgeChannelSet q s).state.portA = s.portA := by
  unfold judgeChannelSet; simp only []; (repeat' split) <;> simp
@[simp] theorem judgeChannelSet_portB (q : Request) (s : State) : (judgeChannelSet q s).state.portB = s.portB := by
  unfold judgeChannelSet; simp only []; (repeat' split) <;> simp
@[simp] theorem judgeChannelSet_asm (q : Request) (s : State) : (judgeChannelSet q s).state.asm = s.asm := by
  unfold judgeChannelSet; simp only []; (repeat' split) <;> simp
@[simp] theorem judgeChannelSet_store (q : Request) (s : State) : (judgeChannelSet q s).state.store = s.store := by
  unfold judgeChannelSet; simp only []; (repeat' split) <;> simp
@[simp] theorem judgeChannelSet_corr (q : Request) (s : State) : (judgeChannelSet q s).state.corr = s.corr := by
  unfold judgeChannelSet; simp only []; (repeat' split) <;> simp
@[simp] theorem judgeChannelSet_screens (q : Request) (s : State) : (judgeChannelSet q s).state.screens = s.screens := by
  unfold judgeChannelSet; simp only []; (repeat' split) <;> simp
@[simp] theorem judgeChannelSet_dec (q : Request) (s : State) : (judgeChannelSet q s).state.dec = s.dec := by
  unfold judgeChannelSet; simp only []; (repeat' split) <;> simp
@[simp] theorem judgeChannelSet_link (q : Request) (s : State) : (judgeChannelSet q s).state.link = s.link := by
  unfold judgeChannelSet; simp only []; (repeat' split) <;> simp
@[simp] theorem judgeChannelSet_status (q : Request) (s : State) : (judgeChannelSet q s).state.status = s.status := by
  unfold judgeChannelSet; simp only []; (repeat' split) <;> simp
@[simp] theorem judgeChannelSet_aux (q : Request) (s : State) : (judgeChannelSet q s).state.aux = s.aux := by
  unfold judgeChannelSet; simp only []; (repeat' split) <;> simp
@[simp] theorem judgeChannelSet_settings (q : Request) (s : State) : (judgeChannelSet q s).state.settings = s.settings := by
  unfold judgeChannelSet; simp only []; (repeat' split) <;> simp
@[simp] theorem judgeChannelSet_pending (q : Request) (s : State) : (judgeChannelSet q s).state.pending = s.pending := by
  unfold judgeChannelSet; simp only []; (repeat' split) <;> simp

/-! ### judgeTriadSet -/

@[simp] theorem judgeTriadSet_phase (q : Request) (s : State) : (judgeTriadSet q s).state.phase = s.phase := by
  unfold judgeTriadSet; simp only []; (repeat' split) <;> simp
@[simp] theorem judgeTriadSet_tb (q : Request) (s : State) : (judgeTriadSet q s).state.tb = s.tb := by
  unfold judgeTriadSet; simp only []; (repeat' split) <;> simp
@[simp] theorem judgeTriadSet_portA (q : Request) (s : State) : (judgeTriadSet q s).state.portA = s.portA := by
  unfold judgeTriadSet; simp only []; (repeat' split) <;> simp
@[simp] theorem judgeTriadSet_portB (q : Request) (s : State) : (judgeTriadSet q s).state.portB = s.portB := by
  unfold judgeTriadSet; simp only []; (repeat' split) <;> simp
@[simp] theorem judgeTriadSet_asm (q : Request) (s : State) : (judgeTriadSet q s).state.asm = s.asm := by
  unfold judgeTriadSet; simp only []; (repeat' split) <;> simp
@[simp] theorem judgeTriadSet_store (q : Request) (s : State) : (judgeTriadSet q s).state.store = s.store := by
  unfold judgeTriadSet; simp only []; (repeat' split) <;> simp
@[simp] theorem judgeTriadSet_corr (q : Request) (s : State) : (judgeTriadSet q s).state.corr = s.corr := by
  unfold judgeTriadSet; simp only []; (repeat' split) <;> simp
@[simp] theorem judgeTriadSet_screens (q : Request) (s : State) : (judgeTriadSet q s).state.screens = s.screens := by
  unfold judgeTriadSet; simp only []; (repeat' split) <;> simp
@[simp] theorem judgeTriadSet_dec (q : Request) (s : State) : (judgeTriadSet q s).state.dec = s.dec := by
  unfold judgeTriadSet; simp only []; (repeat' split) <;> simp
@[simp] theorem judgeTriadSet_link (q : Request) (s : State) : (judgeTriadSet q s).state.link = s.link := by
  unfold judgeTriadSet; simp only []; (repeat' split) <;> simp
@[simp] theorem judgeTriadSet_status (q : Request) (s : State) : (judgeTriadSet q s).state.status = s.status := by
  unfold judgeTriadSet; simp only []; (repeat' split) <;> simp
@[simp] theorem judgeTriadSet_aux (q : Request) (s : State) : (judgeTriadSet q s).state.aux = s.aux := by
  unfold judgeTriadSet; simp only []; (repeat' split) <;> simp
@[simp] theorem judgeTriadSet_settings (q : Request) (s : State) : (judgeTriadSet q s).state.settings = s.settings := by
  unfold judgeTriadSet; simp only []; (repeat' split) <;> simp
@[simp] theorem judgeTriadSet_pending (q : Request) (s : State) : (judgeTriadSet q s).state.pending = s.pending := by
  unfold judgeTriadSet; simp only []; (repeat' split) <;> simp

/-! ### judgeFilterShape -/

@[simp] theorem judgeFilterShape_phase (q : Request) (s : State) : (judgeFilterShape q s).state.phase = s.phase := by
  unfold judgeFilterShape; simp only []; (repeat' split) <;> simp
@[simp] theorem judgeFilterShape_tb (q : Request) (s : State) : (judgeFilterShape q s).state.tb = s.tb := by
  unfold judgeFilterShape; simp only []; (repeat' split) <;> simp
@[simp] theorem judgeFilterShape_portA (q : Request) (s : State) : (judgeFilterShape q s).state.portA = s.portA := by
  unfold judgeFilterShape; simp only []; (repeat' split) <;> simp
@[simp] theorem judgeFilterShape_portB (q : Request) (s : State) : (judgeFilterShape q s).state.portB = s.portB := by
  unfold judgeFilterShape; simp only []; (repeat' split) <;> simp
@[simp] theorem judgeFilterShape_asm (q : Request) (s : State) : (judgeFilterShape q s).state.asm = s.asm := by
  unfold judgeFilterShape; simp only []; (repeat' split) <;> simp
@[simp] theorem judgeFilterShape_store (q : Request) (s : State) : (judgeFilterShape q s).state.store = s.store := by
  unfold judgeFilterShape; simp only []; (repeat' split) <;> simp
@[simp] theorem judgeFilterShape_corr (q : Request) (s : State) : (judgeFilterShape q s).state.corr = s.corr := by
  unfold judgeFilterShape; simp only []; (repeat' split) <;> simp
@[simp] theorem judgeFilterShape_screens (q : Request) (s : State) : (judgeFilterShape q s).state.screens = s.screens := by
  unfold judgeFilterShape; simp only []; (repeat' split) <;> simp
@[simp] theorem judgeFilterShape_dec (q : Request) (s : State) : (judgeFilterShape q s).state.dec = s.dec := by
  unfold judgeFilterShape; simp only []; (repeat' split) <;> simp
@[simp] theorem judgeFilterShape_link (q : Request) (s : State) : (judgeFilterShape q s).state.link = s.link := by
  unfold judgeFilterShape; simp only []; (repeat' split) <;> simp
@[simp] theorem judgeFilterShape_status (q : Request) (s : State) : (judgeFilterShape q s).state.status = s.status := by
  unfold judgeFilterShape; simp only []; (repeat' split) <;> simp
@[simp] theorem judgeFilterShape_aux (q : Request) (s : State) : (judgeFilterShape q s).state.aux = s.aux := by
  unfold judgeFilterShape; simp only []; (repeat' split) <;> simp
@[simp] theorem judgeFilterShape_settings (q : Request) (s : State) : (judgeFilterShape q s).state.settings = s.settings := by
  unfold judgeFilterShape; simp only []; (repeat' split) <;> simp
@[simp] theorem judgeFilterShape_pending (q : Request) (s : State) : (judgeFilterShape q s).state.pending = s.pending := by
  unfold judgeFilterShape; simp only []; (repeat' split) <;> simp

/-! ### judgeFilterTaps -/

@[simp] theorem judgeFilterTaps_phase (q : Request) (s : State) : (judgeFilterTaps q s).state.phase = s.phase := by
  unfold judgeFilterTaps; simp only []; (repeat' split) <;> simp
@[simp] theorem judgeFilterTaps_tb (q : Request) (s : State) : (judgeFilterTaps q s).state.tb = s.tb := by
  unfold judgeFilterTaps; simp only []; (repeat' split) <;> simp
@[simp] theorem judgeFilterTaps_portA (q : Request) (s : State) : (judgeFilterTaps q s).state.portA = s.portA := by
  unfold judgeFilterTaps; simp only []; (repeat' split) <;> simp
@[simp] theorem judgeFilterTaps_portB (q : Request) (s : State) : (judgeFilterTaps q s).state.portB = s.portB := by
  unfold judgeFilterTaps; simp only []; (repeat' split) <;> simp
@[simp] theorem judgeFilterTaps_asm (q : Request) (s : State) : (judgeFilterTaps q s).state.asm = s.asm := by
  unfold judgeFilterTaps; simp only []; (repeat' split) <;> simp
@[simp] theorem judgeFilterTaps_store (q : Request) (s : State) : (judgeFilterTaps q s).state.store = s.store := by
  unfold judgeFilterTaps; simp only []; (repeat' split) <;> simp
@[simp] theorem judgeFilterTaps_corr (q : Request) (s : State) : (judgeFilterTaps q s).state.corr = s.corr := by
  unfold judgeFilterTaps; simp only []; (repeat' split) <;> simp
@[simp] theorem judgeFilterTaps_screens (q : Request) (s : State) : (judgeFilterTaps q s).state.screens = s.screens := by
  unfold judgeFilterTaps; simp only []; (repeat' split) <;> simp
@[simp] theorem judgeFilterTaps_dec (q : Request) (s : State) : (judgeFilterTaps q s).state.dec = s.dec := by
  unfold judgeFilterTaps; simp only []; (repeat' split) <;> simp
@[simp] theorem judgeFilterTaps_link (q : Request) (s : State) : (judgeFilterTaps q s).state.link = s.link := by
  unfold judgeFilterTaps; simp only []; (repeat' split) <;> simp
@[simp] theorem judgeFilterTaps_status (q : Request) (s : State) : (judgeFilterTaps q s).state.status = s.status := by
  unfold judgeFilterTaps; simp only []; (repeat' split) <;> simp
@[simp] theorem judgeFilterTaps_aux (q : Request) (s : State) : (judgeFilterTaps q s).state.aux = s.aux := by
  unfold judgeFilterTaps; simp only []; (repeat' split) <;> simp
@[simp] theorem judgeFilterTaps_settings (q : Request) (s : State) : (judgeFilterTaps q s).state.settings = s.settings := by
  unfold judgeFilterTaps; simp only []; (repeat' split) <;> simp
@[simp] theorem judgeFilterTaps_pending (q : Request) (s : State) : (judgeFilterTaps q s).state.pending = s.pending := by
  unfold judgeFilterTaps; simp only []; (repeat' split) <;> simp

/-! ### judgeDiscard -/

@[simp] theorem judgeDiscard_phase (q : Request) (s : State) : (judgeDiscard q s).state.phase = s.phase := by simp [judgeDiscard]
@[simp] theorem judgeDiscard_tb (q : Request) (s : State) : (judgeDiscard q s).state.tb = s.tb := by simp [judgeDiscard]
@[simp] theorem judgeDiscard_portA (q : Request) (s : State) : (judgeDiscard q s).state.portA = s.portA := by simp [judgeDiscard]
@[simp] theorem judgeDiscard_portB (q : Request) (s : State) : (judgeDiscard q s).state.portB = s.portB := by simp [judgeDiscard]
@[simp] theorem judgeDiscard_asm (q : Request) (s : State) : (judgeDiscard q s).state.asm = s.asm := by simp [judgeDiscard]
@[simp] theorem judgeDiscard_store (q : Request) (s : State) : (judgeDiscard q s).state.store = s.store := by simp [judgeDiscard]
@[simp] theorem judgeDiscard_corr (q : Request) (s : State) : (judgeDiscard q s).state.corr = s.corr := by simp [judgeDiscard]
@[simp] theorem judgeDiscard_screens (q : Request) (s : State) : (judgeDiscard q s).state.screens = s.screens := by simp [judgeDiscard]
@[simp] theorem judgeDiscard_dec (q : Request) (s : State) : (judgeDiscard q s).state.dec = s.dec := by simp [judgeDiscard]
@[simp] theorem judgeDiscard_link (q : Request) (s : State) : (judgeDiscard q s).state.link = s.link := by simp [judgeDiscard]
@[simp] theorem judgeDiscard_status (q : Request) (s : State) : (judgeDiscard q s).state.status = s.status := by simp [judgeDiscard]
@[simp] theorem judgeDiscard_aux (q : Request) (s : State) : (judgeDiscard q s).state.aux = s.aux := by simp [judgeDiscard]
@[simp] theorem judgeDiscard_settings (q : Request) (s : State) : (judgeDiscard q s).state.settings = s.settings := by simp [judgeDiscard]
@[simp] theorem judgeDiscard_pending (q : Request) (s : State) : (judgeDiscard q s).state.pending = s.pending := by simp [judgeDiscard]

/-! ### judgeCommit -/

@[simp] theorem judgeCommit_phase (q : Request) (s : State) : (judgeCommit q s).state.phase = s.phase := by
  unfold judgeCommit; simp only []; (repeat' split) <;> simp
@[simp] theorem judgeCommit_tb (q : Request) (s : State) : (judgeCommit q s).state.tb = s.tb := by
  unfold judgeCommit; simp only []; (repeat' split) <;> simp
@[simp] theorem judgeCommit_portA (q : Request) (s : State) : (judgeCommit q s).state.portA = s.portA := by
  unfold judgeCommit; simp only []; (repeat' split) <;> simp
@[simp] theorem judgeCommit_portB (q : Request) (s : State) : (judgeCommit q s).state.portB = s.portB := by
  unfold judgeCommit; simp only []; (repeat' split) <;> simp
@[simp] theorem judgeCommit_asm (q : Request) (s : State) : (judgeCommit q s).state.asm = s.asm := by
  unfold judgeCommit; simp only []; (repeat' split) <;> simp
@[simp] theorem judgeCommit_store (q : Request) (s : State) : (judgeCommit q s).state.store = s.store := by
  unfold judgeCommit; simp only []; (repeat' split) <;> simp
@[simp] theorem judgeCommit_corr (q : Request) (s : State) : (judgeCommit q s).state.corr = s.corr := by
  unfold judgeCommit; simp only []; (repeat' split) <;> simp
@[simp] theorem judgeCommit_screens (q : Request) (s : State) : (judgeCommit q s).state.screens = s.screens := by
  unfold judgeCommit; simp only []; (repeat' split) <;> simp
@[simp] theorem judgeCommit_dec (q : Request) (s : State) : (judgeCommit q s).state.dec = s.dec := by
  unfold judgeCommit; simp only []; (repeat' split) <;> simp
@[simp] theorem judgeCommit_link (q : Request) (s : State) : (judgeCommit q s).state.link = s.link := by
  unfold judgeCommit; simp only []; (repeat' split) <;> simp
@[simp] theorem judgeCommit_status (q : Request) (s : State) : (judgeCommit q s).state.status = s.status := by
  unfold judgeCommit; simp only []; (repeat' split) <;> simp
@[simp] theorem judgeCommit_aux (q : Request) (s : State) : (judgeCommit q s).state.aux = s.aux := by
  unfold judgeCommit; simp only []; (repeat' split) <;> simp
@[simp] theorem judgeCommit_settings (q : Request) (s : State) : (judgeCommit q s).state.settings = s.settings := by
  unfold judgeCommit; simp only []; (repeat' split) <;> simp
@[simp] theorem judgeCommit_pending (q : Request) (s : State) : (judgeCommit q s).state.pending = s.pending := by
  unfold judgeCommit; simp only []; (repeat' split) <;> simp

/-! ### judgeStoreWrite -/

@[simp] theorem judgeStoreWrite_phase (q : Request) (s : State) : (judgeStoreWrite q s).state.phase = s.phase := by
  unfold judgeStoreWrite; simp only []; (repeat' split) <;> simp
@[simp] theorem judgeStoreWrite_tb (q : Request) (s : State) : (judgeStoreWrite q s).state.tb = s.tb := by
  unfold judgeStoreWrite; simp only []; (repeat' split) <;> simp
@[simp] theorem judgeStoreWrite_portA (q : Request) (s : State) : (judgeStoreWrite q s).state.portA = s.portA := by
  unfold judgeStoreWrite; simp only []; (repeat' split) <;> simp
@[simp] theorem judgeStoreWrite_portB (q : Request) (s : State) : (judgeStoreWrite q s).state.portB = s.portB := by
  unfold judgeStoreWrite; simp only []; (repeat' split) <;> simp
@[simp] theorem judgeStoreWrite_asm (q : Request) (s : State) : (judgeStoreWrite q s).state.asm = s.asm := by
  unfold judgeStoreWrite; simp only []; (repeat' split) <;> simp
@[simp] theorem judgeStoreWrite_corr (q : Request) (s : State) : (judgeStoreWrite q s).state.corr = s.corr := by
  unfold judgeStoreWrite; simp only []; (repeat' split) <;> simp
@[simp] theorem judgeStoreWrite_screens (q : Request) (s : State) : (judgeStoreWrite q s).state.screens = s.screens := by
  unfold judgeStoreWrite; simp only []; (repeat' split) <;> simp
@[simp] theorem judgeStoreWrite_dec (q : Request) (s : State) : (judgeStoreWrite q s).state.dec = s.dec := by
  unfold judgeStoreWrite; simp only []; (repeat' split) <;> simp
@[simp] theorem judgeStoreWrite_link (q : Request) (s : State) : (judgeStoreWrite q s).state.link = s.link := by
  unfold judgeStoreWrite; simp only []; (repeat' split) <;> simp
@[simp] theorem judgeStoreWrite_status (q : Request) (s : State) : (judgeStoreWrite q s).state.status = s.status := by
  unfold judgeStoreWrite; simp only []; (repeat' split) <;> simp
@[simp] theorem judgeStoreWrite_aux (q : Request) (s : State) : (judgeStoreWrite q s).state.aux = s.aux := by
  unfold judgeStoreWrite; simp only []; (repeat' split) <;> simp
@[simp] theorem judgeStoreWrite_staging (q : Request) (s : State) : (judgeStoreWrite q s).state.staging = s.staging := by
  unfold judgeStoreWrite; simp only []; (repeat' split) <;> simp
@[simp] theorem judgeStoreWrite_pending (q : Request) (s : State) : (judgeStoreWrite q s).state.pending = s.pending := by
  unfold judgeStoreWrite; simp only []; (repeat' split) <;> simp

/-! ### judgeStorePoison -/

@[simp] theorem judgeStorePoison_phase (q : Request) (s : State) : (judgeStorePoison q s).state.phase = s.phase := by
  unfold judgeStorePoison; simp only []; (repeat' split) <;> simp
@[simp] theorem judgeStorePoison_tb (q : Request) (s : State) : (judgeStorePoison q s).state.tb = s.tb := by
  unfold judgeStorePoison; simp only []; (repeat' split) <;> simp
@[simp] theorem judgeStorePoison_portA (q : Request) (s : State) : (judgeStorePoison q s).state.portA = s.portA := by
  unfold judgeStorePoison; simp only []; (repeat' split) <;> simp
@[simp] theorem judgeStorePoison_portB (q : Request) (s : State) : (judgeStorePoison q s).state.portB = s.portB := by
  unfold judgeStorePoison; simp only []; (repeat' split) <;> simp
@[simp] theorem judgeStorePoison_asm (q : Request) (s : State) : (judgeStorePoison q s).state.asm = s.asm := by
  unfold judgeStorePoison; simp only []; (repeat' split) <;> simp
@[simp] theorem judgeStorePoison_corr (q : Request) (s : State) : (judgeStorePoison q s).state.corr = s.corr := by
  unfold judgeStorePoison; simp only []; (repeat' split) <;> simp
@[simp] theorem judgeStorePoison_screens (q : Request) (s : State) : (judgeStorePoison q s).state.screens = s.screens := by
  unfold judgeStorePoison; simp only []; (repeat' split) <;> simp
@[simp] theorem judgeStorePoison_dec (q : Request) (s : State) : (judgeStorePoison q s).state.dec = s.dec := by
  unfold judgeStorePoison; simp only []; (repeat' split) <;> simp
@[simp] theorem judgeStorePoison_link (q : Request) (s : State) : (judgeStorePoison q s).state.link = s.link := by
  unfold judgeStorePoison; simp only []; (repeat' split) <;> simp
@[simp] theorem judgeStorePoison_status (q : Request) (s : State) : (judgeStorePoison q s).state.status = s.status := by
  unfold judgeStorePoison; simp only []; (repeat' split) <;> simp
@[simp] theorem judgeStorePoison_aux (q : Request) (s : State) : (judgeStorePoison q s).state.aux = s.aux := by
  unfold judgeStorePoison; simp only []; (repeat' split) <;> simp
@[simp] theorem judgeStorePoison_staging (q : Request) (s : State) : (judgeStorePoison q s).state.staging = s.staging := by
  unfold judgeStorePoison; simp only []; (repeat' split) <;> simp
@[simp] theorem judgeStorePoison_pending (q : Request) (s : State) : (judgeStorePoison q s).state.pending = s.pending := by
  unfold judgeStorePoison; simp only []; (repeat' split) <;> simp

/-! ### judgeConditionsClear -/

@[simp] theorem judgeConditionsClear_phase (q : Request) (s : State) : (judgeConditionsClear q s).state.phase = s.phase := by
  unfold judgeConditionsClear; simp only []; (repeat' split) <;> simp
@[simp] theorem judgeConditionsClear_tb (q : Request) (s : State) : (judgeConditionsClear q s).state.tb = s.tb := by
  unfold judgeConditionsClear; simp only []; (repeat' split) <;> simp
@[simp] theorem judgeConditionsClear_portA (q : Request) (s : State) : (judgeConditionsClear q s).state.portA = s.portA := by
  unfold judgeConditionsClear; simp only []; (repeat' split) <;> simp
@[simp] theorem judgeConditionsClear_portB (q : Request) (s : State) : (judgeConditionsClear q s).state.portB = s.portB := by
  unfold judgeConditionsClear; simp only []; (repeat' split) <;> simp
@[simp] theorem judgeConditionsClear_asm (q : Request) (s : State) : (judgeConditionsClear q s).state.asm = s.asm := by
  unfold judgeConditionsClear; simp only []; (repeat' split) <;> simp
@[simp] theorem judgeConditionsClear_store (q : Request) (s : State) : (judgeConditionsClear q s).state.store = s.store := by
  unfold judgeConditionsClear; simp only []; (repeat' split) <;> simp
@[simp] theorem judgeConditionsClear_corr (q : Request) (s : State) : (judgeConditionsClear q s).state.corr = s.corr := by
  unfold judgeConditionsClear; simp only []; (repeat' split) <;> simp
@[simp] theorem judgeConditionsClear_screens (q : Request) (s : State) : (judgeConditionsClear q s).state.screens = s.screens := by
  unfold judgeConditionsClear; simp only []; (repeat' split) <;> simp
@[simp] theorem judgeConditionsClear_dec (q : Request) (s : State) : (judgeConditionsClear q s).state.dec = s.dec := by
  unfold judgeConditionsClear; simp only []; (repeat' split) <;> simp
@[simp] theorem judgeConditionsClear_link (q : Request) (s : State) : (judgeConditionsClear q s).state.link = s.link := by
  unfold judgeConditionsClear; simp only []; (repeat' split) <;> simp
@[simp] theorem judgeConditionsClear_aux (q : Request) (s : State) : (judgeConditionsClear q s).state.aux = s.aux := by
  unfold judgeConditionsClear; simp only []; (repeat' split) <;> simp
@[simp] theorem judgeConditionsClear_staging (q : Request) (s : State) : (judgeConditionsClear q s).state.staging = s.staging := by
  unfold judgeConditionsClear; simp only []; (repeat' split) <;> simp
@[simp] theorem judgeConditionsClear_settings (q : Request) (s : State) : (judgeConditionsClear q s).state.settings = s.settings := by
  unfold judgeConditionsClear; simp only []; (repeat' split) <;> simp
@[simp] theorem judgeConditionsClear_pending (q : Request) (s : State) : (judgeConditionsClear q s).state.pending = s.pending := by
  unfold judgeConditionsClear; simp only []; (repeat' split) <;> simp

/-! ### judgeCountersClear -/

@[simp] theorem judgeCountersClear_phase (q : Request) (s : State) : (judgeCountersClear q s).state.phase = s.phase := by
  unfold judgeCountersClear; simp only []; (repeat' split) <;> simp [State.clearGroup]
@[simp] theorem judgeCountersClear_tb (q : Request) (s : State) : (judgeCountersClear q s).state.tb = s.tb := by
  unfold judgeCountersClear; simp only []; (repeat' split) <;> simp [State.clearGroup]
@[simp] theorem judgeCountersClear_portA (q : Request) (s : State) : (judgeCountersClear q s).state.portA = s.portA := by
  unfold judgeCountersClear; simp only []; (repeat' split) <;> simp [State.clearGroup]
@[simp] theorem judgeCountersClear_portB (q : Request) (s : State) : (judgeCountersClear q s).state.portB = s.portB := by
  unfold judgeCountersClear; simp only []; (repeat' split) <;> simp [State.clearGroup]
@[simp] theorem judgeCountersClear_asm (q : Request) (s : State) : (judgeCountersClear q s).state.asm = s.asm := by
  unfold judgeCountersClear; simp only []; (repeat' split) <;> simp [State.clearGroup]
@[simp] theorem judgeCountersClear_store (q : Request) (s : State) : (judgeCountersClear q s).state.store = s.store := by
  unfold judgeCountersClear; simp only []; (repeat' split) <;> simp [State.clearGroup]
@[simp] theorem judgeCountersClear_corr (q : Request) (s : State) : (judgeCountersClear q s).state.corr = s.corr := by
  unfold judgeCountersClear; simp only []; (repeat' split) <;> simp [State.clearGroup]
@[simp] theorem judgeCountersClear_screens (q : Request) (s : State) : (judgeCountersClear q s).state.screens = s.screens := by
  unfold judgeCountersClear; simp only []; (repeat' split) <;> simp [State.clearGroup]
@[simp] theorem judgeCountersClear_dec (q : Request) (s : State) : (judgeCountersClear q s).state.dec = s.dec := by
  unfold judgeCountersClear; simp only []; (repeat' split) <;> simp [State.clearGroup]
@[simp] theorem judgeCountersClear_link (q : Request) (s : State) : (judgeCountersClear q s).state.link = s.link := by
  unfold judgeCountersClear; simp only []; (repeat' split) <;> simp [State.clearGroup]
@[simp] theorem judgeCountersClear_aux (q : Request) (s : State) : (judgeCountersClear q s).state.aux = s.aux := by
  unfold judgeCountersClear; simp only []; (repeat' split) <;> simp [State.clearGroup]
@[simp] theorem judgeCountersClear_staging (q : Request) (s : State) : (judgeCountersClear q s).state.staging = s.staging := by
  unfold judgeCountersClear; simp only []; (repeat' split) <;> simp [State.clearGroup]
@[simp] theorem judgeCountersClear_settings (q : Request) (s : State) : (judgeCountersClear q s).state.settings = s.settings := by
  unfold judgeCountersClear; simp only []; (repeat' split) <;> simp [State.clearGroup]
@[simp] theorem judgeCountersClear_pending (q : Request) (s : State) : (judgeCountersClear q s).state.pending = s.pending := by
  unfold judgeCountersClear; simp only []; (repeat' split) <;> simp [State.clearGroup]

/-! ### judgeFaultRelease -/

@[simp] theorem judgeFaultRelease_phase (q : Request) (s : State) : (judgeFaultRelease q s).state.phase = s.phase := by simp [judgeFaultRelease]
@[simp] theorem judgeFaultRelease_tb (q : Request) (s : State) : (judgeFaultRelease q s).state.tb = s.tb := by simp [judgeFaultRelease]
@[simp] theorem judgeFaultRelease_portA (q : Request) (s : State) : (judgeFaultRelease q s).state.portA = s.portA := by simp [judgeFaultRelease]
@[simp] theorem judgeFaultRelease_portB (q : Request) (s : State) : (judgeFaultRelease q s).state.portB = s.portB := by simp [judgeFaultRelease]
@[simp] theorem judgeFaultRelease_asm (q : Request) (s : State) : (judgeFaultRelease q s).state.asm = s.asm := by simp [judgeFaultRelease]
@[simp] theorem judgeFaultRelease_store (q : Request) (s : State) : (judgeFaultRelease q s).state.store = s.store := by simp [judgeFaultRelease]
@[simp] theorem judgeFaultRelease_corr (q : Request) (s : State) : (judgeFaultRelease q s).state.corr = s.corr := by simp [judgeFaultRelease]
@[simp] theorem judgeFaultRelease_screens (q : Request) (s : State) : (judgeFaultRelease q s).state.screens = s.screens := by simp [judgeFaultRelease]
@[simp] theorem judgeFaultRelease_dec (q : Request) (s : State) : (judgeFaultRelease q s).state.dec = s.dec := by simp [judgeFaultRelease]
@[simp] theorem judgeFaultRelease_link (q : Request) (s : State) : (judgeFaultRelease q s).state.link = s.link := by simp [judgeFaultRelease]
@[simp] theorem judgeFaultRelease_aux (q : Request) (s : State) : (judgeFaultRelease q s).state.aux = s.aux := by simp [judgeFaultRelease]
@[simp] theorem judgeFaultRelease_staging (q : Request) (s : State) : (judgeFaultRelease q s).state.staging = s.staging := by simp [judgeFaultRelease]
@[simp] theorem judgeFaultRelease_settings (q : Request) (s : State) : (judgeFaultRelease q s).state.settings = s.settings := by simp [judgeFaultRelease]
@[simp] theorem judgeFaultRelease_pending (q : Request) (s : State) : (judgeFaultRelease q s).state.pending = s.pending := by simp [judgeFaultRelease]

/-! ### judgeAlertMaskSet -/

@[simp] theorem judgeAlertMaskSet_phase (q : Request) (s : State) : (judgeAlertMaskSet q s).state.phase = s.phase := by
  unfold judgeAlertMaskSet; simp only []; (repeat' split) <;> simp
@[simp] theorem judgeAlertMaskSet_tb (q : Request) (s : State) : (judgeAlertMaskSet q s).state.tb = s.tb := by
  unfold judgeAlertMaskSet; simp only []; (repeat' split) <;> simp
@[simp] theorem judgeAlertMaskSet_portA (q : Request) (s : State) : (judgeAlertMaskSet q s).state.portA = s.portA := by
  unfold judgeAlertMaskSet; simp only []; (repeat' split) <;> simp
@[simp] theorem judgeAlertMaskSet_portB (q : Request) (s : State) : (judgeAlertMaskSet q s).state.portB = s.portB := by
  unfold judgeAlertMaskSet; simp only []; (repeat' split) <;> simp
@[simp] theorem judgeAlertMaskSet_asm (q : Request) (s : State) : (judgeAlertMaskSet q s).state.asm = s.asm := by
  unfold judgeAlertMaskSet; simp only []; (repeat' split) <;> simp
@[simp] theorem judgeAlertMaskSet_store (q : Request) (s : State) : (judgeAlertMaskSet q s).state.store = s.store := by
  unfold judgeAlertMaskSet; simp only []; (repeat' split) <;> simp
@[simp] theorem judgeAlertMaskSet_corr (q : Request) (s : State) : (judgeAlertMaskSet q s).state.corr = s.corr := by
  unfold judgeAlertMaskSet; simp only []; (repeat' split) <;> simp
@[simp] theorem judgeAlertMaskSet_screens (q : Request) (s : State) : (judgeAlertMaskSet q s).state.screens = s.screens := by
  unfold judgeAlertMaskSet; simp only []; (repeat' split) <;> simp
@[simp] theorem judgeAlertMaskSet_dec (q : Request) (s : State) : (judgeAlertMaskSet q s).state.dec = s.dec := by
  unfold judgeAlertMaskSet; simp only []; (repeat' split) <;> simp
@[simp] theorem judgeAlertMaskSet_link (q : Request) (s : State) : (judgeAlertMaskSet q s).state.link = s.link := by
  unfold judgeAlertMaskSet; simp only []; (repeat' split) <;> simp
@[simp] theorem judgeAlertMaskSet_aux (q : Request) (s : State) : (judgeAlertMaskSet q s).state.aux = s.aux := by
  unfold judgeAlertMaskSet; simp only []; (repeat' split) <;> simp
@[simp] theorem judgeAlertMaskSet_staging (q : Request) (s : State) : (judgeAlertMaskSet q s).state.staging = s.staging := by
  unfold judgeAlertMaskSet; simp only []; (repeat' split) <;> simp
@[simp] theorem judgeAlertMaskSet_pending (q : Request) (s : State) : (judgeAlertMaskSet q s).state.pending = s.pending := by
  unfold judgeAlertMaskSet; simp only []; (repeat' split) <;> simp

/-! ### judgeCaptureMaskSet -/

@[simp] theorem judgeCaptureMaskSet_phase (q : Request) (s : State) : (judgeCaptureMaskSet q s).state.phase = s.phase := by
  unfold judgeCaptureMaskSet; simp only []; (repeat' split) <;> simp
@[simp] theorem judgeCaptureMaskSet_tb (q : Request) (s : State) : (judgeCaptureMaskSet q s).state.tb = s.tb := by
  unfold judgeCaptureMaskSet; simp only []; (repeat' split) <;> simp
@[simp] theorem judgeCaptureMaskSet_portA (q : Request) (s : State) : (judgeCaptureMaskSet q s).state.portA = s.portA := by
  unfold judgeCaptureMaskSet; simp only []; (repeat' split) <;> simp
@[simp] theorem judgeCaptureMaskSet_portB (q : Request) (s : State) : (judgeCaptureMaskSet q s).state.portB = s.portB := by
  unfold judgeCaptureMaskSet; simp only []; (repeat' split) <;> simp
@[simp] theorem judgeCaptureMaskSet_asm (q : Request) (s : State) : (judgeCaptureMaskSet q s).state.asm = s.asm := by
  unfold judgeCaptureMaskSet; simp only []; (repeat' split) <;> simp
@[simp] theorem judgeCaptureMaskSet_store (q : Request) (s : State) : (judgeCaptureMaskSet q s).state.store = s.store := by
  unfold judgeCaptureMaskSet; simp only []; (repeat' split) <;> simp
@[simp] theorem judgeCaptureMaskSet_corr (q : Request) (s : State) : (judgeCaptureMaskSet q s).state.corr = s.corr := by
  unfold judgeCaptureMaskSet; simp only []; (repeat' split) <;> simp
@[simp] theorem judgeCaptureMaskSet_screens (q : Request) (s : State) : (judgeCaptureMaskSet q s).state.screens = s.screens := by
  unfold judgeCaptureMaskSet; simp only []; (repeat' split) <;> simp
@[simp] theorem judgeCaptureMaskSet_dec (q : Request) (s : State) : (judgeCaptureMaskSet q s).state.dec = s.dec := by
  unfold judgeCaptureMaskSet; simp only []; (repeat' split) <;> simp
@[simp] theorem judgeCaptureMaskSet_link (q : Request) (s : State) : (judgeCaptureMaskSet q s).state.link = s.link := by
  unfold judgeCaptureMaskSet; simp only []; (repeat' split) <;> simp
@[simp] theorem judgeCaptureMaskSet_aux (q : Request) (s : State) : (judgeCaptureMaskSet q s).state.aux = s.aux := by
  unfold judgeCaptureMaskSet; simp only []; (repeat' split) <;> simp
@[simp] theorem judgeCaptureMaskSet_staging (q : Request) (s : State) : (judgeCaptureMaskSet q s).state.staging = s.staging := by
  unfold judgeCaptureMaskSet; simp only []; (repeat' split) <;> simp
@[simp] theorem judgeCaptureMaskSet_pending (q : Request) (s : State) : (judgeCaptureMaskSet q s).state.pending = s.pending := by
  unfold judgeCaptureMaskSet; simp only []; (repeat' split) <;> simp

/-! ### judgeLineSet -/

@[simp] theorem judgeLineSet_phase (q : Request) (s : State) : (judgeLineSet q s).state.phase = s.phase := by
  unfold judgeLineSet; simp only []; (repeat' split) <;> simp
@[simp] theorem judgeLineSet_tb (q : Request) (s : State) : (judgeLineSet q s).state.tb = s.tb := by
  unfold judgeLineSet; simp only []; (repeat' split) <;> simp
@[simp] theorem judgeLineSet_portA (q : Request) (s : State) : (judgeLineSet q s).state.portA = s.portA := by
  unfold judgeLineSet; simp only []; (repeat' split) <;> simp
@[simp] theorem judgeLineSet_portB (q : Request) (s : State) : (judgeLineSet q s).state.portB = s.portB := by
  unfold judgeLineSet; simp only []; (repeat' split) <;> simp
@[simp] theorem judgeLineSet_asm (q : Request) (s : State) : (judgeLineSet q s).state.asm = s.asm := by
  unfold judgeLineSet; simp only []; (repeat' split) <;> simp
@[simp] theorem judgeLineSet_store (q : Request) (s : State) : (judgeLineSet q s).state.store = s.store := by
  unfold judgeLineSet; simp only []; (repeat' split) <;> simp
@[simp] theorem judgeLineSet_corr (q : Request) (s : State) : (judgeLineSet q s).state.corr = s.corr := by
  unfold judgeLineSet; simp only []; (repeat' split) <;> simp
@[simp] theorem judgeLineSet_screens (q : Request) (s : State) : (judgeLineSet q s).state.screens = s.screens := by
  unfold judgeLineSet; simp only []; (repeat' split) <;> simp
@[simp] theorem judgeLineSet_dec (q : Request) (s : State) : (judgeLineSet q s).state.dec = s.dec := by
  unfold judgeLineSet; simp only []; (repeat' split) <;> simp
@[simp] theorem judgeLineSet_link (q : Request) (s : State) : (judgeLineSet q s).state.link = s.link := by
  unfold judgeLineSet; simp only []; (repeat' split) <;> simp
@[simp] theorem judgeLineSet_status (q : Request) (s : State) : (judgeLineSet q s).state.status = s.status := by
  unfold judgeLineSet; simp only []; (repeat' split) <;> simp
@[simp] theorem judgeLineSet_staging (q : Request) (s : State) : (judgeLineSet q s).state.staging = s.staging := by
  unfold judgeLineSet; simp only []; (repeat' split) <;> simp
@[simp] theorem judgeLineSet_pending (q : Request) (s : State) : (judgeLineSet q s).state.pending = s.pending := by
  unfold judgeLineSet; simp only []; (repeat' split) <;> simp

/-! ### judgeMarkerSet -/

@[simp] theorem judgeMarkerSet_phase (q : Request) (s : State) : (judgeMarkerSet q s).state.phase = s.phase := by
  unfold judgeMarkerSet; simp only []; (repeat' split) <;> simp
@[simp] theorem judgeMarkerSet_tb (q : Request) (s : State) : (judgeMarkerSet q s).state.tb = s.tb := by
  unfold judgeMarkerSet; simp only []; (repeat' split) <;> simp
@[simp] theorem judgeMarkerSet_portA (q : Request) (s : State) : (judgeMarkerSet q s).state.portA = s.portA := by
  unfold judgeMarkerSet; simp only []; (repeat' split) <;> simp
@[simp] theorem judgeMarkerSet_portB (q : Request) (s : State) : (judgeMarkerSet q s).state.portB = s.portB := by
  unfold judgeMarkerSet; simp only []; (repeat' split) <;> simp
@[simp] theorem judgeMarkerSet_asm (q : Request) (s : State) : (judgeMarkerSet q s).state.asm = s.asm := by
  unfold judgeMarkerSet; simp only []; (repeat' split) <;> simp
@[simp] theorem judgeMarkerSet_store (q : Request) (s : State) : (judgeMarkerSet q s).state.store = s.store := by
  unfold judgeMarkerSet; simp only []; (repeat' split) <;> simp
@[simp] theorem judgeMarkerSet_corr (q : Request) (s : State) : (judgeMarkerSet q s).state.corr = s.corr := by
  unfold judgeMarkerSet; simp only []; (repeat' split) <;> simp
@[simp] theorem judgeMarkerSet_screens (q : Request) (s : State) : (judgeMarkerSet q s).state.screens = s.screens := by
  unfold judgeMarkerSet; simp only []; (repeat' split) <;> simp
@[simp] theorem judgeMarkerSet_dec (q : Request) (s : State) : (judgeMarkerSet q s).state.dec = s.dec := by
  unfold judgeMarkerSet; simp only []; (repeat' split) <;> simp
@[simp] theorem judgeMarkerSet_link (q : Request) (s : State) : (judgeMarkerSet q s).state.link = s.link := by
  unfold judgeMarkerSet; simp only []; (repeat' split) <;> simp
@[simp] theorem judgeMarkerSet_status (q : Request) (s : State) : (judgeMarkerSet q s).state.status = s.status := by
  unfold judgeMarkerSet; simp only []; (repeat' split) <;> simp
@[simp] theorem judgeMarkerSet_staging (q : Request) (s : State) : (judgeMarkerSet q s).state.staging = s.staging := by
  unfold judgeMarkerSet; simp only []; (repeat' split) <;> simp
@[simp] theorem judgeMarkerSet_pending (q : Request) (s : State) : (judgeMarkerSet q s).state.pending = s.pending := by
  unfold judgeMarkerSet; simp only []; (repeat' split) <;> simp

/-! ### judgeSave -/

@[simp] theorem judgeSave_phase (q : Request) (s : State) : (judgeSave q s).state.phase = s.phase := by
  unfold judgeSave; simp only []; (repeat' split) <;> simp [State.startSave]
@[simp] theorem judgeSave_tb (q : Request) (s : State) : (judgeSave q s).state.tb = s.tb := by
  unfold judgeSave; simp only []; (repeat' split) <;> simp [State.startSave]
@[simp] theorem judgeSave_portA (q : Request) (s : State) : (judgeSave q s).state.portA = s.portA := by
  unfold judgeSave; simp only []; (repeat' split) <;> simp [State.startSave]
@[simp] theorem judgeSave_portB (q : Request) (s : State) : (judgeSave q s).state.portB = s.portB := by
  unfold judgeSave; simp only []; (repeat' split) <;> simp [State.startSave]
@[simp] theorem judgeSave_asm (q : Request) (s : State) : (judgeSave q s).state.asm = s.asm := by
  unfold judgeSave; simp only []; (repeat' split) <;> simp [State.startSave]
@[simp] theorem judgeSave_store (q : Request) (s : State) : (judgeSave q s).state.store = s.store := by
  unfold judgeSave; simp only []; (repeat' split) <;> simp [State.startSave]
@[simp] theorem judgeSave_corr (q : Request) (s : State) : (judgeSave q s).state.corr = s.corr := by
  unfold judgeSave; simp only []; (repeat' split) <;> simp [State.startSave]
@[simp] theorem judgeSave_screens (q : Request) (s : State) : (judgeSave q s).state.screens = s.screens := by
  unfold judgeSave; simp only []; (repeat' split) <;> simp [State.startSave]
@[simp] theorem judgeSave_dec (q : Request) (s : State) : (judgeSave q s).state.dec = s.dec := by
  unfold judgeSave; simp only []; (repeat' split) <;> simp [State.startSave]
@[simp] theorem judgeSave_link (q : Request) (s : State) : (judgeSave q s).state.link = s.link := by
  unfold judgeSave; simp only []; (repeat' split) <;> simp [State.startSave]
@[simp] theorem judgeSave_status (q : Request) (s : State) : (judgeSave q s).state.status = s.status := by
  unfold judgeSave; simp only []; (repeat' split) <;> simp [State.startSave]
@[simp] theorem judgeSave_aux (q : Request) (s : State) : (judgeSave q s).state.aux = s.aux := by
  unfold judgeSave; simp only []; (repeat' split) <;> simp [State.startSave]
@[simp] theorem judgeSave_staging (q : Request) (s : State) : (judgeSave q s).state.staging = s.staging := by
  unfold judgeSave; simp only []; (repeat' split) <;> simp [State.startSave]
@[simp] theorem judgeSave_pending (q : Request) (s : State) : (judgeSave q s).state.pending = s.pending := by
  unfold judgeSave; simp only []; (repeat' split) <;> simp [State.startSave]

/-! ### judgeRestart -/

@[simp] theorem judgeRestart_phase (q : Request) (s : State) : (judgeRestart q s).state.phase = s.phase := by
  unfold judgeRestart; simp only []; (repeat' split) <;> simp
@[simp] theorem judgeRestart_tb (q : Request) (s : State) : (judgeRestart q s).state.tb = s.tb := by
  unfold judgeRestart; simp only []; (repeat' split) <;> simp
@[simp] theorem judgeRestart_portA (q : Request) (s : State) : (judgeRestart q s).state.portA = s.portA := by
  unfold judgeRestart; simp only []; (repeat' split) <;> simp
@[simp] theorem judgeRestart_portB (q : Request) (s : State) : (judgeRestart q s).state.portB = s.portB := by
  unfold judgeRestart; simp only []; (repeat' split) <;> simp
@[simp] theorem judgeRestart_asm (q : Request) (s : State) : (judgeRestart q s).state.asm = s.asm := by
  unfold judgeRestart; simp only []; (repeat' split) <;> simp
@[simp] theorem judgeRestart_store (q : Request) (s : State) : (judgeRestart q s).state.store = s.store := by
  unfold judgeRestart; simp only []; (repeat' split) <;> simp
@[simp] theorem judgeRestart_corr (q : Request) (s : State) : (judgeRestart q s).state.corr = s.corr := by
  unfold judgeRestart; simp only []; (repeat' split) <;> simp
@[simp] theorem judgeRestart_screens (q : Request) (s : State) : (judgeRestart q s).state.screens = s.screens := by
  unfold judgeRestart; simp only []; (repeat' split) <;> simp
@[simp] theorem judgeRestart_dec (q : Request) (s : State) : (judgeRestart q s).state.dec = s.dec := by
  unfold judgeRestart; simp only []; (repeat' split) <;> simp
@[simp] theorem judgeRestart_link (q : Request) (s : State) : (judgeRestart q s).state.link = s.link := by
  unfold judgeRestart; simp only []; (repeat' split) <;> simp
@[simp] theorem judgeRestart_status (q : Request) (s : State) : (judgeRestart q s).state.status = s.status := by
  unfold judgeRestart; simp only []; (repeat' split) <;> simp
@[simp] theorem judgeRestart_aux (q : Request) (s : State) : (judgeRestart q s).state.aux = s.aux := by
  unfold judgeRestart; simp only []; (repeat' split) <;> simp
@[simp] theorem judgeRestart_settings (q : Request) (s : State) : (judgeRestart q s).state.settings = s.settings := by
  unfold judgeRestart; simp only []; (repeat' split) <;> simp
@[simp] theorem judgeRestart_pending (q : Request) (s : State) : (judgeRestart q s).state.pending = s.pending := by
  unfold judgeRestart; simp only []; (repeat' split) <;> simp

/-! ### judgeLockSession -/

@[simp] theorem judgeLockSession_phase (q : Request) (s : State) : (judgeLockSession q s).state.phase = s.phase := by simp [judgeLockSession]
@[simp] theorem judgeLockSession_tb (q : Request) (s : State) : (judgeLockSession q s).state.tb = s.tb := by simp [judgeLockSession]
@[simp] theorem judgeLockSession_portA (q : Request) (s : State) : (judgeLockSession q s).state.portA = s.portA := by simp [judgeLockSession]
@[simp] theorem judgeLockSession_portB (q : Request) (s : State) : (judgeLockSession q s).state.portB = s.portB := by simp [judgeLockSession]
@[simp] theorem judgeLockSession_asm (q : Request) (s : State) : (judgeLockSession q s).state.asm = s.asm := by simp [judgeLockSession]
@[simp] theorem judgeLockSession_store (q : Request) (s : State) : (judgeLockSession q s).state.store = s.store := by simp [judgeLockSession]
@[simp] theorem judgeLockSession_corr (q : Request) (s : State) : (judgeLockSession q s).state.corr = s.corr := by simp [judgeLockSession]
@[simp] theorem judgeLockSession_screens (q : Request) (s : State) : (judgeLockSession q s).state.screens = s.screens := by simp [judgeLockSession]
@[simp] theorem judgeLockSession_dec (q : Request) (s : State) : (judgeLockSession q s).state.dec = s.dec := by simp [judgeLockSession]
@[simp] theorem judgeLockSession_link (q : Request) (s : State) : (judgeLockSession q s).state.link = s.link := by simp [judgeLockSession]
@[simp] theorem judgeLockSession_status (q : Request) (s : State) : (judgeLockSession q s).state.status = s.status := by simp [judgeLockSession]
@[simp] theorem judgeLockSession_aux (q : Request) (s : State) : (judgeLockSession q s).state.aux = s.aux := by simp [judgeLockSession]
@[simp] theorem judgeLockSession_staging (q : Request) (s : State) : (judgeLockSession q s).state.staging = s.staging := by simp [judgeLockSession]
@[simp] theorem judgeLockSession_pending (q : Request) (s : State) : (judgeLockSession q s).state.pending = s.pending := by simp [judgeLockSession]

/-! ### judgeFixPermanent -/

@[simp] theorem judgeFixPermanent_phase (q : Request) (s : State) : (judgeFixPermanent q s).state.phase = s.phase := by
  unfold judgeFixPermanent; (repeat' split) <;> simp
@[simp] theorem judgeFixPermanent_tb (q : Request) (s : State) : (judgeFixPermanent q s).state.tb = s.tb := by
  unfold judgeFixPermanent; (repeat' split) <;> simp
@[simp] theorem judgeFixPermanent_portA (q : Request) (s : State) : (judgeFixPermanent q s).state.portA = s.portA := by
  unfold judgeFixPermanent; (repeat' split) <;> simp
@[simp] theorem judgeFixPermanent_portB (q : Request) (s : State) : (judgeFixPermanent q s).state.portB = s.portB := by
  unfold judgeFixPermanent; (repeat' split) <;> simp
@[simp] theorem judgeFixPermanent_asm (q : Request) (s : State) : (judgeFixPermanent q s).state.asm = s.asm := by
  unfold judgeFixPermanent; (repeat' split) <;> simp
@[simp] theorem judgeFixPermanent_store (q : Request) (s : State) : (judgeFixPermanent q s).state.store = s.store := by
  unfold judgeFixPermanent; (repeat' split) <;> simp
@[simp] theorem judgeFixPermanent_corr (q : Request) (s : State) : (judgeFixPermanent q s).state.corr = s.corr := by
  unfold judgeFixPermanent; (repeat' split) <;> simp
@[simp] theorem judgeFixPermanent_screens (q : Request) (s : State) : (judgeFixPermanent q s).state.screens = s.screens := by
  unfold judgeFixPermanent; (repeat' split) <;> simp
@[simp] theorem judgeFixPermanent_dec (q : Request) (s : State) : (judgeFixPermanent q s).state.dec = s.dec := by
  unfold judgeFixPermanent; (repeat' split) <;> simp
@[simp] theorem judgeFixPermanent_link (q : Request) (s : State) : (judgeFixPermanent q s).state.link = s.link := by
  unfold judgeFixPermanent; (repeat' split) <;> simp
@[simp] theorem judgeFixPermanent_status (q : Request) (s : State) : (judgeFixPermanent q s).state.status = s.status := by
  unfold judgeFixPermanent; (repeat' split) <;> simp
@[simp] theorem judgeFixPermanent_aux (q : Request) (s : State) : (judgeFixPermanent q s).state.aux = s.aux := by
  unfold judgeFixPermanent; (repeat' split) <;> simp
@[simp] theorem judgeFixPermanent_staging (q : Request) (s : State) : (judgeFixPermanent q s).state.staging = s.staging := by
  unfold judgeFixPermanent; (repeat' split) <;> simp
@[simp] theorem judgeFixPermanent_pending (q : Request) (s : State) : (judgeFixPermanent q s).state.pending = s.pending := by
  unfold judgeFixPermanent; (repeat' split) <;> simp

/-! ### Replies and takes -/

@[simp] theorem Reply.finish_phase (r : Reply) (q : Request) : (r.finish q).phase = r.state.phase :=
  Reply.finish_frame State.phase (by simp) (by simp) r q
@[simp] theorem Reply.finish_tb (r : Reply) (q : Request) : (r.finish q).tb = r.state.tb :=
  Reply.finish_frame State.tb (by simp) (by simp) r q
@[simp] theorem Reply.finish_portA (r : Reply) (q : Request) : (r.finish q).portA = r.state.portA :=
  Reply.finish_frame State.portA (by simp) (by simp) r q
@[simp] theorem Reply.finish_portB (r : Reply) (q : Request) : (r.finish q).portB = r.state.portB :=
  Reply.finish_frame State.portB (by simp) (by simp) r q
@[simp] theorem Reply.finish_asm (r : Reply) (q : Request) : (r.finish q).asm = r.state.asm :=
  Reply.finish_frame State.asm (by simp) (by simp) r q
@[simp] theorem Reply.finish_store (r : Reply) (q : Request) : (r.finish q).store = r.state.store :=
  Reply.finish_frame State.store (by simp) (by simp) r q
@[simp] theorem Reply.finish_corr (r : Reply) (q : Request) : (r.finish q).corr = r.state.corr :=
  Reply.finish_frame State.corr (by simp) (by simp) r q
@[simp] theorem Reply.finish_screens (r : Reply) (q : Request) : (r.finish q).screens = r.state.screens :=
  Reply.finish_frame State.screens (by simp) (by simp) r q
@[simp] theorem Reply.finish_dec (r : Reply) (q : Request) : (r.finish q).dec = r.state.dec :=
  Reply.finish_frame State.dec (by simp) (by simp) r q
@[simp] theorem Reply.finish_aux (r : Reply) (q : Request) : (r.finish q).aux = r.state.aux :=
  Reply.finish_frame State.aux (by simp) (by simp) r q
@[simp] theorem Reply.finish_staging (r : Reply) (q : Request) : (r.finish q).staging = r.state.staging :=
  Reply.finish_frame State.staging (by simp) (by simp) r q
@[simp] theorem Reply.finish_settings (r : Reply) (q : Request) : (r.finish q).settings = r.state.settings :=
  Reply.finish_frame State.settings (by simp) (by simp) r q
@[simp] theorem Reply.finish_pending (r : Reply) (q : Request) : (r.finish q).pending = r.state.pending :=
  Reply.finish_frame State.pending (by simp) (by simp) r q

end Sys2Proof.Machine
end

