-- ==== Sys2Proof/Laws/Numbers.lean ====
section
/-! SUPPORT. Laws/Numbers: the value of every number of Config, for `simp`, so that no proof unfolds one by reduction. -/

namespace Sys2Proof.Config

@[simp] theorem nominalSecond_eq : nominalSecond = 10000000 := rfl
@[simp] theorem trimLimit_eq : trimLimit = 2000 := rfl
@[simp] theorem correctionLimit_eq : correctionLimit = 50 := rfl
@[simp] theorem longestSecond_eq : longestSecond = 10002050 := rfl
@[simp] theorem strobePulse_eq : strobePulse = 100 := rfl
@[simp] theorem longStrobePulse_eq : longStrobePulse = 400 := rfl
@[simp] theorem edgeSpacing_eq : edgeSpacing = 9000000 := rfl
@[simp] theorem stepLimit_eq : stepLimit = 500 := rfl
@[simp] theorem goodLimit_eq : goodLimit = 10 := rfl
@[simp] theorem goodToLock_eq : goodToLock = 8 := rfl
@[simp] theorem outliersToDrop_eq : outliersToDrop = 4 := rfl
@[simp] theorem missingToLose_eq : missingToLose = 3 := rfl
@[simp] theorem ageLimit_eq : ageLimit = 86400 := rfl
@[simp] theorem portSync_eq : portSync = 0xC3#8 := rfl
@[simp] theorem portBodyBytes_eq : portBodyBytes = 6 := rfl
@[simp] theorem fifoPlaces_eq : fifoPlaces = 32 := rfl
@[simp] theorem portGap_eq : portGap = 20000 := rfl
@[simp] theorem closeLimit_eq : closeLimit = 50000 := rfl
@[simp] theorem tickHistoryLength_eq : tickHistoryLength = 64 := rfl
@[simp] theorem secondHistoryLength_eq : secondHistoryLength = 128 := rfl
@[simp] theorem tempHistoryLength_eq : tempHistoryLength = 60 := rfl
@[simp] theorem lastMinute_eq : lastMinute = 71582788 := rfl
@[simp] theorem linkSync_eq : linkSync = 0xA5#8 := rfl
@[simp] theorem maxLen_eq : maxLen = 250 := rfl
@[simp] theorem requestPlaces_eq : requestPlaces = 4 := rfl
@[simp] theorem outputPlaces_eq : outputPlaces = 64 := rfl
@[simp] theorem dataPlaces_eq : dataPlaces = 60 := rfl
@[simp] theorem responseData_eq : responseData = 246 := rfl
@[simp] theorem trialPeriods_eq : trialPeriods = 100000000 := rfl
@[simp] theorem linkGapBits_eq : linkGapBits = 200 := rfl
@[simp] theorem code2Periods_eq : code2Periods = 100000000 := rfl
@[simp] theorem secondMarkPeriods_eq : secondMarkPeriods = 1000000 := rfl
@[simp] theorem markerSpacing_eq : markerSpacing = 100000 := rfl
@[simp] theorem familyCode_eq : familyCode = 1 := rfl
@[simp] theorem partNumber_eq : partNumber = 416 := rfl
@[simp] theorem saveLimit_eq : saveLimit = 15000000 := rfl
@[simp] theorem storeEntries_eq : storeEntries = 2048 := rfl

end Sys2Proof.Config
end

