-- ==== Sys2Proof/Laws/Queues.lean ====
section
/-! SUPPORT. Laws/Queues: what record offers, faults and notices can do to the link and to the status unit, and the bounds of
the output queue that every operation keeps (R166 to R169). -/

namespace Sys2Proof.Machine

/-- The link without what an offer of a record may change: the output queue and the two accumulators. -/
def Link.rest (l : Link) : Link := { l with output := [], secondsLost := 0, minutesLost := 0 }

/-- The status unit without what a count, a condition or a fault may change. -/
def StatusUnit.rest (u : StatusUnit) : StatusUnit :=
  { u with conditions := 0, counters := Vector.replicate 29 0, capture := none, faultCounts := Vector.replicate 5 0 }

/-- The output queue is within its places, its data records within theirs, and a frame being sent is in it (R166). -/
def Link.roomy (l : Link) : Prop :=
  l.output.length ≤ 64 ∧ l.output.countP (fun f => f.body.isData) ≤ 60 ∧ (l.sending = true → l.output ≠ [])

/-! ### The shared operations -/

@[simp] theorem State.setCondition_statusRest (s : State) (c : Condition) : (s.setCondition c).status.rest = s.status.rest := rfl
@[simp] theorem State.countBy_statusRest (s : State) (c : Counter) (n : Nat) : (s.countBy c n).status.rest = s.status.rest := rfl
@[simp] theorem State.count_statusRest (s : State) (c : Counter) : (s.count c).status.rest = s.status.rest := rfl

@[simp] theorem State.loseRecord_statusRest (s : State) (b : Body) : (s.loseRecord b).status.rest = s.status.rest := by
  cases b <;> rfl

@[simp] theorem State.loseRecord_linkRest (s : State) (b : Body) : (s.loseRecord b).link.rest = s.link.rest := by
  cases b <;> rfl

@[simp] theorem State.loseRecord_output (s : State) (b : Body) : (s.loseRecord b).link.output = s.link.output := by
  cases b <;> rfl

@[simp] theorem State.loseRecord_sending (s : State) (b : Body) : (s.loseRecord b).link.sending = s.link.sending := by
  cases b <;> rfl

@[simp] theorem Link.join_rest (l : Link) (b : Body) : (l.join b).rest = l.rest := by cases b <;> rfl

@[simp] theorem Link.join_sending (l : Link) (b : Body) : (l.join b).sending = l.sending := by cases b <;> rfl

/-- Joining adds one frame of the same class at the young end. -/
theorem Link.join_output (l : Link) (b : Body) :
    ∃ c, (l.join b).output = l.output ++ [⟨c, false⟩] ∧ c.isData = b.isData := by
  cases b <;> exact ⟨_, rfl, rfl⟩

/-- Taking the youngest second record removes one frame, which is a data record. -/
theorem takeYoungestSecond_spec {l : List Frame} {r : SecondRecord} {rest : List Frame}
    (h : takeYoungestSecond l = some (r, rest)) :
    ∃ old young tied, l = old ++ ⟨.second r, tied⟩ :: young ∧ rest = old ++ young ∧
      ∀ f ∈ young, ∀ x, f.body ≠ .second x := by
  induction l generalizing r rest with
  | nil => cases h
  | cons f fs ih =>
    unfold takeYoungestSecond at h
    cases ht : takeYoungestSecond fs with
    | some p =>
      obtain ⟨r', rest'⟩ := p
      rw [ht] at h
      simp only [Option.some.injEq, Prod.mk.injEq] at h
      obtain ⟨rfl, rfl⟩ := h
      obtain ⟨old, young, tied, h1, h2, h3⟩ := ih ht
      exact ⟨f :: old, young, tied, by rw [h1]; rfl, by rw [h2]; rfl, h3⟩
    | none =>
      rw [ht] at h
      obtain ⟨body, tied⟩ := f
      cases body with
      | second x =>
        simp only [Option.some.injEq, Prod.mk.injEq] at h
        obtain ⟨rfl, rfl⟩ := h
        refine ⟨[], fs, tied, rfl, rfl, ?_⟩
        clear ih
        induction fs with
        | nil => intro f hf; cases hf
        | cons g gs ihg =>
          unfold takeYoungestSecond at ht
          cases hg : takeYoungestSecond gs with
          | some p => rw [hg] at ht; cases ht
          | none =>
            rw [hg] at ht
            intro f hf
            rcases List.mem_cons.mp hf with rfl | hm
            · intro x hx; rw [hx] at ht; cases ht
            · exact ihg hg f hm
      | minute _ => cases h
      | event _ => cases h
      | notice _ => cases h
      | response _ => cases h

/-- The frame being sent and the frames behind it make up the queue. -/
theorem Link.parts (l : Link) : l.sendingPart ++ l.waitingPart = l.output := by
  unfold Link.sendingPart Link.waitingPart
  cases l.sending
  · rfl
  · exact List.take_append_drop 1 l.output

@[simp] theorem State.displace_statusRest (s : State) (m : MinuteRecord) : (s.displace m).status.rest = s.status.rest := by
  unfold State.displace; split <;> simp

@[simp] theorem State.displace_linkRest (s : State) (m : MinuteRecord) : (s.displace m).link.rest = s.link.rest := by
  unfold State.displace; split
  · simp; rfl
  · simp

/-- A displacement keeps the queue's bounds: one data record leaves and one joins (R168). -/
@[simp] theorem State.displace_roomy (s : State) (m : MinuteRecord) (h : s.link.roomy) : (s.displace m).link.roomy := by
  unfold State.displace
  split
  · rename_i r rest ht
    obtain ⟨old, young, tied, h1, h2, _⟩ := takeYoungestSecond_spec ht
    subst h2
    have hp := s.link.parts
    rw [h1] at hp
    obtain ⟨c, hc, hd⟩ := (Link.join_output ((s.setLink { s.link with output := s.link.sendingPart ++ (old ++ young) }).loseRecord (.second r)).link (.minute m))
    obtain ⟨a1, a2, a3⟩ := h
    have hd' : c.isData = true := hd
    refine ⟨?_, ?_, ?_⟩
    · simp only [State.setLink_link, hc, State.loseRecord_output]
      rw [← hp] at a1
      simp at a1 ⊢; omega
    · simp only [State.setLink_link, hc, State.loseRecord_output]
      rw [← hp] at a2
      simp only [List.countP_append, List.countP_cons, List.countP_nil, hd'] at a2 ⊢
      simp only [Body.isData] at a2 ⊢
      simp at a2 ⊢; omega
    · intro _
      simp [State.setLink_link, hc]
  · obtain ⟨a1, a2, a3⟩ := h
    exact ⟨by simpa using a1, by simpa using a2, by simpa using a3⟩

@[simp] theorem State.offerData_statusRest (s : State) (b : Body) : (s.offerData b).status.rest = s.status.rest := by
  unfold State.offerData; split
  · rfl
  · split <;> simp

@[simp] theorem State.offerData_linkRest (s : State) (b : Body) : (s.offerData b).link.rest = s.link.rest := by
  unfold State.offerData; split
  · simp
  · split <;> simp

/-- An offer of a data record keeps the queue's bounds (R167). -/
@[simp] theorem State.offerData_roomy (s : State) (b : Body) (h : s.link.roomy) : (s.offerData b).link.roomy := by
  unfold State.offerData
  split
  · rename_i hl
    obtain ⟨c, hc, hd⟩ := Link.join_output s.link b
    have hl' : s.link.output.length < 60 := hl
    refine ⟨?_, ?_, ?_⟩
    · simp only [State.setLink_link, hc]; simp; omega
    · simp only [State.setLink_link, hc]
      refine le_trans (List.countP_le_length) ?_
      simp; omega
    · intro _; simp [State.setLink_link, hc]
  · split
    · exact State.displace_roomy s _ h
    all_goals
      obtain ⟨a1, a2, a3⟩ := h
      exact ⟨by simpa using a1, by simpa using a2, by simpa using a3⟩

@[simp] theorem State.offerNotice_statusRest (s : State) (n : Notice) : (s.offerNotice n).status.rest = s.status.rest :=
  State.offerData_statusRest s _
@[simp] theorem State.offerNotice_linkRest (s : State) (n : Notice) : (s.offerNotice n).link.rest = s.link.rest :=
  State.offerData_linkRest s _
@[simp] theorem State.offerNotice_roomy (s : State) (n : Notice) (h : s.link.roomy) : (s.offerNotice n).link.roomy :=
  State.offerData_roomy s _ h

@[simp] theorem State.raiseFault_statusRest (s : State) (f : RaisedFault) : (s.raiseFault f).status.rest = s.status.rest := by
  unfold State.raiseFault; simp only []; split
  · simp; rfl
  · rfl
@[simp] theorem State.raiseFault_linkRest (s : State) (f : RaisedFault) : (s.raiseFault f).link.rest = s.link.rest := by
  unfold State.raiseFault; simp only []; split <;> simp
set_option backward.isDefEq.respectTransparency false in
@[simp] theorem State.raiseFault_roomy (s : State) (f : RaisedFault) (h : s.link.roomy) : (s.raiseFault f).link.roomy := by
  unfold State.raiseFault; simp only []; split <;> simp [h]

/-- The discard of a restart keeps the queue's bounds (R180). -/
theorem Link.restart_roomy (l : Link) (h : l.roomy) : l.restart.roomy := by
  obtain ⟨a1, a2, a3⟩ := h
  have hp := l.parts
  rw [← hp] at a1 a2
  simp only [List.length_append, List.countP_append] at a1 a2
  refine ⟨?_, ?_, ?_⟩
  · simp only [Link.restart, List.length_append]
    have := List.length_filter_le (fun f : Frame => !f.body.isData) l.waitingPart
    omega
  · simp only [Link.restart, List.countP_append]
    have : (l.waitingPart.filter fun f => !f.body.isData).countP (fun f => f.body.isData) = 0 := by
      rw [List.countP_eq_zero]; intro f hf; simpa using (List.mem_filter.mp hf).2
    omega
  · intro hs
    have hne := a3 hs
    simp only [Link.restart, ne_eq, List.append_eq_nil_iff, not_and]
    intro hsp
    unfold Link.sendingPart at hsp
    rw [show l.sending = true from hs] at hsp
    cases ho : l.output with
    | nil => exact absurd ho hne
    | cons x xs => rw [ho] at hsp; simp at hsp

@[simp] theorem Link.restart_rest (l : Link) : l.restart.rest = l.rest := rfl

/-! ### What every step of a fold keeps -/

/-- A property that every step of a fold keeps holds at its end. -/
theorem foldl_keeps {α β : Type} (p : β → Prop) (g : β → α → β) (h : ∀ b a, p b → p (g b a)) (l : List α) (b : β) (hb : p b) :
    p (l.foldl g b) := by
  induction l generalizing b with
  | nil => exact hb
  | cons x xs ih => exact ih _ (h _ _ hb)

/-! ### timebaseNotice -/

@[simp] theorem State.timebaseNotice_linkRest (s : State) (c : TimebaseCause) (d : Discipline) (e : Option Int) : (s.timebaseNotice c d e).link.rest = s.link.rest := by simp [State.timebaseNotice]
@[simp] theorem State.timebaseNotice_statusRest (s : State) (c : TimebaseCause) (d : Discipline) (e : Option Int) : (s.timebaseNotice c d e).status.rest = s.status.rest := by simp [State.timebaseNotice]
set_option backward.isDefEq.respectTransparency false in
@[simp] theorem State.timebaseNotice_roomy (s : State) (c : TimebaseCause) (d : Discipline) (e : Option Int) (h : s.link.roomy) : (s.timebaseNotice c d e).link.roomy := by simp (maxDischargeDepth := 12) [h, State.timebaseNotice]

/-! ### markTimebase -/

@[simp] theorem State.markTimebase_linkRest (s : State) (n : Num32) : (s.markTimebase n).link.rest = s.link.rest := by
  unfold State.markTimebase; simp only []; split <;> simp
@[simp] theorem State.markTimebase_statusRest (s : State) (n : Num32) : (s.markTimebase n).status.rest = s.status.rest := by
  unfold State.markTimebase; simp only []; split <;> simp
set_option backward.isDefEq.respectTransparency false in
@[simp] theorem State.markTimebase_roomy (s : State) (n : Num32) (h : s.link.roomy) : (s.markTimebase n).link.roomy := by
  unfold State.markTimebase; simp only []; split <;> simp (maxDischargeDepth := 12) [h]

/-! ### applyCommit -/

@[simp] theorem State.applyCommit_linkRest (s : State) (n : Num32) : (s.applyCommit n).link.rest = s.link.rest := by simp [State.applyCommit]
@[simp] theorem State.applyCommit_statusRest (s : State) (n : Num32) : (s.applyCommit n).status.rest = s.status.rest := by simp [State.applyCommit]
set_option backward.isDefEq.respectTransparency false in
@[simp] theorem State.applyCommit_roomy (s : State) (n : Num32) (h : s.link.roomy) : (s.applyCommit n).link.roomy := by simp (maxDischargeDepth := 12) [h, State.applyCommit]

/-! ### commandRestart -/

@[simp] theorem State.commandRestart_linkRest (s : State) : s.commandRestart.link.rest = s.link.rest := by simp [State.commandRestart]
@[simp] theorem State.commandRestart_statusRest (s : State) : s.commandRestart.status.rest = s.status.rest := by
  simp [State.commandRestart]; rfl
set_option backward.isDefEq.respectTransparency false in
@[simp] theorem State.commandRestart_roomy (s : State) (h : s.link.roomy) : s.commandRestart.link.roomy := by
  simp [State.commandRestart, Link.restart_roomy, h]

/-! ### scheduledWork -/

@[simp] theorem State.scheduledWork_linkRest (s : State) : s.scheduledWork.link.rest = s.link.rest := by
  unfold State.scheduledWork; split_ifs <;> simp
@[simp] theorem State.scheduledWork_statusRest (s : State) : s.scheduledWork.status.rest = s.status.rest := by
  unfold State.scheduledWork; split_ifs <;> simp
set_option backward.isDefEq.respectTransparency false in
@[simp] theorem State.scheduledWork_roomy (s : State) (h : s.link.roomy) : s.scheduledWork.link.roomy := by
  unfold State.scheduledWork; split_ifs <;> simp (maxDischargeDepth := 12) [h]

/-! ### markConsumers -/

@[simp] theorem State.markConsumers_linkRest (s : State) (a b : Bool) : (s.markConsumers a b).link.rest = s.link.rest := by
  unfold State.markConsumers; simp only [State.issueTick_link, State.setDec_link]; split_ifs <;> simp
@[simp] theorem State.markConsumers_statusRest (s : State) (a b : Bool) : (s.markConsumers a b).status.rest = s.status.rest := by
  unfold State.markConsumers; simp only [State.issueTick_status, State.setDec_status]; split_ifs <;> simp
set_option backward.isDefEq.respectTransparency false in
@[simp] theorem State.markConsumers_roomy (s : State) (a b : Bool) (h : s.link.roomy) : (s.markConsumers a b).link.roomy := by
  unfold State.markConsumers; simp only [State.issueTick_link, State.setDec_link]; split_ifs <;> simp (maxDischargeDepth := 12) [h]

/-! ### makeMark -/

@[simp] theorem State.makeMark_linkRest (s : State) (n : Num32) (a b : Bool) : (s.makeMark n a b).link.rest = s.link.rest := by simp [State.makeMark]
@[simp] theorem State.makeMark_statusRest (s : State) (n : Num32) (a b : Bool) : (s.makeMark n a b).status.rest = s.status.rest := by simp [State.makeMark]
set_option backward.isDefEq.respectTransparency false in
@[simp] theorem State.makeMark_roomy (s : State) (n : Num32) (a b : Bool) (h : s.link.roomy) : (s.makeMark n a b).link.roomy := by simp (maxDischargeDepth := 12) [h, State.makeMark]

/-! ### regularMark -/

@[simp] theorem State.regularMark_linkRest (s : State) : s.regularMark.link.rest = s.link.rest := by unfold State.regularMark; split <;> simp
@[simp] theorem State.regularMark_statusRest (s : State) : s.regularMark.status.rest = s.status.rest := by unfold State.regularMark; split <;> simp
set_option backward.isDefEq.respectTransparency false in
@[simp] theorem State.regularMark_roomy (s : State) (h : s.link.roomy) : s.regularMark.link.roomy := by unfold State.regularMark; split <;> simp (maxDischargeDepth := 12) [h]

/-! ### dueMark, edgeMoment -/

@[simp] theorem State.dueMark_linkRest (s : State) : s.dueMark.link.rest = s.link.rest := by simp [State.dueMark]
@[simp] theorem State.dueMark_statusRest (s : State) : s.dueMark.status.rest = s.status.rest := by simp [State.dueMark]
@[simp] theorem State.dueMark_roomy (s : State) (h : s.link.roomy) : s.dueMark.link.roomy := by simp [State.dueMark, h]
@[simp] theorem State.edgeMoment_linkRest (s : State) (n : Nat) : (s.edgeMoment n).link.rest = s.link.rest := by
  unfold State.edgeMoment; split <;> simp
@[simp] theorem State.edgeMoment_statusRest (s : State) (n : Nat) : (s.edgeMoment n).status.rest = s.status.rest := by
  unfold State.edgeMoment; split <;> simp
@[simp] theorem State.edgeMoment_roomy (s : State) (n : Nat) (h : s.link.roomy) : (s.edgeMoment n).link.roomy := by
  unfold State.edgeMoment; split <;> simp [h]

/-! ### firstMark -/

@[simp] theorem State.firstMark_linkRest (s : State) : s.firstMark.link.rest = s.link.rest := by simp [State.firstMark]
set_option backward.isDefEq.respectTransparency false in
@[simp] theorem State.firstMark_roomy (s : State) (h : s.link.roomy) : s.firstMark.link.roomy := by simp (maxDischargeDepth := 12) [h, State.firstMark]

/-! ### stepEdge -/

@[simp] theorem State.stepEdge_linkRest (s : State) (e : Int) (l : Option Num32) : (s.stepEdge e l).link.rest = s.link.rest := by
  unfold State.stepEdge; simp only []; split <;> simp
@[simp] theorem State.stepEdge_statusRest (s : State) (e : Int) (l : Option Num32) : (s.stepEdge e l).status.rest = s.status.rest := by
  unfold State.stepEdge; simp only []; split <;> simp
set_option backward.isDefEq.respectTransparency false in
@[simp] theorem State.stepEdge_roomy (s : State) (e : Int) (l : Option Num32) (h : s.link.roomy) : (s.stepEdge e l).link.roomy := by
  unfold State.stepEdge; simp only []; split <;> simp (maxDischargeDepth := 12) [h]

/-! ### consumeLabel -/

@[simp] theorem State.consumeLabel_linkRest (s : State) (a : Bool) (e : Int) (l : Option Num32) : (s.consumeLabel a e l).link.rest = s.link.rest := by
  unfold State.consumeLabel; split <;> (try split_ifs) <;> simp
@[simp] theorem State.consumeLabel_statusRest (s : State) (a : Bool) (e : Int) (l : Option Num32) : (s.consumeLabel a e l).status.rest = s.status.rest := by
  unfold State.consumeLabel; split <;> (try split_ifs) <;> simp
set_option backward.isDefEq.respectTransparency false in
@[simp] theorem State.consumeLabel_roomy (s : State) (a : Bool) (e : Int) (l : Option Num32) (h : s.link.roomy) : (s.consumeLabel a e l).link.roomy := by
  unfold State.consumeLabel; split <;> (try split_ifs) <;> simp (maxDischargeDepth := 12) [h]

/-! ### reportChange -/

@[simp] theorem State.reportChange_linkRest (s : State) (d : Discipline) (e : Option Int) : (s.reportChange d e).link.rest = s.link.rest := by
  unfold State.reportChange; split <;> simp
@[simp] theorem State.reportChange_statusRest (s : State) (d : Discipline) (e : Option Int) : (s.reportChange d e).status.rest = s.status.rest := by
  unfold State.reportChange; split <;> simp
set_option backward.isDefEq.respectTransparency false in
@[simp] theorem State.reportChange_roomy (s : State) (d : Discipline) (e : Option Int) (h : s.link.roomy) : (s.reportChange d e).link.roomy := by
  unfold State.reportChange; split <;> simp (maxDischargeDepth := 12) [h]

/-! ### takeEdge -/

@[simp] theorem State.takeEdge_linkRest (s : State) : s.takeEdge.link.rest = s.link.rest := by unfold State.takeEdge; simp only []; split <;> simp
set_option backward.isDefEq.respectTransparency false in
@[simp] theorem State.takeEdge_roomy (s : State) (h : s.link.roomy) : s.takeEdge.link.roomy := by unfold State.takeEdge; simp only []; split <;> simp (maxDischargeDepth := 12) [h]

/-! ### missMark -/

@[simp] theorem State.missMark_linkRest (s : State) : s.missMark.link.rest = s.link.rest := by unfold State.missMark; simp only []; split_ifs <;> simp
@[simp] theorem State.missMark_statusRest (s : State) : s.missMark.status.rest = s.status.rest := by unfold State.missMark; simp only []; split_ifs <;> simp
set_option backward.isDefEq.respectTransparency false in
@[simp] theorem State.missMark_roomy (s : State) (h : s.link.roomy) : s.missMark.link.roomy := by unfold State.missMark; simp only []; split_ifs <;> simp (maxDischargeDepth := 12) [h]

/-! ### raiseFrameCheck -/

@[simp] theorem State.raiseFrameCheck_linkRest (s : State) (p : Port) (e : FifoEntry) : (s.raiseFrameCheck p e).link.rest = s.link.rest := by simp [State.raiseFrameCheck]
@[simp] theorem State.raiseFrameCheck_statusRest (s : State) (p : Port) (e : FifoEntry) : (s.raiseFrameCheck p e).status.rest = s.status.rest := by simp [State.raiseFrameCheck]
set_option backward.isDefEq.respectTransparency false in
@[simp] theorem State.raiseFrameCheck_roomy (s : State) (p : Port) (e : FifoEntry) (h : s.link.roomy) : (s.raiseFrameCheck p e).link.roomy := by simp (maxDischargeDepth := 12) [h, State.raiseFrameCheck]

/-! ### haltPort -/

@[simp] theorem State.haltPort_linkRest (s : State) (p : Port) (e : FifoEntry) : (s.haltPort p e).link.rest = s.link.rest := by simp [State.haltPort]
@[simp] theorem State.haltPort_statusRest (s : State) (p : Port) (e : FifoEntry) : (s.haltPort p e).status.rest = s.status.rest := by simp [State.haltPort]
set_option backward.isDefEq.respectTransparency false in
@[simp] theorem State.haltPort_roomy (s : State) (p : Port) (e : FifoEntry) (h : s.link.roomy) : (s.haltPort p e).link.roomy := by simp (maxDischargeDepth := 12) [h, State.haltPort]

/-! ### frameArrives -/

@[simp] theorem State.frameArrives_linkRest (s : State) (p : Port) (b : List Byte) : (s.frameArrives p b).link.rest = s.link.rest := by
  unfold State.frameArrives; simp only []; split_ifs <;> (try split) <;> simp
@[simp] theorem State.frameArrives_statusRest (s : State) (p : Port) (b : List Byte) : (s.frameArrives p b).status.rest = s.status.rest := by
  unfold State.frameArrives; simp only []; split_ifs <;> (try split) <;> simp
set_option backward.isDefEq.respectTransparency false in
@[simp] theorem State.frameArrives_roomy (s : State) (p : Port) (b : List Byte) (h : s.link.roomy) : (s.frameArrives p b).link.roomy := by
  unfold State.frameArrives; simp only []; split_ifs <;> (try split) <;> simp (maxDischargeDepth := 12) [h]

/-! ### portByte -/

@[simp] theorem State.portByte_linkRest (s : State) (p : Port) (b : Byte) : (s.portByte p b).link.rest = s.link.rest := by
  unfold State.portByte; simp only []; split <;> split_ifs <;> simp
@[simp] theorem State.portByte_statusRest (s : State) (p : Port) (b : Byte) : (s.portByte p b).status.rest = s.status.rest := by
  unfold State.portByte; simp only []; split <;> split_ifs <;> simp
set_option backward.isDefEq.respectTransparency false in
@[simp] theorem State.portByte_roomy (s : State) (p : Port) (b : Byte) (h : s.link.roomy) : (s.portByte p b).link.roomy := by
  unfold State.portByte; simp only []; split <;> split_ifs <;> simp (maxDischargeDepth := 12) [h]

/-! ### onPortByte -/

@[simp] theorem State.onPortByte_linkRest (s : State) (p : Port) (b : Byte) (n : Nat) : (s.onPortByte p b n).link.rest = s.link.rest := by
  unfold State.onPortByte; split <;> simp
@[simp] theorem State.onPortByte_statusRest (s : State) (p : Port) (b : Byte) (n : Nat) : (s.onPortByte p b n).status.rest = s.status.rest := by
  unfold State.onPortByte; split <;> simp
set_option backward.isDefEq.respectTransparency false in
@[simp] theorem State.onPortByte_roomy (s : State) (p : Port) (b : Byte) (n : Nat) (h : s.link.roomy) : (s.onPortByte p b n).link.roomy := by
  unfold State.onPortByte; split <;> simp (maxDischargeDepth := 12) [h]

/-! ### raiseTableClamp -/

@[simp] theorem State.raiseTableClamp_linkRest (s : State) (n : Fin 16) (t : TickId) (v : Int) : (s.raiseTableClamp n t v).link.rest = s.link.rest := by simp [State.raiseTableClamp]
@[simp] theorem State.raiseTableClamp_statusRest (s : State) (n : Fin 16) (t : TickId) (v : Int) : (s.raiseTableClamp n t v).status.rest = s.status.rest := by simp [State.raiseTableClamp]
set_option backward.isDefEq.respectTransparency false in
@[simp] theorem State.raiseTableClamp_roomy (s : State) (n : Fin 16) (t : TickId) (v : Int) (h : s.link.roomy) : (s.raiseTableClamp n t v).link.roomy := by simp (maxDischargeDepth := 12) [h, State.raiseTableClamp]

/-! ### raiseStoreError -/

@[simp] theorem State.raiseStoreError_linkRest (s : State) (n : Fin 16) (t : TickId) (a : Nat) : (s.raiseStoreError n t a).link.rest = s.link.rest := by simp [State.raiseStoreError]
@[simp] theorem State.raiseStoreError_statusRest (s : State) (n : Fin 16) (t : TickId) (a : Nat) : (s.raiseStoreError n t a).status.rest = s.status.rest := by simp [State.raiseStoreError]
set_option backward.isDefEq.respectTransparency false in
@[simp] theorem State.raiseStoreError_roomy (s : State) (n : Fin 16) (t : TickId) (a : Nat) (h : s.link.roomy) : (s.raiseStoreError n t a).link.roomy := by simp (maxDischargeDepth := 12) [h, State.raiseStoreError]

/-! ### temperatureStep -/

@[simp] theorem temperatureStep_linkRest (cc : CloseContext) (t : OpenTick) (l : Vector Slot 16) (x : Correcting) (n : Fin 16) :
    (temperatureStep cc t l x n).state.link.rest = x.state.link.rest := by
  unfold temperatureStep; simp only []; split
  · split
    · rfl
    · rfl
    · simp only [State.setCorr_link]; split <;> simp
  · rfl
@[simp] theorem temperatureStep_statusRest (cc : CloseContext) (t : OpenTick) (l : Vector Slot 16) (x : Correcting) (n : Fin 16) :
    (temperatureStep cc t l x n).state.status.rest = x.state.status.rest := by
  unfold temperatureStep; simp only []; split
  · split
    · rfl
    · rfl
    · simp only [State.setCorr_status]; split <;> simp
  · rfl
set_option backward.isDefEq.respectTransparency false in
@[simp] theorem temperatureStep_roomy (cc : CloseContext) (t : OpenTick) (l : Vector Slot 16) (x : Correcting) (n : Fin 16)
    (h : x.state.link.roomy) : (temperatureStep cc t l x n).state.link.roomy := by
  unfold temperatureStep; simp only []; split
  · split
    · exact h
    · exact h
    · simp only [State.setCorr_link]; split <;> simp [h]
  · exact h

/-! ### revalidate -/

@[simp] theorem State.revalidate_statusRest (s : State) (c : Configuration) (t : OpenTick) : (s.revalidate c t).1.status.rest = s.status.rest := by
  unfold State.revalidate
  exact foldl_frame (fun x : State × Vector Slot 16 => x.1.status.rest) _ (fun b a => by unfold revalidateStep; split <;> simp) _ _

/-! ### stageB -/

@[simp] theorem State.stageB_linkRest (s : State) (cc : CloseContext) (t : TickId) (n m : Fin 16) (g : Segment) (v : Int) : (s.stageB cc t n m g v).1.link.rest = s.link.rest := by
  unfold State.stageB; simp only []; split
  · rfl
  · split
    · simp only [State.setCorr_link]; split <;> simp
    · simp only [State.raiseStoreError_linkRest]; split <;> simp
@[simp] theorem State.stageB_statusRest (s : State) (cc : CloseContext) (t : TickId) (n m : Fin 16) (g : Segment) (v : Int) : (s.stageB cc t n m g v).1.status.rest = s.status.rest := by
  unfold State.stageB; simp only []; split
  · rfl
  · split
    · simp only [State.setCorr_status]; split <;> simp
    · simp only [State.raiseStoreError_statusRest]; split <;> simp
set_option backward.isDefEq.respectTransparency false in
@[simp] theorem State.stageB_roomy (s : State) (cc : CloseContext) (t : TickId) (n m : Fin 16) (g : Segment) (v : Int) (h : s.link.roomy) : (s.stageB cc t n m g v).1.link.roomy := by
  unfold State.stageB; simp only []; split
  · exact h
  · split
    · simp only [State.setCorr_link]; split <;> simp (maxDischargeDepth := 12) [h]
    · refine State.raiseStoreError_roomy _ _ _ _ ?_; split <;> simp (maxDischargeDepth := 12) [h]

/-! ### fieldStep -/

@[simp] theorem fieldStep_linkRest (cc : CloseContext) (t : OpenTick) (l : Vector Slot 16) (x : Correcting) (n : Fin 16) :
    (fieldStep cc t l x n).state.link.rest = x.state.link.rest := by
  unfold fieldStep; simp only []; split
  · split
    · rfl
    · rfl
    · split <;> simp
  · rfl
@[simp] theorem fieldStep_statusRest (cc : CloseContext) (t : OpenTick) (l : Vector Slot 16) (x : Correcting) (n : Fin 16) :
    (fieldStep cc t l x n).state.status.rest = x.state.status.rest := by
  unfold fieldStep; simp only []; split
  · split
    · rfl
    · rfl
    · split <;> simp
  · rfl
set_option backward.isDefEq.respectTransparency false in
@[simp] theorem fieldStep_roomy (cc : CloseContext) (t : OpenTick) (l : Vector Slot 16) (x : Correcting) (n : Fin 16)
    (h : x.state.link.roomy) : (fieldStep cc t l x n).state.link.roomy := by
  unfold fieldStep; simp only []; split
  · split
    · exact h
    · exact h
    · split <;> simp [h]
  · exact h

/-! ### correct -/

@[simp] theorem State.correct_linkRest (s : State) (cc : CloseContext) (t : OpenTick) (l : Vector Slot 16) : (s.correct cc t l).state.link.rest = s.link.rest := by
  unfold State.correct; simp only []
  rw [foldl_frame (fun x : Correcting => x.state.link.rest) _ (fun b a => by simp),
    foldl_frame (fun x : Correcting => x.state.link.rest) _ (fun b a => by simp)]
  simp
@[simp] theorem State.correct_statusRest (s : State) (cc : CloseContext) (t : OpenTick) (l : Vector Slot 16) : (s.correct cc t l).state.status.rest = s.status.rest := by
  unfold State.correct; simp only []
  rw [foldl_frame (fun x : Correcting => x.state.status.rest) _ (fun b a => by simp),
    foldl_frame (fun x : Correcting => x.state.status.rest) _ (fun b a => by simp)]
  simp
set_option backward.isDefEq.respectTransparency false in
@[simp] theorem State.correct_roomy (s : State) (cc : CloseContext) (t : OpenTick) (l : Vector Slot 16) (h : s.link.roomy) : (s.correct cc t l).state.link.roomy := by
  unfold State.correct; simp only []
  refine foldl_keeps (fun x : Correcting => x.state.link.roomy) _ (fun b a hb => by simp [hb]) _ _ ?_
  exact foldl_keeps (fun x : Correcting => x.state.link.roomy) _ (fun b a hb => by simp [hb]) _ _ h

/-! ### combine -/

@[simp] theorem State.combine_linkRest (s : State) (d : TriadDescriptor) (k : Fin 2) (t : TickId) (v : Vector CorrectedSample 16) : (s.combine d k t v).1.link.rest = s.link.rest := by
  unfold State.combine; simp only []; split
  · exact foldl_frame (fun x : State => x.link.rest) _ (fun b a => by simp [State.raiseSaturation]) _ _
  · rfl
@[simp] theorem State.combine_statusRest (s : State) (d : TriadDescriptor) (k : Fin 2) (t : TickId) (v : Vector CorrectedSample 16) : (s.combine d k t v).1.status.rest = s.status.rest := by
  unfold State.combine; simp only []; split
  · exact foldl_frame (fun x : State => x.status.rest) _ (fun b a => by simp [State.raiseSaturation]) _ _
  · rfl
set_option backward.isDefEq.respectTransparency false in
@[simp] theorem State.combine_roomy (s : State) (d : TriadDescriptor) (k : Fin 2) (t : TickId) (v : Vector CorrectedSample 16) (h : s.link.roomy) : (s.combine d k t v).1.link.roomy := by
  unfold State.combine; simp only []; split
  · exact foldl_keeps (fun x : State => x.link.roomy) _ (fun b a hb => by simp [State.raiseSaturation, hb]) _ _ h
  · exact h

/-! ### countScreened -/

@[simp] theorem State.countScreened_linkRest (s : State) (k : Fin 2) (t : TickId) (r : Screened) : (s.countScreened k t r).link.rest = s.link.rest := by
  unfold State.countScreened; simp only []; split_ifs <;> simp
@[simp] theorem State.countScreened_statusRest (s : State) (k : Fin 2) (t : TickId) (r : Screened) : (s.countScreened k t r).status.rest = s.status.rest := by
  unfold State.countScreened; simp only []; split_ifs <;> simp
set_option backward.isDefEq.respectTransparency false in
@[simp] theorem State.countScreened_roomy (s : State) (k : Fin 2) (t : TickId) (r : Screened) (h : s.link.roomy) : (s.countScreened k t r).link.roomy := by
  unfold State.countScreened; simp only []; split_ifs <;> simp (maxDischargeDepth := 12) [h]

/-! ### prepareTriad -/

@[simp] theorem State.prepareTriad_statusRest (s : State) (cc : CloseContext) (k : Fin 2) : (s.prepareTriad cc k).state.status.rest = s.status.rest := by
  simp [State.prepareTriad, State.setScreen]

/-! ### runTriad -/

@[simp] theorem State.runTriad_linkRest (s : State) (cc : CloseContext) (k : Fin 2) (t : TickId) (v : Vector CorrectedSample 16) : (s.runTriad cc k t v).state.link.rest = s.link.rest := by
  unfold State.runTriad; simp only []; split <;> simp [State.setScreen]
@[simp] theorem State.runTriad_statusRest (s : State) (cc : CloseContext) (k : Fin 2) (t : TickId) (v : Vector CorrectedSample 16) : (s.runTriad cc k t v).state.status.rest = s.status.rest := by
  unfold State.runTriad; simp only []; split <;> simp [State.setScreen]
set_option backward.isDefEq.respectTransparency false in
@[simp] theorem State.runTriad_roomy (s : State) (cc : CloseContext) (k : Fin 2) (t : TickId) (v : Vector CorrectedSample 16) (h : s.link.roomy) : (s.runTriad cc k t v).state.link.roomy := by
  unfold State.runTriad; simp only []; split <;> simp (maxDischargeDepth := 12) [h, State.setScreen]

/-! ### combineTriads -/

@[simp] theorem State.combineTriads_linkRest (s : State) (cc : CloseContext) (t : TickId) (v : Vector CorrectedSample 16) : (s.combineTriads cc t v).1.link.rest = s.link.rest := by
  simp [State.combineTriads]
@[simp] theorem State.combineTriads_statusRest (s : State) (cc : CloseContext) (t : TickId) (v : Vector CorrectedSample 16) : (s.combineTriads cc t v).1.status.rest = s.status.rest := by
  simp [State.combineTriads]
set_option backward.isDefEq.respectTransparency false in
@[simp] theorem State.combineTriads_roomy (s : State) (cc : CloseContext) (t : TickId) (v : Vector CorrectedSample 16) (h : s.link.roomy) : (s.combineTriads cc t v).1.link.roomy := by
  simp (maxDischargeDepth := 12) [h, State.combineTriads]

/-! ### formMinute -/

@[simp] theorem State.formMinute_linkRest (s : State) (c : Configuration) (m : Nat) : (s.formMinute c m).link.rest = s.link.rest := by
  unfold State.formMinute; simp only []; split <;> simp
@[simp] theorem State.formMinute_statusRest (s : State) (c : Configuration) (m : Nat) : (s.formMinute c m).status.rest = s.status.rest := by
  unfold State.formMinute; simp only []; split <;> simp
set_option backward.isDefEq.respectTransparency false in
@[simp] theorem State.formMinute_roomy (s : State) (c : Configuration) (m : Nat) (h : s.link.roomy) : (s.formMinute c m).link.roomy := by
  unfold State.formMinute; simp only []; split <;> simp (maxDischargeDepth := 12) [h]

/-! ### formMinutes -/

@[simp] theorem State.formMinutes_linkRest (s : State) (c : Configuration) (n : Num32) (f : Nat) : (s.formMinutes c n f).link.rest = s.link.rest := by
  induction f generalizing s with
  | zero => rfl
  | succ f ih =>
    unfold State.formMinutes; split
    · rfl
    · split <;> simp [ih]
@[simp] theorem State.formMinutes_statusRest (s : State) (c : Configuration) (n : Num32) (f : Nat) : (s.formMinutes c n f).status.rest = s.status.rest := by
  induction f generalizing s with
  | zero => rfl
  | succ f ih =>
    unfold State.formMinutes; split
    · rfl
    · split <;> simp [ih]
set_option backward.isDefEq.respectTransparency false in
@[simp] theorem State.formMinutes_roomy (s : State) (c : Configuration) (n : Num32) (f : Nat) (h : s.link.roomy) : (s.formMinutes c n f).link.roomy := by
  induction f generalizing s with
  | zero => exact h
  | succ f ih =>
    unfold State.formMinutes; split
    · exact h
    · split <;> simp (maxDischargeDepth := 12) [h, ih]

/-! ### scheduleMinutes -/

@[simp] theorem State.scheduleMinutes_linkRest (s : State) (c : Configuration) (n : Num32) : (s.scheduleMinutes c n).link.rest = s.link.rest := by
  simp [State.scheduleMinutes]
@[simp] theorem State.scheduleMinutes_statusRest (s : State) (c : Configuration) (n : Num32) : (s.scheduleMinutes c n).status.rest = s.status.rest := by
  simp [State.scheduleMinutes]
set_option backward.isDefEq.respectTransparency false in
@[simp] theorem State.scheduleMinutes_roomy (s : State) (c : Configuration) (n : Num32) (h : s.link.roomy) : (s.scheduleMinutes c n).link.roomy := by
  simp (maxDischargeDepth := 12) [h, State.scheduleMinutes]

/-! ### computeSecond -/

@[simp] theorem State.computeSecond_linkRest (s : State) (c : Configuration) (e : PendingSecond) : (State.computeSecond c s e).link.rest = s.link.rest := by
  unfold State.computeSecond; simp only []; split_ifs <;> simp
@[simp] theorem State.computeSecond_statusRest (s : State) (c : Configuration) (e : PendingSecond) : (State.computeSecond c s e).status.rest = s.status.rest := by
  unfold State.computeSecond; simp only []; split_ifs <;> simp
set_option backward.isDefEq.respectTransparency false in
@[simp] theorem State.computeSecond_roomy (s : State) (c : Configuration) (e : PendingSecond) (h : s.link.roomy) : (State.computeSecond c s e).link.roomy := by
  unfold State.computeSecond; simp only []; split_ifs <;> simp (maxDischargeDepth := 12) [h]

/-! ### decimate -/

@[simp] theorem State.decimate_linkRest (s : State) (cc : CloseContext) (t : TickId) (v : Vector CorrectedSample 16) (a : Bool × Bool) (b : List Decision × List Decision) : (s.decimate cc t v a b).link.rest = s.link.rest := by
  unfold State.decimate; simp only []
  rw [foldl_frame (fun x : State => x.link.rest) _ (fun b a => by simp)]; simp
@[simp] theorem State.decimate_statusRest (s : State) (cc : CloseContext) (t : TickId) (v : Vector CorrectedSample 16) (a : Bool × Bool) (b : List Decision × List Decision) : (s.decimate cc t v a b).status.rest = s.status.rest := by
  unfold State.decimate; simp only []
  rw [foldl_frame (fun x : State => x.status.rest) _ (fun b a => by simp)]; simp
set_option backward.isDefEq.respectTransparency false in
@[simp] theorem State.decimate_roomy (s : State) (cc : CloseContext) (t : TickId) (v : Vector CorrectedSample 16) (a : Bool × Bool) (b : List Decision × List Decision) (h : s.link.roomy) : (s.decimate cc t v a b).link.roomy := by
  unfold State.decimate; simp only []
  exact foldl_keeps (fun x : State => x.link.roomy) _ (fun b a hb => by simp [hb]) _ _ h

/-! ### closeTick -/

@[simp] theorem State.closeTick_linkRest (s : State) (cc : CloseContext) (t : OpenTick) : (s.closeTick cc t).link.rest = s.link.rest := by simp [State.closeTick]
@[simp] theorem State.closeTick_statusRest (s : State) (cc : CloseContext) (t : OpenTick) : (s.closeTick cc t).status.rest = s.status.rest := by simp [State.closeTick]
set_option backward.isDefEq.respectTransparency false in
@[simp] theorem State.closeTick_roomy (s : State) (cc : CloseContext) (t : OpenTick) (h : s.link.roomy) : (s.closeTick cc t).link.roomy := by simp (maxDischargeDepth := 12) [h, State.closeTick]

/-! ### upstreamBad -/

@[simp] theorem State.upstreamBad_statusRest (s : State) : s.upstreamBad.status.rest = s.status.rest := rfl

/-! ### takeMarker -/

@[simp] theorem State.takeMarker_linkRest (s : State) (e : Edge) : (s.takeMarker e).link.rest = s.link.rest := by
  unfold State.takeMarker; simp only []; split <;> simp
@[simp] theorem State.takeMarker_statusRest (s : State) (e : Edge) : (s.takeMarker e).status.rest = s.status.rest := by
  unfold State.takeMarker; simp only []; split <;> simp
set_option backward.isDefEq.respectTransparency false in
@[simp] theorem State.takeMarker_roomy (s : State) (e : Edge) (h : s.link.roomy) : (s.takeMarker e).link.roomy := by
  unfold State.takeMarker; simp only []; split <;> simp (maxDischargeDepth := 12) [h]

end Sys2Proof.Machine
end

