-- ==== Sys2Proof/Laws/SettingsStore.lean ====
section
/-! SUPPORT. Laws/SettingsStore: what the check of power-on finds, and what a power-on loads (R200, R207). -/

namespace Sys2Proof.Machine

/-- An image that a save has written passes the check. -/
@[simp] theorem Image.check_written (x : Settings) : (Image.written x).check = .valid := by
  simp [Image.check, Image.written]

/-- A stored CRC-32 that agrees passes. -/
theorem Image.check_of_crc {i : Image} {x : Settings} (h : i.contents = some x) (hc : crc32 (Config.imageBytes x) = i.crc) :
    i.check = .valid := by simp [Image.check, h, hc]

/-- No whole contents, or a stored CRC-32 that agrees with none, is INVALID. -/
theorem Image.check_of_none {i : Image} (h : ∀ x, i.contents = some x → crc32 (Config.imageBytes x) ≠ i.crc) :
    i.check = .invalid := by
  unfold Image.check
  split
  · rename_i x hx
    exact if_neg (h x hx)
  · rfl

/-- The check finds an image VALID exactly when it holds whole contents whose CRC-32 is the stored one. -/
theorem Image.check_eq_valid {i : Image} :
    i.check = .valid ↔ ∃ x, i.contents = some x ∧ crc32 (Config.imageBytes x) = i.crc := by
  constructor
  · intro h
    by_contra hn
    rw [Image.check_of_none fun x hx hc => hn ⟨x, hx, hc⟩] at h
    cases h
  · rintro ⟨x, hx, hc⟩
    exact Image.check_of_crc hx hc

/-- The check reads contents and CRC alone: checking twice is checking once. -/
@[simp] theorem Image.check_checked (i : Image) : i.checked.check = i.check := rfl

@[simp] theorem Image.checked_contents (i : Image) : i.checked.contents = i.contents := rfl
@[simp] theorem Image.checked_crc (i : Image) : i.checked.crc = i.crc := rfl
@[simp] theorem Image.checked_validity (i : Image) : i.checked.validity = i.check := rfl

/-- An image that passes is what is loaded. -/
theorem Image.load_of_crc {i : Image} {x : Settings} (h : i.contents = some x) (hc : crc32 (Config.imageBytes x) = i.crc) :
    i.load = x := by simp [Image.load, Image.check_of_crc h hc, h]

/-- Otherwise the defaults are. -/
theorem Image.load_of_none {i : Image} (h : ∀ x, i.contents = some x → crc32 (Config.imageBytes x) ≠ i.crc) :
    i.load = Settings.default := by simp [Image.load, Image.check_of_none h]

/-- A power-on with an image that passes: its settings in force, no condition. -/
theorem State.powerOn_of_valid {s : State} (h : s.settings.image.check = .valid) :
    s.powerOn = State.fresh .loaded s.settings.image.load s.settings.loaded s.link.holdIn s.pending := by
  simp [State.powerOn, SettingsStore.loaded, h]

/-- A power-on with an image that fails: the defaults in force, STORE_INVALID. -/
theorem State.powerOn_of_invalid {s : State} (h : s.settings.image.check = .invalid) :
    s.powerOn =
      (State.fresh .loaded s.settings.image.load s.settings.loaded s.link.holdIn s.pending).setCondition .storeInvalid := by
  simp [State.powerOn, SettingsStore.loaded, h]

end Sys2Proof.Machine
end

