-- ==== Sys2Proof/Laws/Store.lean ====
section
/-! SUPPORT. Laws/Store: the coefficient store's operations: what reads give after writes, and the canonical form they keep
(R63, R69, R72; log 7). -/

namespace Sys2Proof.Machine

/-- Reading another address than the one written gives what stood there. -/
theorem Store.read_write_other (st : Store) {a b : Nat} (e : StoreEntry) (h : a ≠ b) :
    (st.write b e).read a = st.read a := by
  induction st with
  | nil =>
    unfold Store.write
    split
    · rfl
    · simp [Store.read, h]
  | cons x rest ih =>
    obtain ⟨c, f⟩ := x
    unfold Store.write
    split_ifs
    · rfl
    · simp [Store.read, h]
    · subst_vars; simp [Store.read, h]
    · subst_vars; simp [Store.read, h]
    · simp only [Store.read, ih]

/-- An address below a sorted list's lowest is not listed. -/
theorem Store.read_below {st : Store} {low a : Nat} (h : st.sortedFrom low = true) (ha : a < low) :
    st.read a = .default := by
  induction st generalizing low with
  | nil => rfl
  | cons x rest ih =>
    obtain ⟨c, f⟩ := x
    simp only [Store.sortedFrom, Bool.and_eq_true, decide_eq_true_eq] at h
    obtain ⟨⟨⟨h1, h2⟩, h3⟩, h4⟩ := h
    rw [Store.read, if_neg (by omega)]
    exact ih h4 (by omega)

/-- Reading the address written gives the entry written, in a sorted list. -/
theorem Store.read_write_sorted {st : Store} {low : Nat} (h : st.sortedFrom low = true) (a : Nat) (e : StoreEntry) :
    (st.write a e).read a = e := by
  induction st generalizing low with
  | nil =>
    unfold Store.write
    split_ifs with he
    · rw [he]; rfl
    · simp [Store.read]
  | cons x rest ih =>
    obtain ⟨c, f⟩ := x
    simp only [Store.sortedFrom, Bool.and_eq_true, decide_eq_true_eq] at h
    obtain ⟨⟨⟨h1, h2⟩, h3⟩, h4⟩ := h
    unfold Store.write
    split_ifs with g1 g2 g3 g4
    · rw [g2, Store.read, if_neg (by omega)]
      exact Store.read_below h4 (by omega)
    · simp [Store.read]
    · rw [g4]; exact Store.read_below h4 (by omega)
    · simp [Store.read]
    · rw [Store.read, if_neg g3]
      exact ih h4

/-- Reading the address written gives the entry written, in a store in canonical form. -/
theorem Store.read_write_same {st : Store} (h : st.wf = true) (a : Nat) (e : StoreEntry) : (st.write a e).read a = e :=
  Store.read_write_sorted h a e

/-- A lower bound that holds may be lowered. -/
theorem Store.sortedFrom_mono {st : Store} {low low' : Nat} (h : st.sortedFrom low = true) (hl : low' ≤ low) :
    st.sortedFrom low' = true := by
  cases st with
  | nil => rfl
  | cons x rest =>
    simp only [Store.sortedFrom, Bool.and_eq_true, decide_eq_true_eq] at h ⊢
    exact ⟨⟨⟨by omega, h.1.1.2⟩, h.1.2⟩, h.2⟩

/-- A write inside the store keeps the list sorted from any bound at or below the address. -/
theorem Store.sortedFrom_write {st : Store} {low : Nat} (h : st.sortedFrom low = true) {a : Nat} (e : StoreEntry)
    (hl : low ≤ a) (ha : a < 2048) : (st.write a e).sortedFrom low = true := by
  induction st generalizing low with
  | nil =>
    unfold Store.write
    split_ifs with he
    · rfl
    · simp [Store.sortedFrom, Config.storeEntries, he, hl, ha]
  | cons x rest ih =>
    obtain ⟨c, f⟩ := x
    have h' := h
    simp only [Store.sortedFrom, Bool.and_eq_true, decide_eq_true_eq] at h
    obtain ⟨⟨⟨h1, h2⟩, h3⟩, h4⟩ := h
    unfold Store.write
    split_ifs with g1 g2 g3 g4
    · exact h'
    · simp only [Store.sortedFrom, Bool.and_eq_true, decide_eq_true_eq]
      exact ⟨⟨⟨hl, by simpa [Config.storeEntries] using ha⟩, g2⟩, ⟨⟨by omega, h2⟩, h3⟩, h4⟩
    · exact Store.sortedFrom_mono h4 (by omega)
    · subst g3
      simp only [Store.sortedFrom, Bool.and_eq_true, decide_eq_true_eq]
      exact ⟨⟨⟨hl, h2⟩, g4⟩, h4⟩
    · simp only [Store.sortedFrom, Bool.and_eq_true, decide_eq_true_eq]
      exact ⟨⟨⟨h1, h2⟩, h3⟩, ih h4 (by omega)⟩

/-- A write inside the store keeps the canonical form. -/
theorem Store.wf_write {st : Store} (h : st.wf = true) {a : Nat} (e : StoreEntry) (ha : a < 2048) : (st.write a e).wf = true :=
  Store.sortedFrom_write h e (Nat.zero_le a) ha

/-- A poisoned entry is one write, so it keeps the canonical form. -/
theorem Store.wf_poison {st : Store} (h : st.wf = true) {a : Nat} (ha : a < 2048) : (st.poison a).wf = true :=
  Store.wf_write h _ ha

/-- A run written inside the store keeps the canonical form. -/
theorem Store.wf_writeRun {st : Store} (h : st.wf = true) (l : List StoreEntry) {a : Nat} (ha : a + l.length ≤ 2048) :
    (st.writeRun a l).wf = true := by
  induction l generalizing st a with
  | nil => exact h
  | cons e es ih =>
    rw [Store.writeRun]
    simp only [List.length_cons] at ha
    exact ih (Store.wf_write h e (by omega)) (by omega)

/-- An address outside a run keeps its entry. -/
theorem Store.read_writeRun_other (st : Store) (l : List StoreEntry) {a b : Nat} (h : b < a ∨ a + l.length ≤ b) :
    (st.writeRun a l).read b = st.read b := by
  induction l generalizing st a with
  | nil => rfl
  | cons e es ih =>
    simp only [List.length_cons] at h
    rw [Store.writeRun, ih (Store.write st a e) (by omega), Store.read_write_other _ _ (by omega)]

/-- An address of a run takes the entry carried for it. -/
theorem Store.read_writeRun {st : Store} (h : st.wf = true) (l : List StoreEntry) {a : Nat} (ha : a + l.length ≤ 2048)
    (b : Nat) : (st.writeRun a l).read b = if a ≤ b then (l[b - a]?).getD (st.read b) else st.read b := by
  induction l generalizing st a with
  | nil => simp [Store.writeRun]
  | cons e es ih =>
    simp only [List.length_cons] at ha
    rw [Store.writeRun, ih (Store.wf_write h e (by omega)) (by omega)]
    by_cases h1 : a + 1 ≤ b
    · rw [if_pos h1, if_pos (by omega), show b - a = (b - (a + 1)) + 1 by omega, List.getElem?_cons_succ,
        Store.read_write_other _ _ (by omega)]
    · rw [if_neg h1]
      by_cases h2 : b = a
      · subst h2
        rw [Store.read_write_same h]
        simp
      · rw [if_neg (by omega), Store.read_write_other _ _ h2]

end Sys2Proof.Machine
end

