-- ==== Sys2Proof/Tests/Slice0.lean ====
section
/-! SUPPORT. Tests/Slice0: the model's own tests.
First the checks of WellFormed, each refusing an ill-formed command; then single steps taken from the spec's worked examples
and tables; last, for every statement of Obligations.lean with hypotheses, a state and operands that meet them together. -/

open Sys2Proof Sys2Proof.Machine Sys2Proof.Claims

namespace Sys2Proof.Tests

-- One theorem at a time: the stacks of many threads together pass the memory limit of the check.
set_option Elab.async false

/-! ### Small states -/

/-- A device making marks, every block at its power-on values. -/
def base : State := State.fresh .running Settings.default SettingsStore.newDevice false []

/-- A device after its settings load, before the first mark. -/
def loaded : State := State.fresh .loaded Settings.default SettingsStore.newDevice false []

/-- A request of the name given. -/
def request (name : RequestName) (params : List Byte) : Request := ⟨7, name.code, params⟩

/-- The state with one request of the name given waiting. -/
def asked (s : State) (name : RequestName) (params : List Byte) : State :=
  { s with link := { s.link with requests := [request name params] } }

/-- The state an outcome leads to, and the reset state where it leads to none. -/
def outcome (o : Host.Outcome State Fault Refusal) : State :=
  match o with
  | .next t => t
  | .fault _ => State.reset
  | .refused _ => State.reset

/-- The state a command leads to. -/
def after (c : Instr) (s : State) : State := outcome (exec c s)

/-- The result and the data of the youngest frame of the output queue, where it is a response. -/
def answer (s : State) : Option (Result × List Byte) :=
  match s.link.output.getLast? with
  | some ⟨.response r, _⟩ => some (r.result, r.data)
  | _ => none

/-- A port in the mode given with a FIFO. -/
def port (mode : PortMode) (framing : PortFraming) (policy : Policy) (fifo : List FifoEntry) : SensorPort :=
  ⟨framing, 0, fifo, mode, ⟨true, 8, policy⟩, false, none⟩

/-- A GOOD entry. -/
def entry (source : BitVec 4) (sequence : Byte) (value : Int) : FifoEntry := ⟨source, false, false, sequence, value, .good⟩

/-- The configuration of section 3.9: axes 0 to 2 on port A, a SCALAR and a TEMPERATURE channel on port B. -/
def config : Configuration :=
  let c := Configuration.default
  { c with
    channels := (((((c.channels.set 0 { c.channels[0] with enabled := true }).set 1
      { c.channels[1] with enabled := true }).set 2 { c.channels[2] with enabled := true }).set 3
      { c.channels[3] with enabled := true, kind := .scalar, port := .b, source := 0 }).set 4
      { c.channels[4] with enabled := true, kind := .temperature, port := .b, source := 1, staleness := some 3 })
    triads := c.triads.set 0 { c.triads[0] with enabled := true } }

/-- A device making marks with the configuration of section 3.9. -/
def station : State := { base with staging := { base.staging with active := config, pendingConfig := config } }

/-- A tick with the slots given. -/
def openTick (count : Num32) (index : Nat) (slots : Vector Slot 16) : OpenTick := ⟨⟨count, index, 1000⟩, slots⟩

/-- No slot filled. -/
def noSlots : Vector Slot 16 := Vector.replicate 16 .empty

/-! ### WellFormed: an ill-formed command for each check -/

theorem test_wellFormed_refuses_a_long_wait : (Instr.ppsEdge 10002051).wellFormed = false := by decide

theorem test_wellFormed_admits_the_longest_wait : (Instr.ppsEdge 10002050).wellFormed = true := by decide

theorem test_wellFormed_refuses_a_late_close : (Instr.tickClose 50001).wellFormed = false := by decide

theorem test_wellFormed_admits_a_close_in_time : (Instr.tickClose 50000).wellFormed = true := by decide

theorem test_wellFormed_refuses_a_fitting_len : (Instr.upstreamLenReject 250 10).wellFormed = false := by decide

theorem test_wellFormed_admits_a_rejecting_len : (Instr.upstreamLenReject 251 10).wellFormed = true := by decide

/-! ### Timebase -/

/-- The schedule of the second of length 10,000,065 (section 1.2): floor(k·L/R). -/
theorem test_tickPosition_schedule :
    (List.range 8).map (fun k => ({ base.tb with length := 10000065, nextIndex := k } : Timebase).nextIndex * 10000065 / 10) =
      [0, 1000006, 2000013, 3000019, 4000026, 5000032, 6000039, 7000045] := by decide

theorem test_mark_begins_second_1 :
    let t := after .mark { base with tb := { base.tb with period := 5, trim := 15, correction := 50 } }
    t.tb.second = 1 ∧ t.tb.length = 10000065 ∧ t.tb.clock = 9999995 ∧ t.tb.nextIndex = 1 ∧ t.tb.correction = 0 := by decide

theorem test_tick_asserts_strobe :
    let t := after .tick { base with tb := { base.tb with length := 10000065, nextIndex := 1, tickCount := 0 } }
    t.tb.period = 1000006 ∧ t.tb.tickCount = 1 ∧ t.tb.strobeUntil = some 1000106 := by decide

/-- Row 1 of section 1.6: +120 in FREE_RUN. -/
theorem test_ppsEdge_row_1 :
    let t := after (.ppsEdge 120) base
    t.tb.trim = 15 ∧ t.tb.correction = 50 ∧ t.tb.goodCount = 0 ∧ t.tb.discipline = .acquire := by decide

/-- Row 11 of section 1.6: −5 in ACQUIRE with seven good edges. -/
theorem test_ppsEdge_row_11 :
    let t := after (.ppsEdge 9999995)
      { base with tb := { base.tb with trim := 18, discipline := .acquire, goodCount := 7 } }
    t.tb.trim = 17 ∧ t.tb.correction = -3 ∧ t.tb.goodCount = 8 ∧ t.tb.discipline = .locked := by decide

/-- The step of section 1.5: −3,200 in HOLDOVER, with the label that equals the new number. -/
theorem test_ppsEdge_step_from_holdover :
    let s : State := { base with tb := { base.tb with
      discipline := .holdover, holdoverAge := 5000, holdoverLong := true, trim := 17, length := 10000017, second := 800000000,
      label := some 800000001, nextIndex := 10, halfChecked := true } }
    let t := after (.ppsEdge 9996817) s
    t.tb.second = 800000001 ∧ t.tb.length = 10000017 ∧ t.tb.discipline = .acquire ∧ t.tb.holdoverAge = 0 ∧
      t.tb.holdoverLong = false ∧ t.tb.label = none ∧ t.tb.quality = .acquire ∧ t.tb.trim = 17 ∧ t.link.output.length = 1 := by
  decide

/-- Row 8 of section 1.6: a missing mark. -/
theorem test_missingMarkCheck_counts :
    let t := after .missingMarkCheck { base with tb := { base.tb with discipline := .acquire, goodCount := 5 } }
    t.tb.missingCount = 1 ∧ t.tb.goodCount = 5 ∧ t.tb.period = 5000000 ∧ t.tb.discipline = .acquire := by decide

theorem test_strobeEnd_releases :
    (after .strobeEnd { base with tb := { base.tb with strobeUntil := some 400 } }).tb.clock = 400 := by decide

/-! ### Sensor ports and assembly -/

/-- The eighth entry sets the pace latch at threshold 8 (section 2.4). -/
theorem test_eighth_frame_sets_the_latch :
    let s : State := { base with portA := port .active (.collect [0x70, 131, 0, 0, 1]) .skip (List.replicate 7 (entry 4 131 0)) }
    let t := after (.sampleFrameArrival .a (crc8 [0x70, 131, 0, 0, 1]) 60) s
    t.portA.paceLatch = true ∧ t.portA.fifo.length = 8 := by decide +kernel

/-- The bad frame of section 2.6 halts port B. -/
theorem test_bad_frame_halts_under_stop :
    let s : State := { base with
      portB := port .active (.collect [0x70, 131, 0, 0, 1]) .stop [entry 4 131 0, entry 5 131 0, entry 6 131 0] }
    let t := after (.sampleFrameArrival .b (crc8 [0x70, 131, 0, 0, 1] + 1) 60) s
    t.portB.mode = .halted ∧ t.portB.fifo.length = 4 ∧ t.link.output.length = 2 ∧ t.status.capture.isSome = true ∧
      t.status.conditions.getLsbD 3 = true := by decide +kernel

theorem test_portReset_answers_and_disables :
    let s := asked { base with portB := { port .halted .hunt .stop [] with heldError := some ⟨7, 131, false, false, 0, 0⟩ } }
      .portReset [1]
    let t := after .portReset s
    t.portB.mode = .disabled ∧ t.portB.heldError = none ∧ t.link.output.length = 2 := by decide

theorem test_portEnable_conflict_when_halted :
    answer (after .portEnable (asked { base with portB := port .halted .hunt .stop [] } .portEnable [1, 0])) =
      some (.conflict, []) := by decide

/-- The open set of section 3.9 when the close of tick 5,118 has ended. -/
def boundary : State := { station with
  asm := { station.asm with openSet := [openTick 5119 9 (noSlots.set 0 (.filled 1 .a 0)), openTick 5120 0 noSlots] }
  portA := port .active .hunt .skip [entry 0 0 11, { entry 1 0 12 with overrange := true }, entry 2 254 13]
  portB := port .active .hunt .skip [entry 0 0 21, entry 1 0 22, entry 0 0 23] }

/-- The first take of section 3.9 serves port A and fills slot 0 of tick 5,120. -/
theorem test_entryTake_first :
    let t := after .entryTake boundary
    t.asm.openSet.map (fun o => o.slots[0]) = [.filled 1 .a 0, .filled 11 .a 0] ∧ t.asm.lastServed = .a ∧
      t.portA.fifo.length = 2 := by decide

/-- An overrange frame leaves a MISSING slot, and a sequence of no open tick is LATE. -/
theorem test_entryTake_missing_and_late :
    let t := after .entryTake (after .entryTake (after .entryTake (after .entryTake (after .entryTake boundary))))
    t.asm.openSet.map (fun o => o.slots[1]) = [.empty, .missing true false .a 1] ∧ t.portA.fifo = [] ∧
      (t.status.counters[(Counter.late).index]).toNat = 1 := by decide

/-! ### Correction, screens, means -/

/-- Stage A, placement and interpolation of section 5.8. -/
theorem test_cold_night :
    divRound .round (6170 * 13107) 65536 = 1234 ∧ divRound .round (4194304 * 781250) 65536 = 50000000 ∧
      (⟨100, 9, 1000, 500, .ascending⟩ : Segment).place 1234 = ⟨0, 234, false⟩ ∧
      Store.lookup [(100, ⟨1200, 840, .good⟩), (101, ⟨2700, 1260, .good⟩)] ⟨100, 9, 1000, 500, .ascending⟩ .round
        ⟨0, 234, false⟩ = .good 1902 1037 ∧ applyCorrection .round 50000000 1902 1037 = 50004993 := by decide

/-- The tick of section 6.2 through the matrix. -/
theorem test_matrix_of_one_tick :
    let d : TriadDescriptor := { TriadDescriptor.default ⟨0, 1, 2⟩ with
      rowX := ⟨4194304, 2097, 0⟩, rowY := ⟨-1258, 4194304, 0⟩, rowZ := ⟨0, 1049, 4194304⟩, offset := ⟨-1500, 2400, -900000⟩ }
    let samples : Vector CorrectedSample 16 :=
      ((Vector.replicate 16 ⟨none, 0⟩).set 0 ⟨some 50004993, 0⟩ |>.set 1 ⟨some 1000000, 0⟩).set 2 ⟨some 55000000, 0⟩
    (base.combine d 0 ⟨0, 0, 0⟩ samples).2 = ⟨some ⟨50003993, 987402, 54100250⟩, 0⟩ := by decide

/-- The second value of section 7.2: present under q = 819, a gap under q = 820. -/
theorem test_second_value_of_five_places :
    let f (q : Nat) : Filter := ⟨5, q, Vector.ofFn fun i => #[1, 2, 4, 2, 1].getD i.val 0⟩
    let accepted (n : Nat) (x : Int) (flags : DataFlags) : TickEntry := ⟨BitVec.ofNat 32 n, ⟨some ⟨x, 0, 0⟩, flags⟩, 0⟩
    let history : List TickEntry :=
      [accepted 98 100 0, accepted 99 104 16, accepted 100 110 0, ⟨101, ⟨none, 1⟩, 0⟩, accepted 102 96 0]
    secondValue (f 819) .round history 100 none = ⟨some ⟨106, 0, 0⟩, 4096 + 16 + 1, 4, some 0⟩ ∧
      (secondValue (f 819) .truncate history 100 none).vector = some ⟨105, 0, 0⟩ ∧
      (secondValue (f 820) .round history 100 none).vector = none := by decide +kernel

/-! ### Station link, requests, settings -/

/-- A whole request frame reaches the request queue. -/
theorem test_upstream_frame_arrives :
    let body : List Byte := [0x01, 9, RequestName.ident.code]
    let crc := natBytes 2 (crc16 (2 :: body)).toNat
    let s : State := { base with link := { base.link with framing := .collect 2 (body ++ crc.take 1) } }
    (after (.upstreamFrameArrival (crc.getD 1 0) 90) s).link.requests = [⟨9, RequestName.ident.code, []⟩] := by decide +kernel

theorem test_len_reject_counts :
    let t := after (.upstreamLenReject 251 90) { base with link := { base.link with framing := .length } }
    t.link.framing = .hunt ∧ t.status.conditions.getLsbD 0 = true := by decide

theorem test_unknown_code_is_answered :
    answer (after .requestUnknownCode { base with link := { base.link with requests := [⟨1, 0xEE, []⟩] } }) =
      some (.unknown, []) := by decide

theorem test_ident_answers :
    (answer (after .ident (asked base .ident []))).map Prod.fst = some .ok := by decide

theorem test_frameStart_waits_for_hold_in :
    let s : State := { base with link := { base.link with
      output := [⟨.notice (.start .powerOn .valid 0), false⟩], holdIn := true } }
    (after .frameStart s).link.sending = false ∧
      (after .frameStart (after (.holdInChange false 3) s)).link.sending = true := by decide

theorem test_commit_without_change : answer (after .commit (asked station .commit [])) = some (.ok, [0]) := by decide +kernel

theorem test_commit_scheduled :
    let s : State := { station with staging := { station.staging with
      pendingConfig := { config with second := { config.second with fraction := 512 } } } }
    answer (after .commit (asked s .commit [])) = some (.ok, [1]) ∧
      (after .commit (asked s .commit [])).staging.commitScheduled = true := by decide +kernel

theorem test_commitCheck_finds_the_pair :
    let c : Configuration := { config with
      channels := config.channels.set 7 { config.channels[7] with enabled := true, port := .a, source := 1 } }
    c.commitCheck = some ⟨.channel 7, .pairInUse, some 1⟩ := by decide +kernel

theorem test_storeWrite_keeps_the_form :
    let t := after .storeWrite (asked base .storeWrite ([0, 100] ++ [2] ++ [0, 4, 176, 3, 72] ++ [0, 10, 140, 4, 236]))
    t.store = [(100, ⟨1200, 840, .good⟩), (101, ⟨2700, 1260, .good⟩)] ∧ t.store.wf = true ∧ t.settings.unsaved = true := by
  decide +kernel

theorem test_storePoison_keeps_the_values :
    (after .storePoison (asked { base with store := [(102, ⟨3900, 1500, .good⟩)] } .storePoison [0, 102])).store =
      [(102, ⟨3900, 1500, .bad⟩)] := by decide

theorem test_save_makes_the_image_invalid :
    let s : State := { base with settings := { base.settings with
      image := { base.settings.image with validity := .valid } } }
    let t := after .save (asked s .save [])
    t.settings.image.validity = .invalid ∧ t.settings.save.isSome = true ∧ t.link.output = [] := by decide +kernel

theorem test_saveEnd_failed :
    let s : State := { base with settings := { base.settings with save := some ⟨Settings.default, 5, 0⟩ } }
    let t := after (.saveEnd false 1000) s
    t.settings.image.validity = .invalid ∧ t.settings.save = none ∧ answer t = some (.saveFailed, []) := by decide

theorem test_powerOn_loads_defaults_from_an_invalid_image :
    let t := after .powerOn State.reset
    t.phase = .loaded ∧ t.indicator = 1 ∧ t.settings.unsaved = true ∧ t.status.conditions = 2048 := by decide

/-- The check of R200 at power-on: a written image passes and is loaded, and one whose CRC-32 differs is INVALID. -/
theorem test_powerOn_checks_the_image :
    let x : Settings := { Settings.default with rateSet := 20 }
    let stored (i : Image) : State := { base with phase := .off, settings := { base.settings with image := i } }
    let good := after .powerOn (stored (Image.written x))
    let bad := after .powerOn (stored { Image.written x with crc := crc32 (Config.imageBytes x) + 1 })
    good.tb.rateSet = 20 ∧ good.settings.image.validity = .valid ∧ good.settings.unsaved = false ∧
      bad.tb.rateSet = 10 ∧ bad.settings.image.validity = .invalid ∧ bad.settings.unsaved = true := by
  intro x stored good bad
  have hg : (stored (Image.written x)).settings.image.check = .valid := Image.check_written x
  have hb : (stored { Image.written x with crc := crc32 (Config.imageBytes x) + 1 }).settings.image.check = .invalid :=
    Image.check_of_none fun y hy => by
      cases hy
      show crc32 (Config.imageBytes x) ≠ crc32 (Config.imageBytes x) + 1
      generalize crc32 (Config.imageBytes x) = c
      intro h
      simp at h
  have eg : good = _ := State.powerOn_of_valid hg
  have eb : bad = _ := State.powerOn_of_invalid hb
  have lg : (stored (Image.written x)).settings.image.load = x := Image.load_of_crc (x := x) rfl rfl
  rw [eg, eb, lg]
  refine ⟨rfl, hg, ?_, ?_, hb, ?_⟩
  · show ((stored (Image.written x)).settings.image.check == Validity.invalid) = false
    rw [hg]
    rfl
  · show (Timebase.powerOn (Image.load _)).rateSet = 10
    unfold Image.load
    rw [hb]
    rfl
  · show ((stored { Image.written x with crc := crc32 (Config.imageBytes x) + 1 }).settings.image.check == Validity.invalid) = true
    rw [hb]
    rfl

/-- An edge in the period of a mark lies in the new second, at p = 0 with e = 0 (R7). -/
theorem test_edge_in_the_period_of_a_mark :
    let t := after (.ppsEdge 10000000) { base with tb := { base.tb with discipline := .acquire, goodCount := 3 } }
    t.tb.second = 1 ∧ t.tb.period = 0 ∧ t.tb.goodCount = 4 ∧ t.tb.attributed = true ∧ t.tb.correction = 0 := by decide

/-- A marker edge in the period of a mark carries the new second and offset 0 (R196). -/
theorem test_marker_in_the_period_of_a_mark :
    let t := after (.markerEdge .rising 10000000) base
    t.tb.second = 1 ∧ t.link.output = [⟨.event ⟨1, 0, .rising, .freeRun⟩, false⟩] := by decide

/-- An edge that steps comes before the tick and the taken marker edge of its own period, and after the check of a half-point (R4,
R8, R196). -/
theorem test_a_step_comes_first_in_its_period :
    let s (next : Nat) (marker : Option Nat) : State := { base with
      tb := { base.tb with clock := 1000000, period := 1000000, nextIndex := next, discipline := .acquire }
      aux := { base.aux with lastMarker := marker } }
    let half (checked : Bool) : State := { base with
      tb := { base.tb with period := 5000000, nextIndex := 5, discipline := .acquire, halfChecked := checked } }
    timely (.ppsEdge 0) (s 1 (some 999999)) = true ∧ timely (.ppsEdge 0) (s 2 none) = false ∧
      timely (.ppsEdge 0) (s 1 (some 1000000)) = false ∧ timely (.ppsEdge 0) (half true) = true ∧
      timely (.ppsEdge 0) (half false) = false := by decide

/-- The first mark comes before the edges of its own period (R7, R196). -/
theorem test_the_first_mark_comes_before_its_edges :
    timely (.startUpComplete 0) (after (.ppsEdge 9) loaded) = false ∧
      timely (.startUpComplete 0) (after (.markerEdge .rising 9) loaded) = false ∧
      timely (.startUpComplete 1) (after (.markerEdge .rising 9) loaded) = true := by decide

/-- Every designation but MARKER_IN on a line: the levels of R193. -/
theorem test_line_levels :
    let level (x : Designation) (k : Nat) (duty : Duty) (clock : Nat) : LineLevel :=
      ({ base with
        tb := { base.tb with clock := clock }
        aux := { base.aux with lines := base.aux.lines.set 0 ⟨⟨x, k, duty⟩, true, 8⟩ } } : State).lineLevel 0
    [level .off 0 .d50 0, level .levelLow 0 .d50 0, level .levelHigh 0 .d50 0, level .secondMark 0 .d50 0, level .alert 0 .d50 0] =
      [.undriven, .low, .high, .high, .low] ∧
    [level .clockOut 0 .d50 8, level .clockOut 1 .d50 8, level .clockOut 1 .d50 9, level .clockOut 3 .d25 9,
      level .clockOut 3 .d25 10, level .clockOut 3 .d75 13, level .clockOut 3 .d75 14, level .clockOut 3 .d75 16] =
      [.oscillator, .high, .low, .high, .low, .high, .low, .high] := by decide

/-- The lines show code 3 in FREE_RUN: IND0 and IND1 high, IND2 low (R192). -/
theorem test_indicator_lines :
    base.indicator = 3 ∧ (base.indicatorLine 0, base.indicatorLine 1, base.indicatorLine 2) = (true, true, false) := by decide

theorem test_startUp_makes_second_0 :
    let t := after (.startUpComplete 1000) loaded
    t.phase = .running ∧ t.tb.second = 0 ∧ t.tb.tickCount = 0 ∧ t.asm.openSet.length = 1 ∧ t.link.output.length = 1 := by
  decide

/-- The edges of section 10.8: an edge 40,000 periods after a taken one is ignored, one 180,000 after it is taken. -/
theorem test_markerEdge_spacing :
    let s : State := { base with aux := { base.aux with lastMarker := some 2000000, selection := .both } }
    (after (.markerEdge .falling 2040000) s).aux.lastMarker = some 2000000 ∧
      (after (.markerEdge .falling 2180000) s).aux.lastMarker = some 2180000 := by decide

/-! ### Witnesses: the hypotheses of the statements, met together -/

theorem test_witness_StepRunsTheFrontCommand :
    ({ base with pending := [.mark, .tick] } : State).pending = .mark :: [.tick] ∧ base.pending = [] := ⟨rfl, rfl⟩

/-- A stored image whose check passes, one whose CRC-32 differs, and no whole image. -/
theorem test_witness_PowerOnLoadsImageOrDefaults :
    (Image.written Settings.default).contents = some Settings.default ∧
    crc32 (Config.imageBytes Settings.default) = (Image.written Settings.default).crc ∧
    crc32 (Config.imageBytes Settings.default) ≠ crc32 (Config.imageBytes Settings.default) + 1 ∧
    base.settings.image.contents = none := by
  refine ⟨rfl, rfl, ?_, rfl⟩
  generalize crc32 (Config.imageBytes Settings.default) = x
  intro h
  simp at h

theorem test_witness_StartUpMakesTheFirstMark :
    loaded.phase = .loaded ∧ loaded.tb.discipline = .freeRun ∧ loaded.staging.commitScheduled = false ∧
      loaded.staging.restartScheduled = false ∧ loaded.asm.openSet = [] ∧ loaded.asm.closeQueue = [] ∧
      loaded.asm.closing = none ∧ loaded.link.output = [] ∧ loaded.status.capture = none := by decide

/-- The base device late in HOLDOVER, one mark before the holdover grows long. -/
def holding : State := { base with
  tb := { base.tb with discipline := .holdover, holdoverAge := 3599, period := 9500000, nextIndex := 10, second := 41, trim := -3 } }

theorem test_witness_MarkBeginsTheNextSecond :
    holding.phase = .running ∧ holding.tb.markLabel = none ∧ holding.staging.commitScheduled = false ∧
      holding.staging.restartScheduled = false ∧ holding.link.output.length < 60 ∧ base.tb.markLabel = none := by decide

/-- The station with a commit scheduled that changes channel 7 and the second filter. -/
def committing : State := { station with staging := { station.staging with
  pendingConfig := { config with
    channels := config.channels.set 7 { config.channels[7] with scale := 5 }
    second := { config.second with fraction := 512 } }
  commitScheduled := true } }

/-- A commit at a regular mark, at one in HOLDOVER, at a labelled mark, and at the mark of a step. -/
theorem test_witness_MarkAppliesTheCommit :
    committing.phase = .running ∧ committing.tb.markLabel = none ∧ committing.staging.commitScheduled = true ∧
      committing.staging.restartScheduled = false ∧
      committing.link.output.length + (if committing.tb.discipline = .holdover then 1 else 0) + 1 < 60 ∧
      ({ committing with tb := { committing.tb with discipline := .holdover } } : State).link.output.length + 1 + 0 < 60 ∧
      ({ committing with tb := { committing.tb with markLabel := some ⟨9, 4⟩ } } : State).tb.markLabel = some ⟨9, 4⟩ ∧
      takesEdge committing 501 ∧ inSecond committing 501 ∧ committing.tb.discipline ≠ .locked ∧
      500 < (edgeError committing 501).natAbs ∧ committing.link.output.length + 2 < 60 := by
  refine ⟨by decide, by decide, by decide, by decide, by decide, by decide, by decide, ⟨rfl, fun _ h => by cases h⟩, ?_, ?_, ?_, ?_⟩
  · unfold inSecond; decide
  all_goals decide

/-- A second record. -/
def record : SecondRecord := ⟨5, .locked, 0, some 3, [], none, none, []⟩

/-- A minute record. -/
def minute : MinuteRecord := ⟨7, none, [], none, []⟩

/-- A response. -/
def reply : Frame := ⟨.response ⟨1, 2, .ok, 0, []⟩, false⟩

/-- The station with a restart scheduled, a frame being sent and frames that wait, a depth that rises to 3. -/
def restarting : State := { boundary with
  staging := { boundary.staging with restartScheduled := true }
  tb := { boundary.tb with rateSet := 20, depthSet := 3, second := 1000, tickCount := 5120 }
  asm := { boundary.asm with issued := [⟨5117, 7, 999⟩, ⟨5118, 8, 999⟩, ⟨5119, 9, 999⟩, ⟨5120, 0, 1000⟩] }
  portB := { boundary.portB with mode := .halted, heldError := some ⟨7, 131, false, false, 0, 0⟩ }
  status := { boundary.status with conditions := 9, capture := some ⟨.reseed, .triad 0, 3, 4, .none⟩ }
  link := { boundary.link with
    output := [⟨.second record, false⟩, ⟨.second record, false⟩, reply, ⟨.minute minute, false⟩], sending := true } }

/-- A restart at a regular mark, at a labelled mark, and at the mark of a step. -/
theorem test_witness_MarkCarriesOutTheRestart :
    restarting.phase = .running ∧ restarting.tb.markLabel = none ∧ restarting.staging.restartScheduled = true ∧
      (keptFrames restarting.link).length + 2 < 60 ∧
      ({ restarting with tb := { restarting.tb with markLabel := some ⟨9, 4⟩ } } : State).tb.markLabel = some ⟨9, 4⟩ ∧
      takesEdge restarting 501 ∧ inSecond restarting 501 ∧ restarting.tb.discipline ≠ .locked ∧
      500 < (edgeError restarting 501).natAbs := by
  refine ⟨by decide, by decide, by decide, by decide, by decide, ⟨rfl, fun _ h => by cases h⟩, ?_, ?_, ?_⟩
  · unfold inSecond; decide
  all_goals decide

/-- The base device with a label that waits for the coming mark, and an entry of the second in progress. -/
def labelled : State := { base with
  tb := { base.tb with markLabel := some ⟨800000000, -4⟩, discipline := .locked }
  dec := { base.dec with pendingSeconds := [⟨0, 0, .locked, 0, false, none⟩] } }

/-- A labelled mark, and one in HOLDOVER. -/
theorem test_witness_LabelledMarkRelabels :
    labelled.phase = .running ∧ labelled.tb.markLabel = some ⟨800000000, -4⟩ ∧ labelled.staging.commitScheduled = false ∧
      labelled.staging.restartScheduled = false ∧
      labelled.link.output.length + (if labelled.tb.discipline = .holdover then 1 else 0) < 60 ∧
      ({ labelled with tb := { labelled.tb with discipline := .holdover } } : State).link.output.length + 1 < 60 := by decide

/-- The base device at its tick index k, with a full open set. -/
def ticking (k : Nat) : State := { base with
  tb := { base.tb with nextIndex := k, tickCount := 5119, length := 10000065 }
  asm := { base.asm with openSet := [openTick 5118 8 noSlots, openTick 5119 9 noSlots] } }

theorem test_witness_TickIssued :
    (ticking 9).phase = .running ∧ (ticking 9).tb.nextIndex < (ticking 9).tb.rate ∧ 1 ≤ (ticking 9).tb.depth := by decide

/-- An edge beyond 500 periods in the very period of tick index 1. -/
theorem test_witness_TickIssued_at_a_step :
    let s : State := { base with tb := { base.tb with period := 1000000, nextIndex := 2 } }
    takesEdge s 0 ∧ s.tb.discipline ≠ .locked ∧ 500 < (edgeError s 0).natAbs ∧
      (s.tb.nextIndex - 1) * s.tb.length / s.tb.rate = s.tb.period :=
  ⟨⟨rfl, fun _ h => by cases h⟩, by decide⟩

/-- The base device with a strobe pulse, raised SECOND_MARK lines and the code-2 interval running. -/
def pulsing : State := { base with
  tb := { base.tb with strobeUntil := some 400 }
  aux := { base.aux with
    secondMarkEnd := some 400, lines := base.aux.lines.set 0 { base.aux.lines[0] with raised := true } }
  status := { base.status with code2 := some 400 } }

theorem test_witness_PulsesAndIntervalsEnd :
    pulsing.phase = .running ∧ pulsing.tb.strobeUntil = some 400 ∧ pulsing.aux.secondMarkEnd = some 400 ∧
      pulsing.status.code2 = some 400 ∧ loaded.phase = .loaded ∧ ({ base with phase := .powered } : State).phase = .powered ∧
      base.aux.lines[(0 : Fin 4)].settings.designation = .secondMark ∧
      base.aux.lines[(1 : Fin 4)].settings.designation = .alert := by decide

/-- The base device in a discipline state before the half-point check, with the missing count given. -/
def checking (d : Discipline) (missing : Nat) (attributed : Bool) : State :=
  { base with tb := { base.tb with
    discipline := d, missingCount := missing, attributed := attributed, goodCount := 5, outlierCount := 1 } }

theorem test_witness_MissingMarkChecked :
    (∀ d ∈ [Discipline.freeRun, .acquire, .locked, .holdover], ∀ n ∈ [0, 1, 2, 3], ∀ b : Bool,
      (checking d n b).phase = .running ∧ (checking d n b).tb.halfChecked = false ∧
        (checking d n b).link.output.length < 60) ∧
    (checking .acquire 2 true).tb.attributed = true ∧ (checking .acquire 1 false).tb.attributed = false ∧
      min 3 ((checking .acquire 1 false).tb.missingCount + 1) < 3 ∧
      min 3 ((checking .acquire 2 false).tb.missingCount + 1) = 3 ∧
      min 3 ((checking .locked 3 false).tb.missingCount + 1) = 3 := by decide

/-- The base device in a discipline state with its good and outlier counts, the last edge at the clock given. -/
def edging (d : Discipline) (good outlier : Nat) (label : Option Num32) (last : Option Nat) : State :=
  { base with
    tb := { base.tb with
      discipline := d, goodCount := good, outlierCount := outlier, label := label, lastEdge := last, second := 77, tick0 := 9,
      correction := 4, missingCount := 2 }
    dec := { base.dec with pendingSeconds := [⟨76, 0, .locked, 0, false, none⟩, ⟨77, 9, .locked, 0, false, none⟩] }
    status := { base.status with code2 := some 3 } }

/-- An edge is taken when none was taken before. -/
theorem takes_first (d : Discipline) (g o : Nat) (l : Option Num32) (n : Nat) : takesEdge (edging d g o l none) n :=
  ⟨rfl, fun _ h => by cases h⟩

/-- An edge within the second in progress. -/
theorem in_second (d : Discipline) (g o : Nat) (l : Option Num32) (a : Option Nat) (n : Nat) (h : n < 10000000) :
    inSecond (edging d g o l a) n := by
  show 0 + n < 10000000
  omega

theorem test_witness_EdgeIgnored :
    (loaded.phase = .powered ∨ loaded.phase = .loaded) ∧
      (after (.ppsEdge 5) loaded).tb.earlyEdge = some ((after (.ppsEdge 5) loaded).tb.clock + 0) := by decide

theorem test_witness_EdgeIgnored_glitch :
    (edging .locked 8 0 none (some 5)).phase = .running ∧ inSecond (edging .locked 8 0 none (some 5)) 9000004 ∧
      (edging .locked 8 0 none (some 5)).tb.lastEdge = some 5 ∧
      (edging .locked 8 0 none (some 5)).tb.clock + 9000004 < 5 + 9000000 :=
  ⟨rfl, in_second _ _ _ _ _ _ (by decide), by decide⟩

/-- An edge in the period of the mark itself. -/
theorem test_witness_EdgeIgnored_at_the_mark :
    base.phase = .running ∧ base.tb.length ≤ base.tb.period + 10000000 ∧ exec .mark base = .next (after .mark base) ∧
      10000000 - (base.tb.length - base.tb.period) < (after .mark base).tb.length ∧ 2 ≤ (after .mark base).tb.length := by
  refine ⟨rfl, by decide, by rfl, by decide, by decide⟩

/-- The spacing of exactly 9,000,000 periods takes the edge. -/
theorem test_witness_takesEdge_at_the_spacing : takesEdge (edging .locked 8 0 none (some 5)) 9000005 :=
  ⟨rfl, fun a h => by cases h; decide⟩

/-- |e| of 10 and 11 in ACQUIRE, of 500 in LOCKED, and the eighth good edge. -/
theorem test_witness_EdgeUpdates :
    (∀ d g, takesEdge (edging d g 0 none none) 10 ∧ inSecond (edging d g 0 none none) 9999989 ∧
      (edging d g 0 none none).tb.label = none ∧ (edging d g 0 none none).link.output.length < 60) ∧
    (edgeError (edging .acquire 6 0 none none) 10).natAbs ≤ 10 ∧ (edging .acquire 6 0 none none).tb.goodCount + 1 < 8 ∧
    (edging .acquire 7 0 none none).tb.goodCount + 1 = 8 ∧
    (edgeError (edging .acquire 6 0 none none) 9999989).natAbs = 11 ∧
    (edgeError (edging .locked 8 3 none none) 9999500).natAbs ≤ 500 ∧
    (edgeError (edging .freeRun 0 0 none none) 500).natAbs ≤ 500 :=
  ⟨fun d g => ⟨takes_first d g 0 none 10, in_second _ _ _ _ _ _ (by decide), rfl, Nat.zero_lt_succ 59⟩, by decide⟩

theorem test_witness_OutlierInLocked :
    takesEdge (edging .locked 8 2 none none) 501 ∧ takesEdge (edging .locked 8 3 none none) 501 ∧
      inSecond (edging .locked 8 3 none none) 501 ∧
      (edging .locked 8 3 none none).tb.label = none ∧ (edging .locked 8 3 none none).tb.discipline = .locked ∧
      500 < (edgeError (edging .locked 8 3 none none) 501).natAbs ∧ (edging .locked 8 2 none none).tb.outlierCount + 1 < 4 ∧
      (edging .locked 8 3 none none).tb.outlierCount + 1 = 4 ∧ (edging .locked 8 3 none none).link.output.length < 60 :=
  ⟨takes_first _ _ _ _ _, takes_first _ _ _ _ _, in_second _ _ _ _ _ _ (by decide), by decide⟩

theorem test_witness_StepMakesTheEdgeAMark :
    let s := edging .holdover 0 0 none none
    takesEdge s 9999499 ∧ inSecond s 9999499 ∧ s.tb.label = none ∧ s.tb.discipline ≠ .locked ∧ 500 < (edgeError s 9999499).natAbs ∧
      s.staging.commitScheduled = false ∧ s.staging.restartScheduled = false ∧ s.link.output.length < 60 :=
  ⟨takes_first _ _ _ _ _, in_second _ _ _ _ _ _ (by decide), by decide⟩

/-- A label that is due already, one that renumbers the second in progress, and the two for the coming mark, in LOCKED, for an
outlier and in the other states; and a step that finds a label. -/
theorem test_witness_LabelConsumedByTheEdge :
    (∀ d l n, takesEdge (edging d 6 2 (some l) none) n ∧ (edging d 6 2 (some l) none).tb.label = some l ∧
      (edging d 6 2 (some l) none).link.output.length + 1 < 60 ∧
      (edging d 6 2 (some l) none).staging.commitScheduled = false ∧
      (edging d 6 2 (some l) none).staging.restartScheduled = false) ∧
    (∀ d l, inSecond (edging d 6 2 (some l) none) 9999500) ∧
    (edgeError (edging .acquire 6 2 (some 77) none) 500).natAbs ≤ 500 ∧
    500 < (edgeError (edging .freeRun 6 2 (some 77) none) 501).natAbs ∧
    (edging .locked 6 2 (some 77) none).tb.period + 501 < (edging .locked 6 2 (some 77) none).tb.length / 2 ∧
    (edging .holdover 6 2 (some 78) none).tb.length / 2 ≤ (edging .holdover 6 2 (some 78) none).tb.period + 9999500 ∧
    (edging .locked 6 2 (some 77) none).tb.second = 77 ∧ (78 : Num32) = 77 + 1 :=
  ⟨fun d l n => ⟨takes_first _ _ _ _ n, rfl, Nat.succ_lt_succ (Nat.zero_lt_succ 58), rfl, rfl⟩,
    fun d l => in_second _ _ _ _ _ _ (by decide), by decide⟩

/-- The eighth good edge within the second, and in the period of the coming mark. -/
theorem test_witness_LockedOnlyFromEightGoodEdges :
    (after (.ppsEdge 10) (edging .acquire 7 0 none none)).tb.discipline = .locked ∧
      (after (.ppsEdge 10000000) (edging .acquire 7 0 none none)).tb.discipline = .locked ∧
      (edging .acquire 7 0 none none).tb.discipline ≠ .locked := by decide

/-- The base device with a port in the framing, mode and policy given. -/
def receiving (p : Port) (f : PortFraming) (m : PortMode) (policy : Policy) (n : Nat) : State :=
  let x := { port m f policy (List.replicate n (entry 4 131 0)) with
    heldError := if m = .halted then some ⟨7, 131, false, false, 0, 0⟩ else none }
  match p with
  | .a => { base with portA := x }
  | .b => { base with portB := x }

theorem test_witness_PortBytesCollected :
    (receiving .a .hunt .active .skip 0).phase ≠ .off ∧ ((receiving .a .hunt .active .skip 0).port .a).framing = .hunt ∧
      (0xC2 : Byte) ≠ 0xC3 ∧
      ((receiving .b (.collect [1, 2, 3, 4]) .active .skip 0).port .b).framing = .collect [1, 2, 3, 4] ∧
      [1, 2, 3, 4].length < 5 := by decide

theorem test_witness_FrameDiscardedUnlessActive :
    (receiving .b (.collect [1, 2, 3, 4, 5]) .halted .stop 3).phase ≠ .off ∧
      ((receiving .b (.collect [1, 2, 3, 4, 5]) .halted .stop 3).port .b).framing = .collect [1, 2, 3, 4, 5] ∧
      ((receiving .b (.collect [1, 2, 3, 4, 5]) .halted .stop 3).port .b).mode ≠ .active ∧ loaded.phase ≠ .running ∧
      (after (.sampleFrameByte .a 0xC3 5) loaded).phase ≠ .running ∧ loaded.portA.mode = .disabled ∧
      loaded.portB.mode = .disabled := by decide

/-- A full FIFO, a place for one entry, a good and a bad check under each policy. -/
theorem test_witness_FrameArrivesInActive :
    (∀ p ∈ [Port.a, .b], ∀ x ∈ [Policy.skip, .stop], ∀ n ∈ [7, 31, 32],
      (receiving p (.collect [0x7C, 131, 0x80, 0, 1]) .active x n).phase ≠ .off ∧
      ((receiving p (.collect [0x7C, 131, 0x80, 0, 1]) .active x n).port p).framing = .collect [0x7C, 131, 0x80, 0, 1] ∧
      ((receiving p (.collect [0x7C, 131, 0x80, 0, 1]) .active x n).port p).mode = .active ∧
      ((receiving p (.collect [0x7C, 131, 0x80, 0, 1]) .active x n).port p).settings.policy = x ∧
      ((receiving p (.collect [0x7C, 131, 0x80, 0, 1]) .active x n).port p).fifo.length = n ∧
      (receiving p (.collect [0x7C, 131, 0x80, 0, 1]) .active x n).link.output.length + 1 < 60) ∧
    crc8 [0x7C, 131, 0x80, 0, 1] = 0x0F ∧ crc8 [0x7C, 131, 0x80, 0, 1] ≠ 0x10 := by decide +kernel

theorem test_witness_PortBytesCollected_abandon :
    (∀ m ∈ [PortMode.active, .halted], (receiving .a (.collect []) m .skip 0).phase ≠ .off ∧
      ((receiving .a (.collect []) m .skip 0).port .a).framing = .collect [] ∧
      ((receiving .a (.collect []) m .skip 0).port .a).mode = m) := by decide

/-- A request of the name given is ready to be taken. -/
theorem ready (s : State) (name : RequestName) (params : List Byte) (h1 : s.phase = .running) (h2 : s.link.heldSave = none)
    (h3 : s.link.output = []) (h4 : name.lengthOk params = true) : Ready (asked s name params) name (request name params) :=
  ⟨h1, h2, ⟨[], rfl⟩, by rw [show (asked s name params).link.output = [] from h3]; cases name <;> decide, rfl, h4⟩

theorem test_witness_PortRequests_enable :
    Ready (asked (receiving .b .hunt .halted .stop 0) .portEnable [1, 0]) .portEnable (request .portEnable [portByte .b, 0]) ∧
      ((receiving .b .hunt .halted .stop 0).port .b).mode = .halted ∧
      Ready (asked (receiving .a .hunt .active .stop 3) .portEnable [0, 1]) .portEnable (request .portEnable [portByte .a, 1]) ∧
      ((receiving .a .hunt .active .stop 3).port .a).mode ≠ .halted :=
  ⟨ready _ _ _ rfl rfl rfl rfl, rfl, ready _ _ _ rfl rfl rfl rfl, by decide⟩

/-- A threshold reached by the count, and one next to an admitted value. -/
theorem test_witness_PortRequests_set :
    Ready (asked (receiving .b .hunt .disabled .stop 8) .portSet [1, 8, 1]) .portSet (request .portSet [portByte .b, 8, 1]) ∧
      Ready (asked (receiving .b .hunt .disabled .stop 8) .portSet [1, 25, 0]) .portSet (request .portSet [portByte .b, 25, 0]) ∧
      (25 : Byte) ≠ 8 ∧ (25 : Byte) ≠ 16 ∧ (25 : Byte) ≠ 24 :=
  ⟨ready _ _ _ rfl rfl rfl rfl, ready _ _ _ rfl rfl rfl rfl, by decide⟩

theorem test_witness_PortRequests_reset :
    ∀ m : PortMode, Ready (asked (receiving .a .hunt m .stop 3) .portReset [0]) .portReset (request .portReset [portByte .a]) ∧
      (asked (receiving .a .hunt m .stop 3) .portReset [0]).link.output.length + 1 < 60 ∧
      ((asked (receiving .a .hunt m .stop 3) .portReset [0]).port .a).mode = m :=
  fun _ => ⟨ready _ _ _ rfl rfl rfl rfl, Nat.succ_lt_succ (Nat.zero_lt_succ 58), rfl⟩

/-- A port 2, a setting 2, a policy 2 and a threshold 25, on a HALTED port as on any other. -/
theorem test_witness_PortRequests_range :
    (∀ (m : PortMode) (x y z : Byte), Ready (asked (receiving .a .hunt m .stop 3) .portEnable [x, y]) .portEnable
        (request .portEnable [x, y]) ∧
      Ready (asked (receiving .a .hunt m .stop 3) .portSet [x, y, z]) .portSet (request .portSet [x, y, z]) ∧
      Ready (asked (receiving .a .hunt m .stop 3) .portReset [x]) .portReset (request .portReset [x])) ∧
    2 ≤ (2 : Byte).toNat ∧ ((25 : Byte) ≠ 8 ∧ (25 : Byte) ≠ 16 ∧ (25 : Byte) ≠ 24) :=
  ⟨fun _ _ _ _ => ⟨ready _ _ _ rfl rfl rfl rfl, ready _ _ _ rfl rfl rfl rfl, ready _ _ _ rfl rfl rfl rfl⟩, by decide⟩

/-- The boundary of section 3.9 with one entry at the front of FIFO A, port A served. -/
def taking (e : FifoEntry) (slot : Slot) : State := { boundary with
  portA := port .active .hunt .skip [e, entry 9 9 9]
  asm := { boundary.asm with openSet := [openTick 5119 9 (noSlots.set 0 slot), openTick 5120 0 (noSlots.set 3 slot)] }
  staging := { boundary.staging with active := { config with
    channels := config.channels.set 3 { config.channels[3] with port := .a, source := 5 } } } }

theorem test_witness_EntryTaken :
    let s (e : FifoEntry) (x : Slot) := taking e x
    (∀ x ∈ [Slot.empty, .filled 4 .a 0], (s (entry 0 255 11) x).asm.closeQueue = [] ∧ served (s (entry 0 255 11) x) .a ∧
      ((s (entry 0 255 11) x).port .a).fifo = entry 0 255 11 :: [entry 9 9 9]) ∧
    (entry 0 255 11).check = .good ∧ ({ entry 0 255 11 with check := .bad } : FifoEntry).check = .bad ∧
    (∀ m : Fin 16, ¬(((s (entry 9 255 11) .empty).staging.active.channels[m]).enabled = true ∧
      ((s (entry 9 255 11) .empty).staging.active.channels[m]).port = .a ∧
      ((s (entry 9 255 11) .empty).staging.active.channels[m]).source = 9)) ∧
    claims (s (entry 0 255 11) .empty) 0 .a 0 ∧ claims (s (entry 5 255 11) .empty) 3 .a 5 ∧
    (∀ t ∈ (s (entry 0 7 11) .empty).asm.openSet, BitVec.truncate 8 t.id.count ≠ (7 : Byte)) ∧
    (s (entry 5 255 11) .empty).asm.openSet = [] ++ openTick 5119 9 noSlots :: [openTick 5120 0 noSlots] ∧
    BitVec.truncate 8 (openTick 5119 9 noSlots).id.count = (255 : Byte) ∧
    ((s (entry 5 255 11) .empty).staging.active.channels[3]).kind ≠ .axis ∧ (openTick 5119 9 noSlots).id.index ≠ 0 ∧
    (noSlots.set 0 (.filled 4 .a 0))[0] ≠ .empty ∧ noSlots[0] = .empty := by
  unfold served claims
  decide +kernel

/-- A tie, where the quotient is rounded away from zero. -/
theorem test_witness_DivisionRoundsWithinBounds :
    0 < 2 ∧ 2 * (divRound .round (-3) 2 * 2 - (-3)).natAbs = 2 ∧ divRound .round (-3) 2 = -2 := by decide

/-- The close in progress: its configuration is the one of section 3.9. -/
def context : CloseContext := ⟨config, 0, 200, #v[false, false], 0⟩

/-- The three axis slots and the scalar and temperature slots filled. -/
def fullSlots : Vector Slot 16 :=
  ((((noSlots.set 0 (.filled 8388607 .a 0)).set 1 (.filled (-8388608) .a 1)).set 2 (.filled 100 .a 2)).set 3
    (.filled 54000175 .b 0)).set 4 (.filled 32767 .b 1)

/-- The station in the close of a tick, with further closed ticks waiting. -/
def closing (rest : List OpenTick) : State := { station with
  asm := { station.asm with closeQueue := openTick 5118 0 fullSlots :: rest, closing := some context } }

theorem test_witness_TickCloseEndsTheClose :
    (closing []).asm.closing = some context ∧ (closing []).asm.closeQueue = openTick 5118 0 fullSlots :: [] ∧
      (closing []).phase ≠ .off ∧ (closing [openTick 5119 9 noSlots]).asm.closing = some context ∧
      (closing [openTick 5119 9 noSlots]).asm.closeQueue = openTick 5118 0 fullSlots :: [openTick 5119 9 noSlots] := by
  decide +kernel

/-- The same close with a slot that no channel claims any more, and a TEMPERATURE slot filed off tick index 0. -/
theorem test_witness_CloseRunsItsStages :
    (closing []).asm.closing = some context ∧ (closing []).asm.closeQueue = openTick 5118 0 fullSlots :: [] ∧
      (closing []).phase ≠ .off ∧ emptied (config.channels[(9 : Fin 16)]) 0 (.filled 1 .a 9) = some .unclaimed ∧
      emptied (config.channels[(4 : Fin 16)]) 3 (.filled 1 .b 1) = some .unexpected ∧
      emptied (config.channels[(4 : Fin 16)]) 0 (.filled 1 .b 1) = none := by decide +kernel

/-- The ends of the range: 32,767 stands and 32,768 saturates. -/
theorem test_witness_StageATemperature :
    (context.config.channels[(4 : Fin 16)]).enabled = true ∧ (context.config.channels[(4 : Fin 16)]).kind = .temperature ∧
      fullSlots[(4 : Fin 16)] = .filled 32767 .b 1 ∧
      (noSlots.set 4 (.filled 32768 .b 1))[(4 : Fin 16)] = .filled 32768 .b 1 ∧ station.link.output.length < 60 ∧
      divRound .round (32767 * 65536) 65536 + 0 ≤ 32767 ∧ 32767 < divRound .round (32768 * 65536) 65536 + 0 := by decide +kernel

/-- A disabled channel, one of another kind, an EMPTY and a MISSING slot in the first pass. -/
theorem test_witness_StageATemperature_others :
    (context.config.channels[(9 : Fin 16)]).enabled = false ∧ (context.config.channels[(3 : Fin 16)]).kind ≠ .temperature ∧
      noSlots[(4 : Fin 16)] = .empty ∧
      (noSlots.set 4 (.missing true false .b 1))[(4 : Fin 16)] = .missing true false .b 1 := by decide +kernel

/-- A segment of each direction with temperatures at its ends, inside and outside. -/
theorem test_witness_PlacementInASegment :
    let a : Segment := ⟨0, 256, 32000, 2000, .ascending⟩
    let d : Segment := ⟨0, 2, -32768, 1, .descending⟩
    (2 ≤ a.length ∧ 1 ≤ a.step ∧ a.direction = .ascending ∧ (a.start ≤ 32000 ∧ (31999 : Int) < a.start) ∧
      a.start + 255 * 2000 < 542001 ∧ 32767 < a.start + 255 * 2000) ∧
    (2 ≤ d.length ∧ 1 ≤ d.step ∧ d.direction = .descending ∧ d.start - 1 ≤ -32769 ∧ d.start < -32767 ∧
      (-32770 : Int) < d.start - 1) := by decide

/-- A store with one BAD entry. -/
def stored : Store := [(100, ⟨1200, 840, .good⟩), (101, ⟨2700, 1260, .good⟩), (102, ⟨3900, 1500, .bad⟩)]

/-- The segment of section 5.8. -/
def segment : Segment := ⟨100, 9, 1000, 500, .ascending⟩

theorem test_witness_LookupInterpolates :
    stored.firstBad (segment.addresses ⟨0, 234, false⟩) = none ∧ stored.firstBad (segment.addresses ⟨8, 0, false⟩) = none ∧
      0 + 1 < segment.length ∧ segment.length ≤ 8 + 1 ∧ stored.firstBad (segment.addresses ⟨0, 0, true⟩) = none ∧
      499 < 500 := by decide

/-- The station with a fresh held temperature for channel 4 and a store with a BAD entry. -/
def warm (good : Option LastGood) : State := { station with
  store := stored
  corr := { station.corr with
    held := station.corr.held.set 4 (some ⟨1834, 198, config.channels[4]⟩)
    lastGood := station.corr.lastGood.set 0 good } }

/-- No held temperature; a fresh and a stale one; a lookup that is clamped; one that uses a BAD entry and one that does not; and the
slots of a close. -/
theorem test_witness_StageBCorrectsOrFallsBack :
    station.corr.held[(4 : Fin 16)] = none ∧ (warm none).corr.held[(4 : Fin 16)] = some ⟨1834, 198, config.channels[4]⟩ ∧
      (context.config.channels[(4 : Fin 16)]).staleness = some 3 ∧ (200 - 198 : Num32).toNat ≤ 3 ∧ 3 < (202 - 198 : Num32).toNat ∧
      (segment.place 1834).clamped = false ∧ (segment.place 999).clamped = true ∧
      (warm none).store.firstBad (segment.addresses (segment.place 1834)) = some 102 ∧
      (warm none).store.lookup segment .round (segment.place 1234) = .good 1902 1037 ∧
      (warm none).link.output.length < 60 ∧ noSlots[(0 : Fin 16)] = .empty ∧
      fullSlots[(0 : Fin 16)] = .filled 8388607 .a 0 ∧
      (noSlots.set 0 (.missing true true .a 0))[(0 : Fin 16)] = .missing true true .a 0 ∧
      (config.channels[(0 : Fin 16)]).enabled = true ∧ (config.channels[(0 : Fin 16)]).kind ≠ .temperature ∧
      (config.channels[(0 : Fin 16)]).segment = none ∧ (config.channels[(9 : Fin 16)]).enabled = false := by decide +kernel

/-- Every operand at the end of its range. -/
theorem test_witness_DivisionRoundsWithinBounds_ends :
    (-8388608 : Int).natAbs ≤ 8388608 ∧ (-32768 : Int).natAbs ≤ 32768 ∧
      ({ ChannelDescriptor.default 0 with scale := -8388608, offset := 8388607 } : ChannelDescriptor).scale.natAbs ≤ 8388608 := by
  decide

/-- A triad of axes 0, 1 and 2 with the identity matrix and the x offset given. -/
def triad (offset : Int) (limit : Nat) : TriadDescriptor :=
  { TriadDescriptor.default ⟨0, 1, 2⟩ with enabled := true, offset := ⟨offset, 0, 0⟩, limit := limit }

/-- The corrected samples of the three axes, the first as given. -/
def samples (x : Option Int) : Vector CorrectedSample 16 :=
  (((Vector.replicate 16 ⟨none, 0⟩).set 0 ⟨x, 16⟩).set 1 ⟨some 20, 0⟩).set 2 ⟨some 30, 0⟩

/-- All present, and a missing axis. -/
theorem test_witness_StageCSaturates :
    (samples (some 2147483647))[(triad 0 0).axes.x].value = some 2147483647 ∧
      (samples (some 2147483647))[(triad 0 0).axes.y].value = some 20 ∧
      (samples (some 2147483647))[(triad 0 0).axes.z].value = some 30 ∧ (samples none)[(triad 0 0).axes.x].value = none ∧
      station.link.output.length < 60 := by decide +kernel

/-- X and Z saturate at opposite ends, Y at the end of the range does not. -/
theorem test_stageC_saturates_two_components :
    let d : TriadDescriptor := { triad 1 0 with offset := ⟨1, 2147483627, -2147483648⟩, rowZ := ⟨-4194304, 0, 0⟩ }
    let r := station.combine d 0 ⟨0, 0, 0⟩ (samples (some 2147483647))
    r.2 = ⟨some ⟨2147483647, 2147483647, -2147483648⟩, 16 + 128⟩ ∧
      r.1.status.counters[(Counter.saturations 0).index] = 2 := by decide +kernel

/-- A screen with a reference and a run, CLEAR or with the suspect given. -/
def screen (p : Option Vec3) (run : Nat) : Screen :=
  ⟨some ⟨0, 0, 0⟩, p.map fun v => ⟨v, 2, ⟨5119, 9, 999⟩⟩, run, some ⟨0, 1, 2⟩, false⟩

/-- A distance of exactly L is within L. -/
theorem test_witness_ScreenInClear :
    (screen none 2).suspect = none ∧ (⟨0, 100, 0⟩ : Vec3).distance ⟨0, 0, 0⟩ ≤ 100 ∧
      100 < (⟨0, 101, 0⟩ : Vec3).distance ⟨0, 0, 0⟩ ∧ (screen none 2).reference = some ⟨0, 0, 0⟩ ∧
      (screen (some ⟨500, 0, 0⟩) 2).suspect = some ⟨⟨500, 0, 0⟩, 2, ⟨5119, 9, 999⟩⟩ := by decide

/-- A station whose triad 0 holds the suspect (500, 0, 0), with L = 100. -/
def suspecting (run : Nat) : State := { station with screens := station.screens.set 0 (screen (some ⟨500, 0, 0⟩) run) }

/-- The close of the suspecting station. -/
def suspectContext : CloseContext := { context with config := { config with triads := config.triads.set 0 (triad 0 100) } }

/-- Outcomes within L of the reference, within L of the suspect, beyond L of both, and a gap. -/
theorem test_witness_ScreenInSuspect :
    let d := suspectContext.config.triads[(0 : Fin 2)]
    d.enabled = true ∧ 0 < d.limit ∧
    (∀ x ∈ [some (100 : Int), some 400, some 1000, none],
      ((suspecting 2).combine d 0 ⟨5120, 0, 1000⟩ (samples x)).1 = suspecting 2 ∧
      ((suspecting 2).combine d 0 ⟨5120, 0, 1000⟩ (samples x)).2.vector = x.map fun v => ⟨v, 20, 30⟩) ∧
    ((suspecting 2).screens[(0 : Fin 2)]).suspect = some ⟨⟨500, 0, 0⟩, 2, ⟨5119, 9, 999⟩⟩ ∧
    ((suspecting 2).screens[(0 : Fin 2)]).reference = some ⟨0, 0, 0⟩ ∧ ((suspecting 2).screens[(0 : Fin 2)]).run ≤ 3 ∧
    (suspecting 2).link.output.length < 60 ∧
    ((⟨100, 20, 30⟩ : Vec3).distance ⟨0, 0, 0⟩ ≤ d.limit ∧ d.limit < (⟨400, 20, 30⟩ : Vec3).distance ⟨0, 0, 0⟩ ∧
      (⟨400, 20, 30⟩ : Vec3).distance ⟨500, 0, 0⟩ ≤ d.limit ∧ d.limit < (⟨1000, 20, 30⟩ : Vec3).distance ⟨500, 0, 0⟩) ∧
    ((suspecting 1).screens[(0 : Fin 2)]).run + 1 < 3 ∧ 3 ≤ ((suspecting 2).screens[(0 : Fin 2)]).run + 1 := by decide +kernel

/-- The screen of the station under axes 0, 1 and 2, and under others; a pending clear that waits; a triad that is off. -/
theorem test_witness_TriadsPreparedAndRun :
    foreign ((suspecting 1).screens[(0 : Fin 2)]) (suspectContext.config.triads[(0 : Fin 2)]) = false ∧
      foreign { screen none 1 with binding := some ⟨3, 1, 2⟩ } (suspectContext.config.triads[(0 : Fin 2)]) = true ∧
      ((suspecting 1).screens[(0 : Fin 2)]).suspect = some ⟨⟨500, 0, 0⟩, 2, ⟨5119, 9, 999⟩⟩ ∧
      suspectContext.clears[(0 : Fin 2)] = false ∧
      ({ suspectContext with clears := #v[true, false] } : CloseContext).clears[(0 : Fin 2)] = true ∧
      (suspectContext.config.triads[(1 : Fin 2)]).enabled = false ∧ (suspectContext.config.triads[(0 : Fin 2)]).enabled = true ∧
      (station.screens[(0 : Fin 2)]).suspect = none := by decide +kernel

/-- The second filter of section 7.2 with the fraction given. -/
def fivePlaces (q : Nat) : Filter := ⟨5, q, Vector.ofFn fun i => #[1, 2, 4, 2, 1].getD i.val 0⟩

/-- The tick history of section 7.2, the gap at the fourth place. -/
def history : List TickEntry :=
  [⟨98, ⟨some ⟨100, 0, 0⟩, 0⟩, 0⟩, ⟨99, ⟨some ⟨104, 0, 0⟩, 16⟩, 0⟩, ⟨100, ⟨some ⟨110, 0, 0⟩, 0⟩, 0⟩, ⟨101, ⟨none, 1⟩, 0⟩,
    ⟨102, ⟨some ⟨96, 0, 0⟩, 0⟩, 0⟩]

/-- The places of section 7.2: full weight 10, present weight 8, the test passed with 819 and failed with 820. -/
theorem test_witness_SecondValueIsTheWeightedMean :
    let places := List.range 5
    let entry (i : Nat) : Option TickEntry := history.find? fun e => e.count == (98 : Num32) + BitVec.ofNat 32 i
    let found (i : Nat) : Option Vec3 := (entry i).bind fun e => e.outcome.vector
    let full := (places.map (weight (fivePlaces 819))).sum
    let present := (places.map fun i => if (found i).isSome then weight (fivePlaces 819) i else 0).sum
    full = 10 ∧ present = 8 ∧ full * 819 ≤ present * 1024 ∧ present * 1024 < full * 820 := by decide +kernel

/-- The greatest components, and differences at and beyond the ends. -/
theorem test_witness_DeltaFOfASecond :
    (-2147483648 : Int).natAbs ≤ 2147483648 ∧ (1 : Int) ≤ 3 * (-2147483648) * (-2147483648) ∧
      -8388607 ≤ (8388607 : Int) - 0 ∧ (8388607 : Int) < 8388608 - 0 ∧ (-8388608 : Int) - 0 < -8388607 := by decide

/-- Histories within 64, and both sides of the step point and of the point of a second. -/
theorem test_witness_DecimationStep :
    (∀ k : Fin 2, (station.dec.tickHistory[k]).length ≤ 64) ∧ beforePoint (some 5119) 5118 = true ∧
      beforePoint (some 5118) 5118 = false ∧ beforePoint none 5118 = false := by decide

/-- An entry of the second that tick 5,118 begins, of either series, delivered or not. -/
def waitingSecond (second : Num32) (old : Bool) (samples : Option Tick0Samples) : PendingSecond :=
  ⟨second, 5118, .locked, 0, old, samples⟩

theorem test_witness_SecondComputed :
    scalarOf config = some 3 ∧ scalarOf Configuration.default = none ∧ temperaturesOf config = [4] ∧
      (waitingSecond 89 false none).samples = none ∧ (waitingSecond 89 true none).oldSeries = true ∧
      (waitingSecond 89 false none).second.toNat % 60 = 29 ∧
      (∀ x ∈ [none, some ((3 : Fin 16), (⟨some 54000000, 0⟩ : CorrectedSample)), some (3, ⟨none, 256⟩)],
        ((waitingSecond 13 false (some ⟨0, x, [(4, ⟨some 1234, 0⟩)]⟩)).samples.map Tick0Samples.scalar) = some x) := by
  decide +kernel

/-- The schedule before and at the point of minute 1 with the default filter, whose half-width is 30; and with no minute due. -/
theorem test_witness_MinutesFormed :
    let s (m : Option Nat) : State := { station with dec := { station.dec with nextMinute := m } }
    (s none).dec.nextMinute = none ∧ (s (some 1)).dec.nextMinute = some 1 ∧
      (config.minute.length - 1) / 2 = 30 ∧ before 89 (BitVec.ofNat 32 (60 * 1) + 30) = true ∧
      before 90 (BitVec.ofNat 32 (60 * 1) + 30) = false := by decide +kernel

/-- Second 90 forms minute 1, and second 89 forms none. -/
theorem test_minute_is_formed_at_its_point :
    let s : State := { station with dec := { station.dec with nextMinute := some 1 } }
    (s.scheduleMinutes config 90).dec.nextMinute = some 2 ∧ (s.scheduleMinutes config 90).link.output.length = 1 ∧
      s.scheduleMinutes config 89 = s := by decide +kernel

/-- The base device with the link framing given. -/
def framing (f : LinkFraming) : State := { base with link := { base.link with framing := f } }

/-- LEN 250 and 251, the last byte but one, a framing error and a gap. -/
theorem test_witness_UpstreamBytesCollected :
    (∀ f, (framing f).phase = .loaded ∨ (framing f).phase = .running) ∧ (framing .hunt).link.framing = .hunt ∧
      (0xA4 : Byte) ≠ 0xA5 ∧ (framing .length).link.framing = .length ∧ (250 : Byte).toNat ≤ 250 ∧
      250 < (251 : Byte).toNat ∧ (framing (.collect 2 [1, 9, 3])).link.framing = .collect 2 [1, 9, 3] ∧
      [1, 9, 3].length + 1 < 2 + 3 ∧ (framing .length).link.framing ≠ .hunt :=
  ⟨fun _ => .inr rfl, by decide⟩

/-- The bytes of an IDENT request with its CRC. -/
def identFrame : List Byte :=
  [0x01, 9, RequestName.ident.code] ++ natBytes 2 (crc16 [2, 0x01, 9, RequestName.ident.code]).toNat

/-- The base device one byte before the end of the frame of `identFrame`, on trial, with requests waiting. -/
def lastByte (n : Nat) : State := { base with link := { base.link with
  framing := .collect 2 (identFrame.take 4)
  requests := List.replicate n (request .ident [])
  rateState := .trial
  trialStart := 10
  rate := 24160 } }

/-- A wrong CRC; a frame of another KIND; a request with three and with four requests waiting, in time to the last period. -/
theorem test_witness_UpstreamFrameArrives :
    (∀ n, (lastByte n).phase = .running ∧ (lastByte n).link.framing = .collect 2 (identFrame.take 4) ∧
      (lastByte n).link.rateState = .trial ∧ (lastByte n).tb.clock + 100000010 ≤ (lastByte n).link.trialStart + 100000000) ∧
    (identFrame.take 4).length = 2 + 2 ∧
    natBytes 2 (crc16 (BitVec.ofNat 8 2 :: identFrame.take 3)).toNat = identFrame.drop 3 ∧
    natBytes 2 (crc16 (BitVec.ofNat 8 2 :: identFrame.take 3)).toNat ≠ (identFrame.take 4 ++ [0]).drop 3 ∧
    natBytes 2 (crc16 [2, 0x02, 9, 7]).toNat = [0xCD, 0xB7] ∧
    identFrame = 0x01 :: 9 :: RequestName.ident.code :: ([] ++ identFrame.drop 3) ∧ (identFrame.drop 3).length = 2 ∧
    (lastByte 3).link.requests.length < 4 ∧ 4 ≤ (lastByte 4).link.requests.length :=
  ⟨fun _ => ⟨rfl, rfl, rfl, by show 0 + 100000010 ≤ 10 + 100000000; decide⟩, by decide +kernel⟩

/-- The device whose trial runs out with the last byte of the frame outstanding. -/
def expired : State := after .linkTrialExpiry (lastByte 0)

/-- The late frame of that very period. -/
theorem test_witness_UpstreamFrameArrives_late :
    expired.phase = .running ∧ expired.link.framing = .hunt ∧
      expired.link.late = some ⟨2, identFrame.take 4, expired.tb.clock + 0⟩ := by decide +kernel

/-- A frame that arrives together with the expiry: the expiry first, it is a request and confirms nothing; itself first, it confirms;
one period later it is lost (R173). -/
theorem test_frame_together_with_the_expiry :
    (let t := after (.upstreamFrameArrival (identFrame.getLastD 0) 0) expired
     t.link.requests.length = 1 ∧ t.link.confirmedRate = 12080 ∧ t.link.rate = 12080 ∧ t.link.late = none) ∧
    (let t := after (.upstreamFrameArrival (identFrame.getLastD 0) 100000010) (lastByte 0)
     t.link.requests.length = 1 ∧ t.link.confirmedRate = 24160 ∧ t.link.rateState = .idle) ∧
    (after (.upstreamFrameByte (identFrame.getLastD 0) 1) expired).link.requests = [] ∧
    timely (.upstreamFrameArrival (identFrame.getLastD 0) 0) expired = true ∧ timely (.upstreamFrameArrival (identFrame.getLastD 0) 1) expired = false := by
  decide +kernel

/-- The base device with an output queue, sending or not, with a change of the rate in the state given. -/
def transmitting (frames : List Frame) (sending hold revert : Bool) (state : RateState) (waiting : Option Count16)
    (held : Option Response) : State :=
  { base with link := { base.link with
    output := frames, sending := sending, holdIn := hold, revertPending := revert, rateState := state, waitingRate := waiting,
    heldSave := held, rate := 24160 } }

/-- The SAVE response that waits for a place. -/
def heldReply : Response := ⟨1, 0x50, .ok, 0, []⟩

theorem test_witness_FramesSent :
    (∀ l a b c r m h, (transmitting l a b c r m h).phase = .loaded ∨ (transmitting l a b c r m h).phase = .running) ∧
    (let s := transmitting [reply] false false false .idle none none
     s.link.sending = false ∧ s.link.output ≠ [] ∧ s.link.holdIn = false) ∧
    (transmitting [reply] false true false .idle none none).link.holdIn = true ∧
    (let s := transmitting [reply, reply] true true false .waiting (some 5) none
     s.link.sending = true ∧ s.link.output = reply :: [reply] ∧ s.link.heldSave = none ∧ s.link.revertPending = false ∧
       reply.tied = false) ∧
    (let s := transmitting [{ reply with tied := true }] true false false .waiting (some 24161) none
     s.link.output = { reply with tied := true } :: [] ∧ s.link.rateState = .waiting ∧ s.link.waitingRate = some 24161) ∧
    (transmitting [reply] true false true .idle none none).link.revertPending = true ∧
    (transmitting [reply] true false false .idle none (some heldReply)).link.heldSave = some heldReply ∧
    (let s := transmitting [{ reply with tied := true }] true false true .waiting (some 24161) (some heldReply)
     s.link.sending = true ∧ s.link.heldSave = some heldReply ∧ s.link.revertPending = true ∧ s.link.rateState = .waiting ∧
       s.link.waitingRate = some 24161) :=
  ⟨fun _ _ _ _ _ _ _ => .inr rfl, by decide⟩

theorem test_witness_LinkRateChanges_expiry :
    ∀ sending : Bool, (transmitting [reply] sending false false .trial none none).phase = .running ∧
      (transmitting [reply] sending false false .trial none none).link.rateState = .trial ∧
      (transmitting [reply] sending false false .trial none none).link.output.length < 60 ∧
      (transmitting [reply] sending false false .trial none none).link.sending = sending := by decide

/-- The device with a LINK_RATE request in a state of the change. -/
def rating (state : RateState) (waiting : Option Count16) (m : Count16) : State :=
  asked (transmitting [] false false false state waiting none) .linkRate (natBytes 2 m.toNat)

theorem test_witness_LinkRateChanges :
    (∀ m : Count16, Ready (rating .waiting (some 7) m) .linkRate (request .linkRate (natBytes 2 m.toNat))) ∧
      (rating .waiting (some 7) 12080).link.confirmedRate = 12080 ∧ (rating .waiting (some 7) 5).link.rateState = .waiting ∧
      (5 : Count16) ≠ (rating .waiting (some 7) 5).link.confirmedRate ∧ (rating .idle none 5).link.rateState = .idle :=
  ⟨fun _ => ready _ _ _ rfl rfl rfl rfl, by decide⟩

/-- A full data area whose youngest second record lies between other frames, and one without second records. -/
def crowded (second : Bool) : State := { base with link := { base.link with
  output := List.replicate 58 reply ++ [⟨if second then .second record else .minute minute, false⟩] ++ [reply]
  secondsLost := 65530
  minutesLost := 65535 } }

/-- The limits: 59 places occupied admit, 60 do not. -/
theorem test_witness_DataRecordOffered :
    (transmitting (List.replicate 59 reply) false false false .idle none none).link.output.length < 60 ∧
    60 ≤ (crowded true).link.output.length ∧ (crowded true).link.sending = false ∧
    (crowded true).link.output = List.replicate 58 reply ++ ⟨.second record, false⟩ :: [reply] ∧
    (∀ f ∈ [reply], ∀ x, f.body ≠ .second x) ∧
    ((crowded true).link.sending = true → List.replicate 58 reply ≠ []) ∧
    (∀ f ∈ (crowded false).link.output.drop (if (crowded false).link.sending then 1 else 0), ∀ x, f.body ≠ .second x) := by
  refine ⟨by decide, by decide, rfl, rfl, ?_, (fun h => by cases h), ?_⟩
  · intro f hf x
    rw [List.mem_singleton.mp hf]
    exact Body.noConfusion
  · intro f hf x
    replace hf : f ∈ List.replicate 58 reply ++ [⟨.minute minute, false⟩] ++ [reply] := hf
    simp only [List.mem_append, List.mem_replicate, List.mem_singleton] at hf
    rcases hf with (⟨-, rfl⟩ | rfl) | rfl <;> simp [reply]

theorem test_witness_RequestsTakenInOrder :
    requestRow .ident = some .ident ∧ requestRow .filterGet = some .filterGet ∧
      (asked base .ident [0]).link.requests = request .ident [0] :: [] ∧ (asked base .ident [0]).phase = .running ∧
      (asked base .ident [0]).link.heldSave = none ∧ RequestName.ident.lengthOk (request .ident [0]).params = false ∧
      (asked loaded .ident []).phase ≠ .running ∧ RequestName.ident.code ≠ RequestName.filterGet.code ∧
      (asked base .filterGet [0, 0]).link.requests = request .filterGet [0, 0] :: [] ∧
      63 ≤ (transmitting (List.replicate 63 reply) false false false .idle none none).link.output.length ∧
      64 ≤ (transmitting (List.replicate 64 reply) false false false .idle none none).link.output.length := by decide

theorem test_witness_RequestsTakenInOrder_unknown : ∀ x : RequestName, (0xEE : Byte) ≠ x.code := by
  intro x
  cases x <;> decide

/-- A device whose filters have 121 and 122 weights. -/
def filtered : State := { base with staging := { base.staging with
  active := { Configuration.default with
    second := { Filter.defaultSecond with length := 121 }, minute := { Filter.defaultMinute with length := 122 } } } }

theorem test_witness_ReadsChangeNothing :
    (∀ s : State, s.phase = .running → s.link.heldSave = none → s.link.output = [] →
      Ready (asked s .ident []) .ident (request .ident []) ∧
      (∀ b, Ready (asked s .status [b]) .status (request .status [b])) ∧
      (∀ n c, Ready (asked s .channelGet [n, c]) .channelGet (request .channelGet [n, c])) ∧
      (∀ k c, Ready (asked s .triadGet [k, c]) .triadGet (request .triadGet [k, c])) ∧
      (∀ f c, Ready (asked s .filterGet [f, c]) .filterGet (request .filterGet [f, c])) ∧
      (∀ g, Ready (asked s .countersRead [g]) .countersRead (request .countersRead [g])) ∧
      Ready (asked s .faultRead []) .faultRead (request .faultRead []) ∧
      Ready (asked s .storeRead (natBytes 2 2032 ++ natBytes 1 16)) .storeRead
        (request .storeRead (natBytes 2 2032 ++ natBytes 1 16))) ∧
    filtered.phase = .running ∧ (filtered.staging.active.filter .second).length ≤ 121 ∧
    122 ≤ (filtered.staging.active.filter .minute).length ∧ 2032 ≤ 2047 ∧ 2032 + 16 ≤ 2048 := by
  refine ⟨fun s h1 h2 h3 => ⟨ready s _ _ h1 h2 h3 rfl, fun _ => ready s _ _ h1 h2 h3 rfl, fun _ _ => ready s _ _ h1 h2 h3 rfl,
    fun _ _ => ready s _ _ h1 h2 h3 rfl, fun _ _ => ready s _ _ h1 h2 h3 rfl, fun _ => ready s _ _ h1 h2 h3 rfl,
    ready s _ _ h1 h2 h3 rfl, ready s _ _ h1 h2 h3 rfl⟩, by decide⟩

/-- The first numbers beyond each reading request's values. -/
theorem test_witness_ReadsChangeNothing_range :
    (∀ a n : Nat, Ready (asked base .storeRead (natBytes 2 a ++ natBytes 1 n)) .storeRead
      (request .storeRead (natBytes 2 a ++ natBytes 1 n))) ∧
    5 ≤ (5 : Byte).toNat ∧ 16 ≤ (16 : Byte).toNat ∧ 2 ≤ (2 : Byte).toNat ∧ 7 ≤ (7 : Byte).toNat ∧
    2047 < 2048 ∧ 2048 < 2033 + 16 ∧ 16 < 17 :=
  ⟨fun _ _ => ready base _ _ rfl rfl rfl rfl, by decide⟩

/-- Values at both ends of their ranges and next to them, for each request. -/
theorem test_witness_SettingRequests :
    (∀ n : Num32, Ready (asked base .timeLabel (natBytes 4 n.toNat)) .timeLabel (request .timeLabel (natBytes 4 n.toNat))) ∧
    (∀ r d h : Nat, Ready (asked base .timebaseSet (natBytes 1 r ++ natBytes 1 d ++ natBytes 4 h)) .timebaseSet
      (request .timebaseSet (natBytes 1 r ++ natBytes 1 d ++ natBytes 4 h))) ∧
    (∀ m : Byte, Ready (asked base .outputSet [m]) .outputSet (request .outputSet [m]) ∧
      Ready (asked base .captureMaskSet [m]) .captureMaskSet (request .captureMaskSet [m]) ∧
      Ready (asked base .markerSet [m]) .markerSet (request .markerSet [m])) ∧
    (∀ m : Count16, Ready (asked base .alertMaskSet (natBytes 2 m.toNat)) .alertMaskSet
      (request .alertMaskSet (natBytes 2 m.toNat))) ∧
    (7 : Byte).toNat < 8 ∧ 8 ≤ (8 : Byte).toNat ∧ (16383 : Count16).toNat < 16384 ∧ 16384 ≤ (16384 : Count16).toNat ∧
    (31 : Byte).toNat < 32 ∧ 32 ≤ (32 : Byte).toNat ∧ 3 ≤ (3 : Byte).toNat ∧ (60 ≤ 60 ∧ 86400 ≤ 86400 ∧ ¬60 ≤ 59) := by
  refine ⟨fun _ => ready base _ _ rfl rfl rfl rfl, fun _ _ _ => ready base _ _ rfl rfl rfl rfl, fun _ =>
    ⟨ready base _ _ rfl rfl rfl rfl, ready base _ _ rfl rfl rfl rfl, ready base _ _ rfl rfl rfl rfl⟩,
    fun _ => ready base _ _ rfl rfl rfl rfl, by decide⟩

/-- A second MARKER_IN line beside line 3, a line freed for it, a clock output with k 1 and duty 25%. -/
theorem test_witness_LineSet :
    (∀ b0 b1 b2 b3 : Byte, Ready (asked base .lineSet [b0, b1, b2, b3]) .lineSet (request .lineSet [b0, b1, b2, b3])) ∧
      (base.aux.lines[(3 : Fin 4)]).settings.designation = .markerIn ∧
      (∀ m : Fin 4, m < 3 → m ≠ 0 → (base.aux.lines[m]).settings.designation ≠ .markerIn) ∧
      (∀ j : Fin 4, j ≠ 3 → (base.aux.lines[j]).settings.designation ≠ .markerIn) ∧
      ((5 : Byte) = 5 ∧ (1 : Byte).toNat ≤ 1 ∧ (0 : Byte) ≠ 1) ∧ 7 ≤ (7 : Byte).toNat ∧ 8 ≤ (8 : Byte).toNat :=
  ⟨fun _ _ _ _ => ready base _ _ rfl rfl rfl rfl, by decide⟩

/-- A descriptor with every field at an end of its range. -/
def extreme : ChannelDescriptor :=
  ⟨true, .axis, .b, 15, -8388608, 8388607, .truncate, some 15, some ⟨1792, 256, -32768, 2000, .descending⟩, none⟩

/-- A triad descriptor with every field at an end of its range. -/
def extremeTriad : TriadDescriptor :=
  ⟨true, ⟨15, 0, 7⟩, ⟨-8388608, 8388607, 0⟩, ⟨0, 0, 0⟩, ⟨0, 0, 1⟩, ⟨-134217728, 134217727, 0⟩, 16777215, .truncate⟩

theorem test_witness_DescriptorsSurviveTheWire : channelInRange extreme ∧ triadInRange extremeTriad := by
  refine ⟨⟨by decide, by decide, ?_, ?_, fun _ => rfl⟩, by unfold triadInRange; decide⟩
  · intro g h
    cases h
    decide
  · intro h
    cases h

/-- The writing requests, a commit scheduled or not, and values next to their ranges. -/
theorem test_witness_StagingWrites :
    (∀ s : State, s.phase = .running → s.link.heldSave = none → s.link.output = [] →
      Ready (asked s .channelSet (3 :: extreme.bytes)) .channelSet (request .channelSet (3 :: extreme.bytes)) ∧
      Ready (asked s .channelSet (16 :: extreme.bytes)) .channelSet (request .channelSet (16 :: extreme.bytes)) ∧
      Ready (asked s .triadSet (1 :: extremeTriad.bytes)) .triadSet (request .triadSet (1 :: extremeTriad.bytes)) ∧
      Ready (asked s .triadSet (2 :: extremeTriad.bytes)) .triadSet (request .triadSet (2 :: extremeTriad.bytes)) ∧
      (∀ b w (f : Count16), Ready (asked s .filterShape ([b, w] ++ natBytes 2 f.toNat)) .filterShape
        (request .filterShape ([b, w] ++ natBytes 2 f.toNat))) ∧
      Ready (asked s .filterTaps ([1, 126, 1] ++ natBytes 2 65535)) .filterTaps
        (request .filterTaps ([1, 126, 1] ++ natBytes 2 65535)) ∧
      Ready (asked s .discard []) .discard (request .discard [])) ∧
    committing.staging.commitScheduled = true ∧ station.staging.commitScheduled = false ∧ 16 ≤ (16 : Byte).toNat ∧
    126 + 1 ≤ 127 ∧ ¬(1 ≤ (128 : Byte).toNat ∧ (128 : Byte).toNat ≤ 127) := by
  refine ⟨fun s h1 h2 h3 => ⟨ready s _ _ h1 h2 h3 (by decide), ready s _ _ h1 h2 h3 (by decide),
    ready s _ _ h1 h2 h3 (by decide), ready s _ _ h1 h2 h3 (by decide), fun _ _ _ => ready s _ _ h1 h2 h3 rfl,
    ready s _ _ h1 h2 h3 rfl, ready s _ _ h1 h2 h3 rfl⟩, by decide⟩

/-- Every field of a channel at the first value beyond its last, one at a time, and none of them. -/
theorem test_witness_StagingWrites_channel :
    ¬channelOutside (3 :: extreme.bytes) ∧
    (∀ x ∈ ([(0, 16), (1, 2), (2, 3), (3, 2), (4, 16), (11, 2), (12, 2), (13, 16), (14, 2), (15, 8), (16, 1), (18, 1), (22, 209),
      (23, 2), (24, 1), (24, 2)] : List (Nat × Byte)), channelOutside ((3 :: extreme.bytes).set x.1 x.2)) ∧
    (∀ limit ∈ [some 0, some 601, none], channelOutside (3 :: { extreme with kind := .temperature, staleness := limit }.bytes)) ∧
    (∀ g ∈ ([⟨0, 1, 0, 1, .ascending⟩, ⟨0, 257, 0, 1, .ascending⟩, ⟨0, 2, 0, 0, .ascending⟩, ⟨2047, 2, 0, 1, .ascending⟩] :
      List Segment), channelOutside (3 :: { extreme with segment := some g }.bytes)) := by
  repeat' apply And.intro
  all_goals decide +kernel

/-- Every field of a triad at the first value beyond its last, one at a time, and none of them. -/
theorem test_witness_StagingWrites_triad :
    ¬triadOutside (1 :: extremeTriad.bytes) ∧
    (∀ x ∈ ([(0, 2), (1, 2), (2, 16), (3, 16), (4, 16), (32, 0xF7), (32, 8), (36, 8), (40, 0x80), (47, 2)] : List (Nat × Byte)),
      triadOutside ((1 :: extremeTriad.bytes).set x.1 x.2)) := by
  repeat' apply And.intro
  all_goals decide +kernel

/-- No difference, a difference that fails the check, one that passes. -/
theorem test_witness_CommitAnsweredByTheCheck :
    (∀ s : State, s.phase = .running → s.link.heldSave = none → s.link.output = [] →
      Ready (asked s .commit []) .commit (request .commit [])) ∧
    (station.staging.commitScheduled = false ∧ station.staging.restartScheduled = false ∧ station.settings.save = none) ∧
    ¬(restarting.staging.commitScheduled = false ∧ restarting.staging.restartScheduled = false) ∧
    station.staging.pendingConfig = station.staging.active ∧
    committing.staging.pendingConfig ≠ committing.staging.active ∧ committing.staging.pendingConfig.commitCheck = none ∧
    ({ config with second := { config.second with length := 65 } } : Configuration) ≠ config ∧
    ({ config with second := { config.second with length := 65 } } : Configuration).commitCheck ≠ none := by
  refine ⟨fun s h1 h2 h3 => ready s _ _ h1 h2 h3 rfl, by decide +kernel⟩

/-- Channels 1 and 7 in one place. -/
theorem test_witness_CommitAnsweredByTheCheck_pair :
    let c : Configuration := { config with
      channels := config.channels.set 7 { config.channels[7] with enabled := true, port := .a, source := 1 } }
    let pair (m n : Fin 16) : Prop := ((c.channels[m]).enabled = true ∧ (c.channels[n]).enabled = true) ∧
      (c.channels[m]).port = (c.channels[n]).port ∧ (c.channels[m]).source = (c.channels[n]).source
    pair 1 7 ∧ (∀ m n : Fin 16, m < n → pair m n → 7 ≤ n) ∧ (∀ m : Fin 16, pair m 7 → m < 7 → 1 ≤ m) := by decide +kernel

/-- The configuration with a channel replaced. -/
def withChannel (c : Configuration) (n : Fin 16) (d : ChannelDescriptor) : Configuration :=
  { c with channels := c.channels.set n d }

/-- An enabled channel of a kind on port B with a source address of its own. -/
def other (n : Fin 16) (kind : Kind) : ChannelDescriptor :=
  { config.channels[n] with
    enabled := true, kind := kind, port := .b, source := BitVec.ofNat 4 n.val,
    staleness := if kind = .temperature then some 3 else none }

/-- The configuration with the axes of its two triads. -/
def withAxes (c : Configuration) (a b : Axes) : Configuration :=
  { c with triads := #v[{ c.triads[0] with enabled := true, axes := a }, { c.triads[1] with enabled := true, axes := b }] }

/-- Configurations that fail in steps 2, 3 and 4 with channel 9: a source that is no TEMPERATURE channel, a source without a segment,
a segment on a TEMPERATURE channel. -/
def coldSource : Configuration := withChannel config 9 { other 9 .axis with tempSource := some 3 }
def halfPair : Configuration := withChannel config 9 { config.channels[9] with tempSource := some 3 }
def warmSegment : Configuration :=
  withChannel config 9 { config.channels[9] with kind := .temperature, tempSource := some 4, segment := some segment }

theorem test_witness_CommitAnsweredByTheCheck_channels :
    (clean1 coldSource ∧ badSource coldSource 9 3 ∧ ∀ n t, badSource coldSource n t → 9 ≤ n) ∧
    (clean2 halfPair ∧ unpaired halfPair 9 ∧ ∀ n, unpaired halfPair n → 9 ≤ n) ∧
    (clean3 warmSegment ∧ segmented warmSegment 9 ∧ ∀ n, segmented warmSegment n → 9 ≤ n) := by
  repeat' apply And.intro
  all_goals decide +kernel

/-- Step 5: a second SCALAR channel beside channel 3, a ninth TEMPERATURE channel beside channel 4 and seven others. -/
def scalars : Configuration := withChannel config 10 (other 10 .scalar)
def sensors : Configuration := [8, 9, 10, 11, 12, 13, 14, 15].foldl (fun c n => withChannel c n (other n .temperature)) config

theorem test_witness_CommitAnsweredByTheCheck_counts :
    (clean4 scalars ∧ isScalar scalars 3 ∧ isScalar scalars 10 ∧ ∀ x, isScalar scalars x → x < 10 → x = 3) ∧
    (clean5 sensors ∧ (temperaturesOf sensors)[8]? = some 15) := by
  repeat' apply And.intro
  all_goals decide +kernel

/-- Step 6, with six AXIS channels: triad 1 uses an axis twice, one that is no AXIS channel, one of triad 0. -/
def sixAxes (b : Axes) : Configuration :=
  withAxes ([8, 9, 10].foldl (fun c n => withChannel c n (other n .axis)) config) ⟨0, 1, 2⟩ b

theorem test_witness_CommitAnsweredByTheCheck_triads :
    (clean6 (sixAxes ⟨8, 9, 8⟩) ∧ soundTriad (sixAxes ⟨8, 9, 8⟩) 0 ∧ repeatedAxis (sixAxes ⟨8, 9, 8⟩) 1 8) ∧
    (clean6 (sixAxes ⟨8, 11, 3⟩) ∧ soundTriad (sixAxes ⟨8, 11, 3⟩) 0 ∧ (∀ m, ¬repeatedAxis (sixAxes ⟨8, 11, 3⟩) 1 m) ∧
      strayAxis (sixAxes ⟨8, 11, 3⟩) 1 11 ∧
      ∀ m ∈ (axesOf (sixAxes ⟨8, 11, 3⟩) 1).takeWhile fun x => x != 11, ¬strayAxis (sixAxes ⟨8, 11, 3⟩) 1 m) ∧
    (clean7 (sixAxes ⟨8, 2, 1⟩) ∧ sharedAxis (sixAxes ⟨8, 2, 1⟩) 1 ∧ ∀ n, sharedAxis (sixAxes ⟨8, 2, 1⟩) n → 1 ≤ n) := by
  repeat' apply And.intro
  all_goals decide +kernel

/-- Step 7: W of 2 and of 65, of 62 and of 59, and weights of 0. -/
theorem test_witness_CommitAnsweredByTheCheck_filters :
    clean8 config ∧ clean9 config ∧
    (∀ f ∈ [config.second, config.minute], ¬weightless f ∧ weightless { f with places := Vector.replicate 127 0 }) ∧
    (evenLength { config.second with length := 2 } ∧ lengthBeyond { config.second with length := 65 } 1 63) ∧
    (evenLength { config.minute with length := 62 } ∧ lengthBeyond { config.minute with length := 59 } 61 127) := by
  repeat' apply And.intro
  all_goals decide +kernel

/-- The station whose channel 0 covers entries 2,040 to 2,047. -/
def covered : State := { station with staging := { station.staging with
  active := { config with channels := config.channels.set 0 { config.channels[0] with
    tempSource := some 4, segment := some ⟨2040, 8, 0, 1, .ascending⟩ } } } }

/-- A run up to the last entry, a run beyond it, protected and unprotected entries. -/
theorem test_witness_StoreRequests :
    covered.store.wf = true ∧
    (∀ s : State, s.phase = .running → s.link.heldSave = none → s.link.output = [] → ∀ a : Nat,
      Ready (asked s .storeWrite (natBytes 2 a ++ natBytes 1 1 ++ [(8388607, -32768)].flatMap fun e : Int × Int =>
        intBytes 3 e.1 ++ intBytes 2 e.2)) .storeWrite
        (request .storeWrite (natBytes 2 a ++ natBytes 1 1 ++ [(8388607, -32768)].flatMap fun e : Int × Int =>
          intBytes 3 e.1 ++ intBytes 2 e.2)) ∧
      Ready (asked s .storePoison (natBytes 2 a)) .storePoison (request .storePoison (natBytes 2 a))) ∧
    (2047 ≤ 2047 ∧ 2047 + 1 ≤ 2048 ∧ ¬2048 ≤ 2047) ∧ protectedBy covered 2047 0 ∧ protectedBy covered 2040 0 ∧
    (∀ n : Fin 16, n ≠ 0 → (covered.staging.active.channels[n]).segment = none) := by
  refine ⟨rfl, fun s h1 h2 h3 a => ⟨ready s _ _ h1 h2 h3 rfl, ready s _ _ h1 h2 h3 rfl⟩, by decide,
    ⟨by decide, _, rfl, by decide⟩, ⟨by decide, _, rfl, by decide⟩, by decide +kernel⟩

theorem test_witness_ProtectedEntriesKeep :
    protectedBy covered 2040 0 ∧ exec .storePoison covered = .next covered :=
  ⟨⟨by decide, _, rfl, by decide⟩, by rfl⟩

theorem test_witness_StatusRequests :
    (∀ m : Count16, Ready (asked base .conditionsClear (natBytes 2 m.toNat)) .conditionsClear
      (request .conditionsClear (natBytes 2 m.toNat))) ∧
    (∀ g : Byte, Ready (asked base .countersClear [g]) .countersClear (request .countersClear [g])) ∧
    Ready (asked restarting .faultRelease []) .faultRelease (request .faultRelease []) ∧
    (16383 : Count16).toNat < 16384 ∧ 16384 ≤ (16384 : Count16).toNat ∧ (6 : Byte).toNat ≤ 6 ∧ 7 ≤ (7 : Byte).toNat := by
  refine ⟨fun _ => ready base _ _ rfl rfl rfl rfl, fun _ => ready base _ _ rfl rfl rfl rfl,
    ⟨rfl, rfl, ⟨[], rfl⟩, by decide, rfl, rfl⟩, by decide⟩

/-- The base device at a protection level, with a save that runs or none. -/
def guarded (level : Protection) (save : Option RunningSave) : State :=
  { base with settings := { base.settings with level := level, save := save } }

theorem test_witness_SavesProtectionRestart :
    (∀ l r, Ready (asked (guarded l r) .save []) .save (request .save []) ∧
      Ready (asked (guarded l r) .fixPermanent []) .fixPermanent (request .fixPermanent []) ∧
      Ready (asked (guarded l r) .lockSession []) .lockSession (request .lockSession []) ∧
      Ready (asked (guarded l r) .restart []) .restart (request .restart [])) ∧
    (guarded .opened (some ⟨Settings.default, 5, 0⟩)).settings.save ≠ none ∧ (guarded .fixed none).settings.save = none ∧
    (guarded .fixed none).settings.level ≠ .opened ∧ (guarded .opened none).settings.level = .opened ∧
    (guarded .sessionLocked none).settings.level = .sessionLocked ∧ (guarded .opened none).staging.commitScheduled = false ∧
    restarting.staging.restartScheduled = true :=
  ⟨fun _ _ => ⟨ready _ _ _ rfl rfl rfl rfl, ready _ _ _ rfl rfl rfl rfl, ready _ _ _ rfl rfl rfl rfl,
    ready _ _ _ rfl rfl rfl rfl⟩, by decide⟩

theorem test_witness_SavesProtectionRestart_end :
    (guarded .opened (some ⟨Settings.default, 5, 0⟩)).settings.save = some ⟨Settings.default, 5, 0⟩ ∧
      (guarded .opened (some ⟨Settings.default, 5, 0⟩)).phase ≠ .off := ⟨rfl, by decide⟩

/-- The base device whose last taken marker edge lies at the clock given, with the output set given. -/
def marked (last : Option Nat) (set : OutputSet) (n : Nat) : State :=
  { base with
    aux := { base.aux with lastMarker := last, selection := .both }
    link := { base.link with outputSet := set, output := List.replicate n reply } }

/-- The spacing of exactly 100,000 periods, one less, and a full data area. -/
theorem test_witness_MarkerEdgeTaken :
    (∀ a set n, (marked a set n).phase = .running ∧ (marked a set n).aux.selection = .both ∧
      (marked a set n).aux.lines[(3 : Fin 4)].settings.designation = .markerIn ∧ (marked a set n).link.outputSet = set) ∧
    (∀ a, (marked (some 5) 7 0).aux.lastMarker = some a → a + 100000 ≤ (marked (some 5) 7 0).tb.clock + 100005) ∧
    ¬5 + 100000 ≤ (marked (some 5) 7 0).tb.clock + 100004 ∧ (3 : OutputSet).getLsbD 2 = false ∧
    (7 : OutputSet).getLsbD 2 = true ∧ (marked none 7 59).link.output.length < 60 ∧ 60 ≤ (marked none 7 60).link.output.length :=
  ⟨fun _ _ _ => ⟨rfl, rfl, rfl, rfl⟩, fun a h => by cases h; decide, by decide⟩

/-- An edge that steps in the very period of a taken marker edge. -/
theorem test_witness_MarkerEdgeTaken_at_a_step :
    let s : State := { base with
      tb := { base.tb with clock := 501, period := 501 }
      aux := { base.aux with lastMarker := some 501 } }
    takesEdge s 0 ∧ s.tb.discipline ≠ .locked ∧ 500 < (edgeError s 0).natAbs ∧ s.aux.lastMarker = some s.tb.clock :=
  ⟨⟨rfl, fun _ h => by cases h⟩, by decide⟩

/-- An edge within the second, before it, and in the period of the mark itself. -/
theorem test_witness_MarkerEdgeTaken_at_the_mark :
    inSecond base 9999999 ∧ loaded.phase ≠ .running ∧ base.tb.length ≤ base.tb.period + 10000000 ∧
      exec .mark base = .next (after .mark base) ∧
      10000000 - (base.tb.length - base.tb.period) < (after .mark base).tb.length := by
  refine ⟨?_, by decide, by decide, by rfl, by decide⟩
  show 0 + 9999999 < 10000000
  decide

/-- The station in a close, with the end of the close waiting as a command. -/
def working : State := { closing [] with pending := [.tickClose 400] }

theorem test_witness_StepKeepsBounds : Bounded working ∧ step working = .next (after (.tickClose 400) (closing [])) := by
  refine ⟨⟨?_, by decide, by decide, by decide, by decide, by decide, by decide, ?_, by decide, ?_, by decide, ?_, ?_⟩, by rfl⟩
  · intro p
    cases p <;> decide
  · decide
  · decide
  · intro x h
    cases h
  · intro r h
    cases h

theorem test_witness_StepKeepsLegalStates : Legal working := by
  refine ⟨?_, ?_, ?_, by decide, by decide, by decide, by decide, by decide, by decide, by decide, by decide, by decide,
    by decide, ?_, ?_, by decide, by decide, by decide, by decide⟩
  · unfold legalSettings
    decide
  · intro x h
    cases h
  · intro r h
    cases h
  · intro p
    cases p <;> decide
  · decide

end Sys2Proof.Tests
end

section
/-! PROOFS. Legal states: the invariant of `Legal`, block by block, and what each update of one block asks for to keep it
(R1, R9 to R14, R18, R28, R39, R42, R101, R107, R149, R155, R171, R174, R200, R201, R204). -/

namespace Sys2Proof.Machine

open Sys2Proof.Claims

/-! ### The invariant, block by block -/

/-- A tick rate of R18. -/
def legalRate (r : Nat) : Prop := r = 1 ∨ r = 2 ∨ r = 5 ∨ r = 10 ∨ r = 20

/-- The timebase's part of `Legal`: its settings and numbers within their ranges, its counts as its discipline state allows. -/
structure Timebase.Legal (t : Timebase) : Prop where
  rateSet : legalRate t.rateSet
  depthSet : 1 ≤ t.depthSet ∧ t.depthSet ≤ 4
  limit : 60 ≤ t.holdoverLimit ∧ t.holdoverLimit ≤ 86400
  trim : -2000 ≤ t.trim ∧ t.trim ≤ 2000
  rate : legalRate t.rate
  depth : 1 ≤ t.depth ∧ t.depth ≤ 4
  correction : -50 ≤ t.correction ∧ t.correction ≤ 50
  length : 9997950 ≤ t.length ∧ t.length ≤ 10002050
  age : t.holdoverAge ≤ 86400
  missing : t.missingCount ≤ 3
  good : t.discipline = .acquire → t.goodCount ≤ 7
  outliers : t.discipline = .locked → t.outlierCount ≤ 3
  settled : t.discipline ≠ .holdover → t.holdoverAge = 0 ∧ t.holdoverLong = false

/-- A port's part of `Legal`: HALTED exactly with a held error, and DISABLED before the first mark. -/
structure SensorPort.Legal (phase : Phase) (p : SensorPort) : Prop where
  held : p.mode = .halted ↔ p.heldError ≠ none
  early : phase ≠ .running → p.mode = .disabled

/-- A spike screen's part of `Legal`: n stops at 3, and a suspect has a reference. -/
structure Screen.Legal (sc : Screen) : Prop where
  run : sc.run ≤ 3
  reference : sc.reference = none → sc.suspect = none

/-- The link's part of `Legal`: a rate waits exactly in WAITING, and a return waits only while a frame is sent. -/
structure Link.Legal (l : Link) : Prop where
  waiting : l.waitingRate ≠ none ↔ l.rateState = .waiting
  revert : l.revertPending = true → l.sending = true

/-- The staging state's part of `Legal`: a commit and a restart are never both scheduled. -/
def Staging.Legal (g : Staging) : Prop := ¬(g.commitScheduled = true ∧ g.restartScheduled = true)

/-- The settings store's part of `Legal`: an image and a snapshot hold legal settings, and a running save leaves no image. -/
structure SettingsStore.Legal (x : SettingsStore) : Prop where
  image : ∀ c, x.image.contents = some c → legalSettings c
  save : ∀ r, x.save = some r → legalSettings r.snapshot ∧ x.image.contents = none ∧ x.image.validity = .invalid

/-- The level is FIXED exactly when the identity area says so. -/
def SettingsStore.LevelLegal (x : SettingsStore) : Prop := x.level = .fixed ↔ x.identity.fixed = true

/-- `Legal`, one field per block, with the one bound that ties the assembler to the timebase. -/
structure Lawful (s : State) : Prop where
  tb : s.tb.Legal
  ports : ∀ p : Port, (s.port p).Legal s.phase
  openSet : s.asm.openSet.length ≤ s.tb.depth
  screens : ∀ k : Fin 2, (s.screens[k]).Legal
  staging : s.staging.Legal
  link : s.link.Legal
  settings : s.settings.Legal
  level : s.phase ≠ .off → s.settings.LevelLegal

/-- The settings within their ranges are four numbers within theirs. -/
theorem legalSettings_iff (x : Settings) :
    legalSettings x ↔ legalRate x.rateSet ∧ (1 ≤ x.depthSet ∧ x.depthSet ≤ 4) ∧
      (60 ≤ x.holdoverLimit ∧ x.holdoverLimit ≤ 86400) ∧ -2000 ≤ x.trim ∧ x.trim ≤ 2000 := Iff.rfl

/-- The working settings of a legal timebase are legal: they take R, D_a, H and D from it. -/
theorem Timebase.Legal.settings {s : State} (h : s.tb.Legal) : legalSettings s.workingSettings :=
  (legalSettings_iff _).mpr ⟨h.rateSet, h.depthSet, h.limit, h.trim⟩

/-- The statement's `Legal` is the invariant by blocks. -/
theorem legal_iff_lawful (s : State) : Legal s ↔ Lawful s := by
  constructor
  · rintro ⟨⟨hrs, hds, hlim, htrim⟩, himg, hsave, hrate, hdepth, hopen, hcorr, hlen, hage, hmiss, hgood, hout, hset, hports,
      hscr, hstag, hwait, hrev, hlev⟩
    exact
      { tb := ⟨hrs, hds, hlim, htrim, hrate, hdepth, hcorr, hlen, hage, hmiss, hgood, hout, hset⟩
        ports := fun p => ⟨(hports p).1, (hports p).2⟩
        openSet := hopen
        screens := fun k => ⟨(hscr k).1, (hscr k).2⟩
        staging := hstag
        link := ⟨hwait, hrev⟩
        settings := ⟨himg, hsave⟩
        level := hlev }
  · intro h
    exact ⟨h.tb.settings, h.settings.image, h.settings.save, h.tb.rate, h.tb.depth, h.openSet, h.tb.correction, h.tb.length,
      h.tb.age, h.tb.missing, h.tb.good, h.tb.outliers, h.tb.settled, fun p => ⟨(h.ports p).held, (h.ports p).early⟩,
      fun k => ⟨(h.screens k).run, (h.screens k).reference⟩, h.staging, h.link.waiting, h.link.revert, h.level⟩

/-! ### Updates of one block -/

section Updates

variable {s : State}

/-- A state that agrees with a legal one on every block that `Legal` reads is legal; of the link it is all but the output queue
and the accumulators. -/
theorem Lawful.of_agree {t : State} (h : Lawful s) (hphase : t.phase = s.phase) (htb : t.tb = s.tb)
    (hportA : t.portA = s.portA) (hportB : t.portB = s.portB) (hasm : t.asm.openSet = s.asm.openSet)
    (hscreens : t.screens = s.screens) (hstaging : t.staging = s.staging) (hlink : t.link.rest = s.link.rest)
    (hsettings : t.settings = s.settings) : Lawful t where
  tb := htb ▸ h.tb
  ports := by
    intro p
    have hp : t.port p = s.port p := by cases p <;> assumption
    rw [hp, hphase]
    exact h.ports p
  openSet := by rw [hasm, htb]; exact h.openSet
  screens := hscreens ▸ h.screens
  staging := hstaging ▸ h.staging
  link := by
    have hrest : t.link.rest.Legal := hlink ▸ ⟨h.link.waiting, h.link.revert⟩
    exact ⟨hrest.waiting, hrest.revert⟩
  settings := hsettings ▸ h.settings
  level := by rw [hphase, hsettings]; exact h.level

theorem Lawful.setTb (h : Lawful s) {x : Timebase} (hx : x.Legal) (hd : x.depth = s.tb.depth) : Lawful (s.setTb x) :=
  ⟨hx, h.ports, hd ▸ h.openSet, h.screens, h.staging, h.link, h.settings, h.level⟩

theorem Lawful.setPort (h : Lawful s) (p : Port) {x : SensorPort} (hx : x.Legal s.phase) : Lawful (s.setPort p x) where
  tb := by simpa using h.tb
  ports := by
    intro q
    rw [State.setPort_phase]
    by_cases hq : q = p
    · subst hq; rwa [State.setPort_port]
    · rw [State.setPort_other s p q x hq]; exact h.ports q
  openSet := by simpa using h.openSet
  screens := by simpa using h.screens
  staging := by simpa using h.staging
  link := by simpa using h.link
  settings := by simpa using h.settings
  level := by simpa using h.level

theorem Lawful.setAsm (h : Lawful s) {x : Assembler} (hx : x.openSet.length ≤ s.tb.depth) : Lawful (s.setAsm x) :=
  ⟨h.tb, h.ports, hx, h.screens, h.staging, h.link, h.settings, h.level⟩

theorem Lawful.setStore (h : Lawful s) (x : Store) : Lawful (s.setStore x) :=
  ⟨h.tb, h.ports, h.openSet, h.screens, h.staging, h.link, h.settings, h.level⟩

theorem Lawful.setCorr (h : Lawful s) (x : Corrector) : Lawful (s.setCorr x) :=
  ⟨h.tb, h.ports, h.openSet, h.screens, h.staging, h.link, h.settings, h.level⟩

theorem Lawful.setScreens (h : Lawful s) {x : Vector Screen 2} (hx : ∀ k : Fin 2, (x[k]).Legal) : Lawful (s.setScreens x) :=
  ⟨h.tb, h.ports, h.openSet, hx, h.staging, h.link, h.settings, h.level⟩

theorem Lawful.setDec (h : Lawful s) (x : Decimator) : Lawful (s.setDec x) :=
  ⟨h.tb, h.ports, h.openSet, h.screens, h.staging, h.link, h.settings, h.level⟩

theorem Lawful.setLink (h : Lawful s) {x : Link} (hx : x.Legal) : Lawful (s.setLink x) :=
  ⟨h.tb, h.ports, h.openSet, h.screens, h.staging, hx, h.settings, h.level⟩

theorem Lawful.setStatus (h : Lawful s) (x : StatusUnit) : Lawful (s.setStatus x) :=
  ⟨h.tb, h.ports, h.openSet, h.screens, h.staging, h.link, h.settings, h.level⟩

theorem Lawful.setAux (h : Lawful s) (x : Auxiliary) : Lawful (s.setAux x) :=
  ⟨h.tb, h.ports, h.openSet, h.screens, h.staging, h.link, h.settings, h.level⟩

theorem Lawful.setStaging (h : Lawful s) {x : Staging} (hx : x.Legal) : Lawful (s.setStaging x) :=
  ⟨h.tb, h.ports, h.openSet, h.screens, hx, h.link, h.settings, h.level⟩

theorem Lawful.setSettings (h : Lawful s) {x : SettingsStore} (hx : x.Legal) (hl : s.phase ≠ .off → x.LevelLegal) :
    Lawful (s.setSettings x) :=
  ⟨h.tb, h.ports, h.openSet, h.screens, h.staging, h.link, hx, hl⟩

theorem Lawful.setPending (h : Lawful s) (x : List Instr) : Lawful (s.setPending x) :=
  ⟨h.tb, h.ports, h.openSet, h.screens, h.staging, h.link, h.settings, h.level⟩

/-! ### The shared operations -/

/-- The passing of time moves the clock and the period counter alone, which `Legal` does not read. -/
theorem Lawful.elapse (h : Lawful s) (n : Nat) : Lawful (s.elapse n) := by
  unfold State.elapse
  split
  · exact h
  · exact h.setTb { h.tb with } rfl

theorem Lawful.elapseTo (h : Lawful s) (n : Nat) : Lawful (s.elapseTo n) := h.elapse _

theorem Lawful.elapseToPeriod (h : Lawful s) (n : Nat) : Lawful (s.elapseToPeriod n) := h.elapse _

theorem Lawful.setCondition (h : Lawful s) (c : Condition) : Lawful (s.setCondition c) := h.setStatus _

theorem Lawful.countBy (h : Lawful s) (c : Counter) (n : Nat) : Lawful (s.countBy c n) := h.setStatus _

theorem Lawful.count (h : Lawful s) (c : Counter) : Lawful (s.count c) := h.countBy c 1

theorem Lawful.offerData (h : Lawful s) (b : Body) : Lawful (s.offerData b) := h.of_agree (by simp) (by simp) (by simp)
  (by simp) (by simp) (by simp) (by simp) (by simp) (by simp)

theorem Lawful.offerNotice (h : Lawful s) (n : Notice) : Lawful (s.offerNotice n) := h.offerData _

theorem Lawful.timebaseNotice (h : Lawful s) (c : TimebaseCause) (d : Discipline) (e : Option Int) :
    Lawful (s.timebaseNotice c d e) := h.offerNotice _

theorem Lawful.raiseFault (h : Lawful s) (f : RaisedFault) : Lawful (s.raiseFault f) := h.of_agree (by simp) (by simp)
  (by simp) (by simp) (by simp) (by simp) (by simp) (by simp) (by simp)

theorem Lawful.touchSettings (h : Lawful s) : Lawful s.touchSettings :=
  h.setSettings ⟨h.settings.image, h.settings.save⟩ h.level

theorem Lawful.offerResponse (h : Lawful s) (l : List Frame) : Lawful (s.offerResponse l) :=
  h.setLink ⟨h.link.waiting, h.link.revert⟩

theorem Lawful.dropRequest (h : Lawful s) : Lawful s.dropRequest := h.setLink ⟨h.link.waiting, h.link.revert⟩

theorem Lawful.noteEarlyEdge (h : Lawful s) : Lawful s.noteEarlyEdge := by
  unfold State.noteEarlyEdge
  split
  · exact h
  · exact h.setTb { h.tb with } rfl

end Updates

end Sys2Proof.Machine
end

section
/-! PROOFS. Legal timebases: every operation of the timebase keeps the ranges of R1, R9 to R14 and R18. -/

namespace Sys2Proof.Machine

/-! ### The counts of 1.4 -/

/-- A good edge before the eighth is counted (R11). -/
theorem Timebase.countGood_of_lt {t : Timebase} (h : t.goodCount + 1 < 8) :
    t.countGood = { t with goodCount := t.goodCount + 1 } := if_neg (Nat.not_le_of_lt h)

/-- The eighth good edge enters LOCKED (R11). -/
theorem Timebase.countGood_of_le {t : Timebase} (h : 8 ≤ t.goodCount + 1) :
    t.countGood = { t with goodCount := t.goodCount + 1 }.toLocked := if_pos h

/-- An outlier before the fourth is counted (R12). -/
theorem Timebase.countOutlier_of_lt {t : Timebase} (h : t.outlierCount + 1 < 4) :
    t.countOutlier = { t with outlierCount := t.outlierCount + 1 } := if_neg (Nat.not_le_of_lt h)

/-- The fourth outlier drops to ACQUIRE (R12). -/
theorem Timebase.countOutlier_of_le {t : Timebase} (h : 4 ≤ t.outlierCount + 1) :
    t.countOutlier = { t with outlierCount := t.outlierCount + 1 }.toAcquire 0 := if_pos h

/-! ### Each operation keeps the ranges -/

/-- A clamp to a range that is not empty stays inside it. -/
theorem clampInt_mem {lo hi : Int} (v : Int) (h : lo ≤ hi) : lo ≤ clampInt lo hi v ∧ clampInt lo hi v ≤ hi := by
  unfold clampInt
  split_ifs <;> omega

/-- A legal timebase gives the next second a length of R1: 10,000,000 + D + c. -/
theorem Timebase.Legal.nextLength {t : Timebase} (h : t.Legal) : 9997950 ≤ t.nextLength ∧ t.nextLength ≤ 10002050 := by
  obtain ⟨ht1, ht2⟩ := h.trim
  obtain ⟨hc1, hc2⟩ := h.correction
  simp only [Timebase.nextLength, Config.nominalSecond_eq]
  omega

theorem Timebase.Legal.beginSecond {t : Timebase} (h : t.Legal) (n : Num32) : (t.beginSecond n).Legal :=
  { h with
    correction := by simp [Timebase.beginSecond]
    length := h.nextLength }

theorem Timebase.Legal.ageHoldover {t : Timebase} (h : t.Legal) : t.ageHoldover.Legal := by
  unfold Timebase.ageHoldover
  split
  · rename_i hd
    exact { h with age := Nat.min_le_left _ _, settled := fun hn => absurd hd hn }
  · exact h

theorem Timebase.Legal.mark {t : Timebase} (h : t.Legal) (n : Num32) : (t.mark n).Legal :=
  { (h.beginSecond n).ageHoldover with }

theorem Timebase.Legal.update {t : Timebase} (h : t.Legal) (e : Int) : (t.update e).Legal :=
  { h with
    trim := clampInt_mem _ (by decide)
    correction := clampInt_mem _ (by decide) }

theorem Timebase.Legal.toAcquire {t : Timebase} (h : t.Legal) {good : Nat} (hg : good ≤ 7) : (t.toAcquire good).Legal :=
  { h with
    age := Nat.zero_le _
    missing := Nat.zero_le _
    good := fun _ => hg
    outliers := fun hd => by cases hd
    settled := fun _ => ⟨rfl, rfl⟩ }

/-- FREE_RUN is entered from a state whose holdover is over. -/
theorem Timebase.Legal.toFreeRun {t : Timebase} (h : t.Legal) (hd : t.discipline ≠ .holdover) : t.toFreeRun.Legal :=
  { h with
    correction := by simp [Timebase.toFreeRun]
    missing := Nat.zero_le _
    good := fun _ => Nat.zero_le _
    outliers := fun _ => Nat.zero_le _
    settled := fun _ => h.settled hd }

theorem Timebase.Legal.toHoldover {t : Timebase} (h : t.Legal) : t.toHoldover.Legal :=
  { h with
    correction := by simp [Timebase.toHoldover]
    age := Nat.zero_le _
    missing := Nat.zero_le _
    good := fun hd => by cases hd
    outliers := fun hd => by cases hd
    settled := fun _ => ⟨rfl, rfl⟩ }

/-- The eighth good edge gives LOCKED, so ACQUIRE never counts more than seven (R11). -/
theorem Timebase.Legal.countGood {t : Timebase} (h : t.Legal) (hd : t.discipline = .acquire) : t.countGood.Legal := by
  have hset := h.settled (by rw [hd]; decide)
  by_cases hg : t.goodCount + 1 < 8
  · rw [Timebase.countGood_of_lt hg]
    exact { h with good := fun _ => Nat.le_of_lt_succ hg }
  · rw [Timebase.countGood_of_le (Nat.le_of_not_lt hg)]
    exact { h with
      missing := Nat.zero_le _
      good := fun hl => by cases hl
      outliers := fun _ => Nat.zero_le _
      settled := fun _ => hset }

/-- The fourth outlier drops to ACQUIRE, so LOCKED never counts more than three (R12). -/
theorem Timebase.Legal.countOutlier {t : Timebase} (h : t.Legal) : t.countOutlier.Legal := by
  by_cases ho : t.outlierCount + 1 < 4
  · rw [Timebase.countOutlier_of_lt ho]
    exact { h with outliers := fun _ => Nat.le_of_lt_succ ho }
  · rw [Timebase.countOutlier_of_le (Nat.le_of_not_lt ho)]
    exact { h.toAcquire (good := 0) (Nat.zero_le _) with outliers := fun hl => by cases hl }

theorem Timebase.Legal.afterUpdate {t : Timebase} (h : t.Legal) (e : Int) : (t.afterUpdate e).Legal := by
  have hgood : (if goodEdge e then 1 else 0) ≤ 7 := by split <;> decide
  unfold Timebase.afterUpdate
  split
  case h_1 => exact h.toAcquire hgood
  case h_2 => exact h.toAcquire hgood
  case h_3 hd =>
    split
    · exact h.countGood hd
    · exact { h with good := fun _ => Nat.zero_le _ }
  case h_4 => exact { h with outliers := fun _ => Nat.zero_le _ }

theorem Timebase.Legal.noteEdge {t : Timebase} (h : t.Legal) : t.noteEdge.Legal := { h with missing := Nat.zero_le _ }

theorem Timebase.Legal.stepDiscipline {t : Timebase} (h : t.Legal) : t.stepDiscipline.Legal :=
  { h.toAcquire (good := 0) (Nat.zero_le _) with correction := by simp [Timebase.stepDiscipline] }

theorem Timebase.Legal.loseEdges {t : Timebase} (h : t.Legal) : t.loseEdges.Legal := by
  unfold Timebase.loseEdges
  split
  case h_1 => exact h
  case h_2 hd => exact h.toFreeRun (by rw [hd]; decide)
  case h_3 => exact h.toHoldover
  case h_4 => exact h

theorem Timebase.Legal.restart {t : Timebase} (h : t.Legal) : t.restart.Legal :=
  { h with rate := h.rateSet, depth := h.depthSet }

/-- A load puts R, D_a, H and D of the settings in force, and every count at its power-on value (R21). -/
theorem Timebase.Legal.powerOn {st : Settings} (h : Claims.legalSettings st) : (Timebase.powerOn st).Legal := by
  obtain ⟨hrate, hdepth, hlimit, htrim⟩ := (legalSettings_iff st).mp h
  exact
    { rateSet := hrate, depthSet := hdepth, limit := hlimit, trim := htrim, rate := hrate, depth := hdepth
      correction := by simp [Timebase.powerOn]
      length := by simp [Timebase.powerOn]
      age := Nat.zero_le _
      missing := Nat.zero_le _
      good := fun _ => Nat.zero_le _
      outliers := fun _ => Nat.zero_le _
      settled := fun _ => ⟨rfl, rfl⟩ }

/-! ### What the timebase's operations leave of D_a -/

@[simp] theorem Timebase.ageHoldover_depth (t : Timebase) : t.ageHoldover.depth = t.depth := by
  unfold Timebase.ageHoldover; split <;> rfl
@[simp] theorem Timebase.mark_depth (t : Timebase) (n : Num32) : (t.mark n).depth = t.depth :=
  Timebase.ageHoldover_depth (t.beginSecond n)
@[simp] theorem Timebase.countGood_depth (t : Timebase) : t.countGood.depth = t.depth := by
  unfold Timebase.countGood; simp only []; split <;> rfl
@[simp] theorem Timebase.countOutlier_depth (t : Timebase) : t.countOutlier.depth = t.depth := by
  unfold Timebase.countOutlier; simp only []; split <;> rfl
@[simp] theorem Timebase.afterUpdate_depth (t : Timebase) (e : Int) : (t.afterUpdate e).depth = t.depth := by
  unfold Timebase.afterUpdate; split
  · rfl
  · rfl
  · split
    · exact Timebase.countGood_depth t
    · rfl
  · rfl
@[simp] theorem Timebase.loseEdges_depth (t : Timebase) : t.loseEdges.depth = t.depth := by
  unfold Timebase.loseEdges; split <;> rfl

end Sys2Proof.Machine
end

section
/-! PROOFS. Legal ports, open sets, screens, links and settings stores: what the operations of one block keep (R18, R28, R39,
R42, R101, R107, R171, R174, R200, R201, R204). -/

namespace Sys2Proof.Machine

open Sys2Proof.Claims

/-! ### Ports (R28, R39) -/

/-- A change that leaves mode and held error alone keeps a port legal. -/
theorem SensorPort.Legal.of_agree {phase : Phase} {p x : SensorPort} (h : p.Legal phase) (hm : x.mode = p.mode)
    (he : x.heldError = p.heldError) : x.Legal phase :=
  ⟨by rw [hm, he]; exact h.held, fun hp => hm.trans (h.early hp)⟩

/-- A port with no held error that is not halted is legal once marks are made. -/
theorem SensorPort.legal_of_running {p : SensorPort} (hm : p.mode ≠ .halted) (he : p.heldError = none) :
    p.Legal .running :=
  ⟨⟨fun h => absurd h hm, fun h => absurd he h⟩, fun h => absurd rfl h⟩

/-- A port that is not halted holds no error (R28). -/
theorem SensorPort.Legal.heldError_of_ne {phase : Phase} {p : SensorPort} (h : p.Legal phase) (hm : p.mode ≠ .halted) :
    p.heldError = none := by
  by_contra he
  exact hm (h.held.mpr he)

theorem SensorPort.byFlag_mode_ne (p : SensorPort) : p.byFlag.mode ≠ .halted := by
  unfold SensorPort.byFlag
  simp only []
  split <;> decide

theorem SensorPort.byFlag_legal {p : SensorPort} (he : p.heldError = none) : p.byFlag.Legal .running :=
  SensorPort.legal_of_running p.byFlag_mode_ne he

theorem SensorPort.restart_legal (p : SensorPort) : p.restart.Legal .running := SensorPort.byFlag_legal rfl

theorem SensorPort.Legal.enable {p : SensorPort} (h : p.Legal .running) (hm : p.mode ≠ .halted) (on : Bool) :
    (p.enable on).Legal .running :=
  SensorPort.legal_of_running (by cases on <;> simp [SensorPort.enable]) (h.heldError_of_ne hm)

theorem SensorPort.reset_legal (p : SensorPort) : p.reset.Legal .running :=
  SensorPort.legal_of_running (by simp [SensorPort.reset]) rfl

theorem SensorPort.powerOn_legal (st : PortSettings) (phase : Phase) : (SensorPort.powerOn st).Legal phase :=
  ⟨by simp [SensorPort.powerOn], fun _ => rfl⟩

/-! ### The open set (R42, R56) -/

theorem lastN_length_le {α : Type} (n : Nat) (l : List α) : (lastN n l).length ≤ n := by
  simp only [lastN, List.length_drop]
  omega

/-- An issued tick finds its place in an open set of D_a ticks: a full one gives up its oldest (R42). -/
theorem Assembler.issue_openSet_le {a : Assembler} {depth : Nat} (id : TickId) (h : a.openSet.length ≤ depth)
    (hd : 1 ≤ depth) : (a.issue depth id).openSet.length ≤ depth := by
  unfold Assembler.issue
  simp only []
  split
  · exact hd
  · rename_i oldest rest hopen
    have hlen : rest.length + 1 ≤ depth := by simpa [hopen] using h
    split
    · simpa using hlen
    · rename_i hroom
      simpa using Nat.lt_of_not_le hroom

/-- Filing a sample changes a slot and no number of ticks (R48). -/
@[simp] theorem fileSlot_length (l : List OpenTick) (count : Num32) (n : Fin 16) (slot : Slot) :
    (fileSlot l count n slot).length = l.length := by
  induction l with
  | nil => rfl
  | cons t rest ih =>
    unfold fileSlot
    split
    · rfl
    · simp [ih]

/-- A restart opens fewer ticks than D_a, and its mark's tick 0 joins them (R56). -/
theorem Assembler.restart_openSet_le (a : Assembler) (depth : Nat) : (a.restart depth).openSet.length ≤ depth := by
  have hle := lastN_length_le (depth - 1) a.issued
  simp only [Assembler.restart, List.length_map]
  omega

/-! ### Screens (R101 to R111) -/

theorem Screen.cleared_legal : Screen.cleared.Legal := ⟨Nat.zero_le _, fun _ => rfl⟩

theorem Screen.clear_legal (sc : Screen) : sc.clear.Legal := ⟨Nat.zero_le _, fun _ => rfl⟩

theorem Screen.acceptedAs_legal (sc : Screen) (v : Vec3) : (sc.acceptedAs v).Legal := ⟨Nat.zero_le _, fun _ => rfl⟩

theorem Screen.Legal.awaitClear {sc : Screen} (h : sc.Legal) : sc.awaitClear.Legal := ⟨h.run, h.reference⟩

/-- In CLEAR a vector becomes a suspect only beyond a reference that is there (R103). -/
theorem Screen.Legal.clearStep {sc : Screen} (h : sc.Legal) (limit : Nat) (tick : TickId) (o : TickOutcome) :
    (sc.clearStep limit tick o).screen.Legal := by
  unfold Screen.clearStep
  split
  · exact h
  · rename_i v hv
    cases hr : sc.reference with
    | none => exact Screen.acceptedAs_legal sc v
    | some r =>
      simp only []
      split
      · exact ⟨h.run, fun hn => by simp at hn⟩
      · exact Screen.acceptedAs_legal sc v

/-- In SUSPECT a vector may become the next suspect, under the reference that is there (R104 to R107). -/
theorem Screen.Legal.suspectVector {sc : Screen} (h : sc.Legal) {p : Suspect} (hp : sc.suspect = some p) (limit : Nat)
    (tick : TickId) (v : Vec3) (flags : DataFlags) : (sc.suspectVector p limit tick v flags).screen.Legal := by
  have hr : sc.reference ≠ none := fun hn => by simp [h.reference hn] at hp
  unfold Screen.suspectVector
  simp only []
  split_ifs
  · exact Screen.acceptedAs_legal sc v
  · exact Screen.acceptedAs_legal sc v
  · exact ⟨Nat.min_le_left _ _, fun hn => absurd hn hr⟩
  · exact Screen.acceptedAs_legal sc v

theorem Screen.Legal.stageD {sc : Screen} (h : sc.Legal) (limit : Nat) (tick : TickId) (o : TickOutcome) :
    (sc.stageD limit tick o).screen.Legal := by
  unfold Screen.stageD
  split
  · exact h.clearStep limit tick o
  · rename_i p hp
    split
    · exact (Screen.acceptedAs_legal sc p.vector).clearStep 0 tick o
    · split
      · exact ⟨Nat.min_le_left _ _, fun _ => rfl⟩
      · exact h.suspectVector hp limit tick _ _

theorem Screen.Legal.axisCheck {sc : Screen} (h : sc.Legal) (d : TriadDescriptor) : (sc.axisCheck d).Legal := by
  unfold Screen.axisCheck
  simp only []
  split
  · exact ⟨sc.clear_legal.run, sc.clear_legal.reference⟩
  · exact ⟨h.run, h.reference⟩

theorem Screen.Legal.pendingClearStep {sc : Screen} (h : sc.Legal) (waiting : Bool) :
    (sc.pendingClearStep waiting).screen.Legal := by
  unfold Screen.pendingClearStep
  split
  · split
    · exact ⟨Nat.zero_le _, fun _ => rfl⟩
    · exact ⟨Nat.zero_le _, fun _ => rfl⟩
  · exact h

/-- One screen of the two replaced by a legal one. -/
theorem screens_set_legal {v : Vector Screen 2} (h : ∀ k : Fin 2, (v[k]).Legal) (k : Fin 2) {sc : Screen} (hsc : sc.Legal) :
    ∀ j : Fin 2, ((v.set k sc)[j]).Legal := by
  intro j
  simp only [Fin.getElem_fin, Vector.getElem_set]
  split
  · exact hsc
  · exact h j

theorem screens_replicate_legal : ∀ k : Fin 2, ((Vector.replicate 2 Screen.cleared)[k]).Legal := by
  intro k
  simpa using Screen.cleared_legal

/-! ### Link (R171 to R174) -/

theorem Link.Legal.hunt {l : Link} (h : l.Legal) : l.hunt.Legal := ⟨h.waiting, h.revert⟩

theorem Link.Legal.untie {l : Link} (h : l.Legal) : l.untie.Legal := ⟨h.waiting, h.revert⟩

theorem Link.Legal.restart {l : Link} (h : l.Legal) : l.restart.Legal := ⟨h.waiting, h.revert⟩

theorem Link.Legal.revert_legal {l : Link} (h : l.Legal) : l.revert.Legal :=
  ⟨h.waiting, fun hr => by simp [Link.revert] at hr⟩

/-- A trial that starts takes the waiting rate, and no return is pending for it (R172). -/
theorem Link.Legal.startTrial {l : Link} (h : l.Legal) (clock : Nat) : (l.startTrial clock).Legal := by
  unfold Link.startTrial
  split
  · exact ⟨⟨fun hw => absurd rfl hw, fun hw => by cases hw⟩, h.revert⟩
  · exact h

theorem Link.Legal.admitHeld {l : Link} (h : l.Legal) : l.admitHeld.Legal := by
  unfold Link.admitHeld
  split
  · exact ⟨h.waiting, h.revert⟩
  · exact h

theorem Link.Legal.offerSave {l : Link} (h : l.Legal) (r : Response) : (l.offerSave r).Legal := by
  unfold Link.offerSave
  split <;> exact ⟨h.waiting, h.revert⟩

/-- A trial that may start or not keeps a legal link legal. -/
theorem Link.Legal.startTrial_ite {l : Link} (h : l.Legal) (c : Prop) [Decidable c] (clock : Nat) :
    (if c then l.startTrial clock else l).Legal := by
  split
  · exact h.startTrial clock
  · exact h

/-- The end of a frame: a pending return takes effect, so that none is left once nothing is sent (R172, R174). -/
theorem Link.Legal.sent {l : Link} (h : l.Legal) (f : Frame) (rest : List Frame) (clock : Nat) :
    (l.sent f rest clock).Legal := by
  unfold Link.sent
  simp only []
  refine Link.Legal.admitHeld ?_
  split
  · refine Link.Legal.startTrial_ite ?_ _ _
    exact ⟨h.waiting, fun hp => by simp [Link.revert] at hp⟩
  · rename_i hr
    refine Link.Legal.startTrial_ite ?_ _ _
    exact ⟨h.waiting, fun hp => absurd hp hr⟩

theorem Link.powerOn_legal (st : Settings) (holdIn : Bool) : (Link.powerOn st holdIn).Legal :=
  ⟨by simp [Link.powerOn], fun h => by simp [Link.powerOn] at h⟩

/-! ### Settings store (R18, R200, R201, R204) -/

theorem Settings.default_legal : legalSettings Settings.default :=
  ⟨.inr (.inr (.inr (.inl rfl))), by decide, by decide, by decide, by decide⟩

/-- What a load takes is legal: the image's settings or the defaults (R207). -/
theorem SettingsStore.Legal.load {x : SettingsStore} (h : x.Legal) : legalSettings x.image.load := by
  unfold Image.load
  split
  · cases hc : x.image.contents with
    | none => exact Settings.default_legal
    | some c => exact h.image c hc
  · exact Settings.default_legal

theorem SettingsStore.Legal.loaded {x : SettingsStore} (h : x.Legal) : x.loaded.Legal :=
  ⟨h.image, fun r hr => by cases hr⟩

theorem SettingsStore.loaded_levelLegal (x : SettingsStore) : x.loaded.LevelLegal := by
  unfold SettingsStore.LevelLegal SettingsStore.loaded
  simp only []
  split <;> simp_all

theorem SettingsStore.Legal.unpowered {x : SettingsStore} (h : x.Legal) : x.unpowered.Legal :=
  ⟨h.image, fun r hr => by cases hr⟩

/-- The end of a save leaves its snapshot or no whole image (R205). -/
theorem SettingsStore.Legal.endSave {x : SettingsStore} (h : x.Legal) {r : RunningSave} (hr : x.save = some r)
    (verified : Bool) : (x.endSave r verified).Legal := by
  cases verified with
  | true =>
    refine ⟨fun c hc => ?_, fun r' hr' => by cases hr'⟩
    cases hc
    exact (h.save r hr).1
  | false => exact ⟨h.image, fun r' hr' => by cases hr'⟩

theorem SettingsStore.endSave_levelLegal {x : SettingsStore} (h : x.LevelLegal) (r : RunningSave) (verified : Bool) :
    (x.endSave r verified).LevelLegal := by
  cases verified <;> exact h

theorem SettingsStore.fix_levelLegal (x : SettingsStore) : x.fix.LevelLegal := ⟨fun _ => rfl, fun _ => rfl⟩

/-- LOCK_SESSION leaves OPEN alone, which is not FIXED before or after (R202). -/
theorem Protection.locked_eq_fixed (l : Protection) : l.locked = .fixed ↔ l = .fixed := by cases l <;> decide

end Sys2Proof.Machine
end

section
/-! PROOFS. Legal states under the operations of marks, ticks, edges, ports, closes and the link: each operation keeps `Lawful`
(R2, R4, R7 to R17, R23 to R30, R42 to R56, R97 to R111, R160 to R174, R210). -/

namespace Sys2Proof.Machine

variable {s : State}

/-! ### Ticks and marks -/

theorem Lawful.beginClose (h : Lawful s) : Lawful s.beginClose := by
  unfold State.beginClose
  split
  · exact h.setAsm h.openSet
  · exact h
  · exact h

theorem Lawful.issueTick (h : Lawful s) : Lawful s.issueTick := by
  unfold State.issueTick
  refine Lawful.beginClose ?_
  refine Lawful.setAsm (h.setTb ?_ ?_) ?_
  · exact { h.tb with }
  · rfl
  · exact Assembler.issue_openSet_le _ h.openSet h.tb.depth.1

theorem Lawful.markTimebase (h : Lawful s) (n : Num32) : Lawful (s.markTimebase n) := by
  have hmark : Lawful (s.setTb (s.tb.mark n)) := h.setTb (h.tb.mark n) (Timebase.mark_depth _ _)
  unfold State.markTimebase
  simp only []
  split
  · exact (hmark.setCondition _).timebaseNotice _ _ _
  · exact hmark

theorem Lawful.applyCommit (h : Lawful s) (n : Num32) : Lawful (s.applyCommit n) := by
  refine ((h.setStaging ?_).touchSettings).offerNotice _
  simp [Staging.Legal, Staging.applied]

/-- A command restart brings D_a into force together with the open set it allows (R22, R56, R210). -/
theorem Lawful.commandRestart (h : Lawful s) (hr : s.phase = .running) : Lawful s.commandRestart := by
  have hcore : Lawful ((s.setTb s.tb.restart).setAsm (s.asm.restart s.tb.restart.depth)) :=
    ⟨h.tb.restart, h.ports, Assembler.restart_openSet_le _ _, h.screens, h.staging, h.link, h.settings, h.level⟩
  have hports := (hcore.setPort .a (x := s.portA.restart) (hr ▸ s.portA.restart_legal)).setPort .b
    (x := s.portB.restart) (by simpa [hr] using s.portB.restart_legal)
  have hconsumers := ((hports.setCorr Corrector.cleared).setScreens screens_replicate_legal).setDec Decimator.cleared
  have hstaging := hconsumers.setStaging (x := s.staging.restart) (by simp [Staging.Legal, Staging.restart])
  have hstatus := (hstaging.setLink (x := s.link.restart) h.link.restart).setStatus s.status.restart
  have hsettings := hstatus.setSettings (x := { s.settings with resetCause := .commanded })
    ⟨h.settings.image, h.settings.save⟩ h.level
  exact hsettings.offerNotice _

theorem Lawful.scheduledWork (h : Lawful s) (hr : s.phase = .running) : Lawful s.scheduledWork := by
  unfold State.scheduledWork
  split_ifs
  · exact h.commandRestart hr
  · exact h.applyCommit _
  · exact h

theorem Lawful.markConsumers (h : Lawful s) (hr : s.phase = .running) (byStep relabelled : Bool) :
    Lawful (s.markConsumers byStep relabelled) := by
  have hwork : Lawful s.raiseLines.scheduledWork := (h.setAux _).scheduledWork hr
  have hscreens : Lawful (if byStep && !s.staging.restartScheduled then
      s.raiseLines.scheduledWork.setScreens
        (Vector.ofFn fun k => (s.raiseLines.scheduledWork.screens[k]).awaitClear)
      else s.raiseLines.scheduledWork) := by
    split
    · exact hwork.setScreens fun k => by simpa using (hwork.screens k).awaitClear
    · exact hwork
  exact (hscreens.setDec _).issueTick

theorem Lawful.makeMark (h : Lawful s) (hr : s.phase = .running) (n : Num32) (byStep relabelled : Bool) :
    Lawful (s.makeMark n byStep relabelled) := (h.markTimebase n).markConsumers (by simpa using hr) byStep relabelled

theorem Lawful.regularMark (h : Lawful s) (hr : s.phase = .running) : Lawful s.regularMark := by
  unfold State.regularMark
  split
  · exact h.makeMark hr _ _ _
  · exact (h.makeMark hr _ _ _).timebaseNotice _ _ _

theorem Lawful.dueMark (h : Lawful s) (hr : s.phase = .running) : Lawful s.dueMark :=
  (h.elapseToPeriod _).regularMark (by simpa using hr)

theorem Lawful.edgeMoment (h : Lawful s) (n : Nat) : Lawful (s.edgeMoment n) := by
  by_cases hr : s.phase = .running
  · by_cases hlt : s.tb.period + n < s.tb.length
    · rw [State.edgeMoment_of_lt hlt]
      exact h.elapse n
    · rw [State.edgeMoment_of_le hr (Nat.le_of_not_lt hlt)]
      exact (h.dueMark hr).elapse _
  · rw [State.edgeMoment_of_not_running hr]
    exact h.elapse n

/-- Marks begin: the ports leave DISABLED only now (R39). -/
theorem Lawful.setPhase_running (h : Lawful s) (hs : s.phase ≠ .off) : Lawful (s.setPhase .running) :=
  ⟨h.tb, fun p => ⟨(h.ports p).held, fun hp => absurd rfl hp⟩, h.openSet, h.screens, h.staging, h.link, h.settings,
    fun _ => h.level hs⟩

theorem Lawful.firstMark (h : Lawful s) (hs : s.phase = .loaded) : Lawful s.firstMark := by
  have hheld : ∀ p, (s.port p).heldError = none := fun p =>
    (h.ports p).heldError_of_ne (by rw [(h.ports p).early (by rw [hs]; decide)]; decide)
  have hports := ((h.setPhase_running (by rw [hs]; decide)).setPort .a (SensorPort.byFlag_legal (hheld .a))).setPort .b
    (SensorPort.byFlag_legal (hheld .b))
  exact ((hports.setStatus _).makeMark rfl _ _ _).offerNotice _

/-! ### Edges on PPS -/

theorem Lawful.stepEdge (h : Lawful s) (hr : s.phase = .running) (e : Int) (label : Option Num32) :
    Lawful (s.stepEdge e label) := by
  have hmark := (h.setTb h.tb.stepDiscipline rfl).makeMark hr (label.getD (s.tb.second + 1)) true
    (relabels label (s.tb.second + 1))
  have hnotice := ((hmark.setCondition .timeStepped).count .timeSteps).timebaseNotice .step s.tb.discipline (some e)
  unfold State.stepEdge
  simp only []
  split
  · exact hnotice.timebaseNotice _ _ _
  · exact hnotice

theorem Lawful.consumeLabel (h : Lawful s) (early : Bool) (e : Int) (label : Option Num32) :
    Lawful (s.consumeLabel early e label) := by
  unfold State.consumeLabel
  split
  · exact h
  · split_ifs
    · exact h
    · refine Lawful.timebaseNotice (Lawful.setDec (h.setTb ?_ ?_) _) _ _ _
      · exact { h.tb with }
      · rfl
    · exact h
    · exact h.setTb { h.tb with } rfl

theorem Lawful.reportChange (h : Lawful s) (before : Discipline) (error : Option Int) :
    Lawful (s.reportChange before error) := by
  unfold State.reportChange
  split
  · exact h
  · exact h.timebaseNotice _ _ _

theorem Lawful.takeEdge (h : Lawful s) (hr : s.phase = .running) : Lawful s.takeEdge := by
  have hnoted : Lawful ((s.setTb s.tb.noteEdge).setStatus { s.status with code2 := none }) :=
    (h.setTb h.tb.noteEdge rfl).setStatus _
  unfold State.takeEdge
  simp only []
  split
  case h_1 => exact hnoted.stepEdge hr _ _
  case h_2 =>
    refine Lawful.consumeLabel (Lawful.reportChange ?_ _ _) _ _ _
    exact hnoted.setTb ((hnoted.tb.update _).afterUpdate _) (Timebase.afterUpdate_depth _ _)
  case h_3 =>
    refine Lawful.consumeLabel (Lawful.reportChange (Lawful.count ?_ _) _ _) _ _ _
    exact hnoted.setTb hnoted.tb.countOutlier (Timebase.countOutlier_depth _)

theorem Lawful.missMark (h : Lawful s) : Lawful s.missMark := by
  have hcount : Lawful ((s.count .ppsMissing).setTb
      { s.tb with missingCount := min Config.missingToLose (s.tb.missingCount + 1) }) :=
    (h.count _).setTb { h.tb with missing := Nat.min_le_left _ _ } rfl
  unfold State.missMark
  simp only []
  split_ifs
  · exact ((hcount.setTb hcount.tb.loseEdges (Timebase.loseEdges_depth _)).setCondition _).reportChange _ _
  · exact (hcount.setTb hcount.tb.loseEdges (Timebase.loseEdges_depth _)).reportChange _ _
  · exact hcount

/-! ### Sensor ports and entries -/

/-- An ACTIVE port has seen the first mark (R39). -/
theorem Lawful.running_of_active (h : Lawful s) {p : Port} (hp : (s.port p).mode = .active) : s.phase = .running := by
  by_contra hn
  rw [(h.ports p).early hn] at hp
  cases hp

theorem Lawful.haltPort (h : Lawful s) (hr : s.phase = .running) (p : Port) (e : FifoEntry) : Lawful (s.haltPort p e) := by
  refine Lawful.offerNotice (Lawful.setCondition (Lawful.setPort ((h.count _).raiseFault _) p ?_) _) _
  exact ⟨by simp, fun hn => absurd (by simpa using hr) hn⟩

theorem Lawful.frameArrives (h : Lawful s) (p : Port) (body : List Byte) : Lawful (s.frameArrives p body) := by
  unfold State.frameArrives
  simp only []
  split_ifs with hm
  · exact h
  · exact (h.count _).setCondition _
  · exact h.setPort p ((h.ports p).of_agree rfl rfl)
  · have hactive : (s.port p).mode = .active := by simpa using hm
    split
    · exact (h.count _).raiseFault _
    · exact h.haltPort (h.running_of_active hactive) p _

theorem Lawful.portByte (h : Lawful s) (p : Port) (b : Byte) : Lawful (s.portByte p b) := by
  unfold State.portByte
  simp only []
  split
  · split_ifs
    · exact h.setPort p ((h.ports p).of_agree rfl rfl)
    · exact h
  · split_ifs
    · exact h.setPort p ((h.ports p).of_agree rfl rfl)
    · refine Lawful.frameArrives (h.setPort p ?_) p _
      exact (h.ports p).of_agree rfl rfl

theorem Lawful.onPortByte (h : Lawful s) (p : Port) (b : Byte) (n : Nat) : Lawful (s.onPortByte p b n) := by
  unfold State.onPortByte
  split
  · exact h
  · exact (h.elapse n).portByte p b

theorem Lawful.matchEntry (h : Lawful s) (p : Port) (e : FifoEntry) : Lawful (s.matchEntry p e) := by
  unfold State.matchEntry
  split
  · exact h.count _
  · split
    · exact h.count _
    · split_ifs
      · exact h.count _
      · exact h.count _
      · exact h.setAsm (by simpa using h.openSet)

theorem Lawful.takeEntry (h : Lawful s) (p : Port) : Lawful (s.takeEntry p) := by
  unfold State.takeEntry
  split
  · exact h
  · have htaken : Lawful (s.setPort p (s.port p).takeOldest) := h.setPort p ((h.ports p).of_agree rfl rfl)
    have hserved := htaken.setAsm (x := { (s.setPort p (s.port p).takeOldest).asm with lastServed := p }) htaken.openSet
    simp only []
    split
    · exact hserved
    · exact hserved.matchEntry p _

/-! ### Closes -/

theorem Lawful.setScreen (h : Lawful s) (k : Fin 2) {sc : Screen} (hsc : sc.Legal) : Lawful (s.setScreen k sc) :=
  h.setScreens (screens_set_legal h.screens k hsc)

theorem Lawful.countScreened (h : Lawful s) (k : Fin 2) (tick : TickId) (r : Screened) : Lawful (s.countScreened k tick r) :=
  h.of_agree (by simp) (by simp) (by simp) (by simp) (by simp) (by simp) (by simp) (by simp) (by simp)

theorem Lawful.combine (h : Lawful s) (d : TriadDescriptor) (k : Fin 2) (tick : TickId)
    (samples : Vector CorrectedSample 16) : Lawful (s.combine d k tick samples).1 :=
  h.of_agree (by simp) (by simp) (by simp) (by simp) (by simp) (by simp) (by simp) (by simp) (by simp)

theorem Lawful.prepareTriad (h : Lawful s) (cc : CloseContext) (k : Fin 2) : Lawful (s.prepareTriad cc k).state :=
  (h.setScreen k (((h.screens k).axisCheck _).pendingClearStep _)).countBy _ _

theorem Lawful.runTriad (h : Lawful s) (cc : CloseContext) (k : Fin 2) (tick : TickId)
    (samples : Vector CorrectedSample 16) : Lawful (s.runTriad cc k tick samples).state := by
  unfold State.runTriad
  simp only []
  split
  · have hcombined := h.combine (cc.config.triads[k]) k tick samples
    exact (hcombined.setScreen k ((hcombined.screens k).stageD _ _ _)).countScreened _ _ _
  · exact h

theorem Lawful.combineTriads (h : Lawful s) (cc : CloseContext) (tick : TickId) (samples : Vector CorrectedSample 16) :
    Lawful (s.combineTriads cc tick samples).1 :=
  ((((h.prepareTriad cc 0).prepareTriad cc 1).runTriad cc 0 tick samples).runTriad cc 1 tick samples)

theorem Lawful.revalidate (h : Lawful s) (c : Configuration) (t : OpenTick) : Lawful (s.revalidate c t).1 :=
  h.of_agree (by simp) (by simp) (by simp) (by simp) (by simp) (by simp) (by simp) (by simp) (by simp)

theorem Lawful.correct (h : Lawful s) (cc : CloseContext) (t : OpenTick) (slots : Vector Slot 16) :
    Lawful (s.correct cc t slots).state :=
  h.of_agree (by simp) (by simp) (by simp) (by simp) (by simp) (by simp) (by simp) (by simp) (by simp)

theorem Lawful.decimate (h : Lawful s) (cc : CloseContext) (tick : TickId) (samples : Vector CorrectedSample 16)
    (strangers : Bool × Bool) (decisions : List Decision × List Decision) :
    Lawful (s.decimate cc tick samples strangers decisions) :=
  h.of_agree (by simp) (by simp) (by simp) (by simp) (by simp) (by simp) (by simp) (by simp) (by simp)

theorem Lawful.closeTick (h : Lawful s) (cc : CloseContext) (t : OpenTick) : Lawful (s.closeTick cc t) := by
  simp only [State.closeTick]
  refine Lawful.decimate ?_ cc t.id _ _ _
  refine Lawful.combineTriads ?_ cc t.id _
  exact (h.revalidate cc.config t).correct cc t _

theorem Lawful.endClose (h : Lawful s) : Lawful s.endClose := by
  refine Lawful.beginClose (h.setAsm ?_)
  exact h.openSet

/-! ### Station link and lines -/

theorem Lawful.upstreamBad (h : Lawful s) : Lawful s.upstreamBad := (h.count _).setCondition _

/-- A confirmed trial is no waiting change, before or after (R173). -/
theorem Lawful.confirmTrial (h : Lawful s) : Lawful s.confirmTrial := by
  unfold State.confirmTrial
  split
  · rename_i ht
    refine (h.setLink ?_).touchSettings
    refine ⟨⟨fun hw => ?_, fun hi => by cases hi⟩, h.link.revert⟩
    have := h.link.waiting.mp hw
    rw [ht.1] at this
    cases this
  · exact h

theorem Lawful.joinRequest (h : Lawful s) (q : Request) : Lawful (s.joinRequest q) := by
  unfold State.joinRequest
  split
  · exact h.setLink ⟨h.link.waiting, h.link.revert⟩
  · exact (h.count _).setCondition _

theorem Lawful.judgeFrame (h : Lawful s) (len : Nat) (bytes : List Byte) : Lawful (s.judgeFrame len bytes) := by
  unfold State.judgeFrame
  split
  · exact h.upstreamBad
  · exact h.joinRequest _

theorem Lawful.frameArrived (h : Lawful s) (len : Nat) (bytes : List Byte) : Lawful (s.frameArrived len bytes) := by
  unfold State.frameArrived
  split
  · exact h.confirmTrial.judgeFrame _ _
  · exact h.upstreamBad

theorem Lawful.lateFrameArrived (h : Lawful s) (len : Nat) (bytes : List Byte) : Lawful (s.lateFrameArrived len bytes) := by
  unfold State.lateFrameArrived
  split
  · exact h.judgeFrame _ _
  · exact h.upstreamBad

theorem Lawful.huntByte (h : Lawful s) (b : Byte) : Lawful (s.huntByte b) := by
  unfold State.huntByte
  split
  · refine Lawful.lateFrameArrived (h.setLink ?_) _ _
    exact ⟨h.link.waiting, h.link.revert⟩
  · split
    · exact h.setLink ⟨h.link.waiting, h.link.revert⟩
    · exact h

theorem Lawful.linkByte (h : Lawful s) (b : Byte) : Lawful (s.linkByte b) := by
  unfold State.linkByte
  simp only []
  split
  · exact h.huntByte b
  · split_ifs
    · exact (h.setLink h.link.hunt).upstreamBad
    · exact h.setLink ⟨h.link.waiting, h.link.revert⟩
  · split_ifs
    · exact h.setLink ⟨h.link.waiting, h.link.revert⟩
    · exact (h.setLink h.link.hunt).frameArrived _ _

theorem Lawful.onLinkByte (h : Lawful s) (b : Byte) (n : Nat) : Lawful (s.onLinkByte b n) := by
  unfold State.onLinkByte
  simp only []
  split
  · exact (h.elapse n).linkByte b
  · exact h.elapse n

theorem Lawful.abandonUpstream (h : Lawful s) : Lawful s.abandonUpstream := by
  unfold State.abandonUpstream
  split
  · exact h
  · exact (h.setLink h.link.hunt).upstreamBad
  · exact (h.setLink h.link.hunt).upstreamBad

theorem Lawful.takeMarker (h : Lawful s) (edge : Edge) : Lawful (s.takeMarker edge) := by
  unfold State.takeMarker
  simp only []
  split
  · exact (h.setAux _).offerData _
  · exact h.setAux _

/-! ### Power -/

/-- A device at its power-on values with legal settings in force and its settings store legal. -/
theorem Lawful.fresh {phase : Phase} {st : Settings} {x : SettingsStore} (hst : Claims.legalSettings st) (hx : x.Legal)
    (hl : phase ≠ .off → x.LevelLegal) (holdIn : Bool) (pending : List Instr) :
    Lawful (State.fresh phase st x holdIn pending) where
  tb := Timebase.Legal.powerOn hst
  ports := by
    intro p
    cases p with
    | a => exact SensorPort.powerOn_legal st.portA phase
    | b => exact SensorPort.powerOn_legal st.portB phase
  openSet := Nat.zero_le _
  screens := screens_replicate_legal
  staging := by simp [Staging.Legal, State.fresh, Staging.powerOn]
  link := Link.powerOn_legal st holdIn
  settings := hx
  level := hl

theorem Lawful.powerOn (h : Lawful s) : Lawful s.powerOn := by
  have hfresh : Lawful (State.fresh .loaded s.settings.image.load s.settings.loaded s.link.holdIn s.pending) :=
    Lawful.fresh h.settings.load h.settings.loaded (fun _ => s.settings.loaded_levelLegal) _ _
  unfold State.powerOn
  simp only []
  split
  · exact hfresh.setCondition _
  · exact hfresh

end Sys2Proof.Machine
end

section
/-! PROOFS. O59: every step keeps the device in legal states: the judgement of each request and the meaning of each command keep
`Lawful`, and a step runs one command (R1, R9 to R14, R18, R28, R39, R42, R101, R107, R149, R155, R171, R174, R200, R201, R204). -/

namespace Sys2Proof.Machine

/-! ### Requests -/

/-- A judgement keeps legal states: it is made while the device runs (R208). -/
def JudgesLawful (judge : Request → State → Reply) : Prop :=
  ∀ (q : Request) (s : State), Lawful s → s.phase = .running → Lawful (judge q s).state

/-- The handler takes nothing before the first mark (R208). -/
theorem State.running_of_takeable {s : State} {q : Request} (h : s.takeable = some q) : s.phase = .running := by
  by_contra hn
  rw [State.takeable_none (.inl hn)] at h
  cases h

theorem Lawful.finish {r : Reply} (h : Lawful r.state) (q : Request) : Lawful (r.finish q) := by
  unfold Reply.finish
  refine foldl_keeps Lawful _ (fun u n hu => hu.offerNotice n) _ _ ?_
  split
  · exact h.offerResponse _
  · exact h

theorem Lawful.take {s : State} (h : Lawful s) (name : RequestName) {judge : Request → State → Reply}
    (hj : JudgesLawful judge) : Lawful (s.take name judge) := by
  rcases State.take_cases s name judge with heq | ⟨q, htake, _, ⟨_, heq⟩ | ⟨_, heq⟩⟩
  · rwa [heq]
  · rw [heq]
    have hr := State.running_of_takeable htake
    exact (hj q _ h.dropRequest hr).finish q
  · rw [heq]
    exact Lawful.finish (r := Reply.refuse s.dropRequest .badLength) h.dropRequest q

/-- A judgement that answers and changes nothing (R62, R71, R147, R148, R176, R177, R186, R190). -/
theorem JudgesLawful.of_reads {judge : Request → State → Reply} (h : ∀ q s, (judge q s).state = s) : JudgesLawful judge :=
  fun q s hs _ => (h q s).symm ▸ hs

theorem Lawful.writePending {s : State} (h : Lawful s) (c : Configuration) (data : List Byte) :
    Lawful (s.writePending c data).state := by
  unfold State.writePending
  split
  · exact h
  · exact h.setStaging h.staging

theorem Lawful.writeStore {s : State} (h : Lawful s) (l : List Nat) (store : Store) (data : List Byte) :
    Lawful (s.writeStore l store data).state := by
  unfold State.writeStore
  split
  · exact h
  · split
    · exact h
    · exact (h.setStore store).touchSettings

theorem judgeOutputSet_lawful : JudgesLawful judgeOutputSet := by
  intro q s h _
  unfold judgeOutputSet
  simp only []
  split
  · refine Lawful.touchSettings (h.setLink ?_)
    exact ⟨h.link.waiting, h.link.revert⟩
  · exact h

/-- LINK_RATE leaves a rate waiting exactly when it leaves the state WAITING (R171). -/
theorem judgeLinkRate_lawful : JudgesLawful judgeLinkRate := by
  intro q s h _
  have hidle : ∀ l : Link, l.waitingRate = none → l.rateState = .idle → l.revertPending = s.link.revertPending →
      l.sending = s.link.sending → l.Legal := fun l hw hi hr hs =>
    ⟨by simp [hw, hi], by rw [hr, hs]; exact h.link.revert⟩
  have hwaiting : ∀ (l : Link) (m : Count16), l.waitingRate = some m → l.rateState = .waiting →
      l.revertPending = s.link.revertPending → l.sending = s.link.sending → l.Legal := fun l m hw hi hr hs =>
    ⟨by simp [hw, hi], by rw [hr, hs]; exact h.link.revert⟩
  unfold judgeLinkRate
  simp only []
  split
  · split
    · exact h
    · exact h.setLink (hwaiting _ _ rfl rfl rfl rfl)
  · rename_i hstate
    split
    · exact h.setLink (hidle _ rfl rfl rfl rfl)
    · exact h.setLink (hwaiting _ _ rfl hstate rfl rfl)
  · exact h

theorem judgeTimeLabel_lawful : JudgesLawful judgeTimeLabel := by
  intro q s h _
  refine h.setTb ?_ ?_
  · exact { h.tb with }
  · rfl

/-- The check of TIMEBASE_SET is the ranges of R18. -/
theorem timebaseOk_iff (r d h : Nat) :
    timebaseOk r d h = true ↔ legalRate r ∧ (1 ≤ d ∧ d ≤ 4) ∧ 60 ≤ h ∧ h ≤ 86400 := by
  simp only [timebaseOk, rateOk, legalRate, Bool.and_eq_true, Bool.or_eq_true, beq_iff_eq, decide_eq_true_eq]
  tauto

theorem judgeTimebaseSet_lawful : JudgesLawful judgeTimebaseSet := by
  intro q s h _
  unfold judgeTimebaseSet
  simp only []
  split
  · rename_i hok
    obtain ⟨hrate, hdepth, hlimit⟩ := (timebaseOk_iff _ _ _).mp hok
    refine (h.setTb ?_ ?_).touchSettings
    · exact { h.tb with rateSet := hrate, depthSet := hdepth, limit := hlimit }
    · rfl
  · exact h

theorem judgePortReset_lawful : JudgesLawful judgePortReset := by
  intro q s h hr
  unfold judgePortReset
  split
  · exact (h.setPort _ (hr ▸ SensorPort.reset_legal _)).touchSettings
  · exact h

theorem judgePortEnable_lawful : JudgesLawful judgePortEnable := by
  intro q s h hr
  unfold judgePortEnable
  split
  · split
    · exact h
    · rename_i hm
      refine Lawful.touchSettings (h.setPort _ ?_)
      exact hr ▸ (hr ▸ h.ports _ : SensorPort.Legal .running _).enable hm _
  all_goals exact h

theorem judgePortSet_lawful : JudgesLawful judgePortSet := by
  intro q s h _
  unfold judgePortSet
  split
  · split
    · refine (h.setPort _ ?_).touchSettings
      exact (h.ports _).of_agree rfl rfl
    · exact h
  all_goals exact h

theorem judgeChannelSet_lawful : JudgesLawful judgeChannelSet := by
  intro q s h _
  unfold judgeChannelSet
  split
  · exact h.writePending _ _
  all_goals exact h

theorem judgeTriadSet_lawful : JudgesLawful judgeTriadSet := by
  intro q s h _
  unfold judgeTriadSet
  split
  · exact h.writePending _ _
  all_goals exact h

theorem judgeFilterShape_lawful : JudgesLawful judgeFilterShape := by
  intro q s h _
  unfold judgeFilterShape
  simp only []
  split
  · exact h
  · split
    · exact h.writePending _ _
    · exact h

theorem judgeFilterTaps_lawful : JudgesLawful judgeFilterTaps := by
  intro q s h _
  unfold judgeFilterTaps
  simp only []
  split
  · exact h
  · split
    · exact h.writePending _ _
    · exact h

theorem judgeDiscard_lawful : JudgesLawful judgeDiscard := fun _ _ h _ => h.writePending _ _

/-- A commit is scheduled only while no restart is (R149). -/
theorem judgeCommit_lawful : JudgesLawful judgeCommit := by
  intro q s h _
  unfold judgeCommit
  split_ifs with hcommit hrestart
  · exact h
  · exact h
  · exact h
  · exact h
  · split
    · exact h
    · exact h.setStaging fun hboth => hrestart hboth.2

/-- A restart is scheduled only while no commit is (R209). -/
theorem judgeRestart_lawful : JudgesLawful judgeRestart := by
  intro q s h _
  unfold judgeRestart
  split_ifs with hcommit hrestart
  · exact h
  · exact h
  · exact h.setStaging fun hboth => hcommit hboth.1

theorem judgeStoreWrite_lawful : JudgesLawful judgeStoreWrite := by
  intro q s h _
  unfold judgeStoreWrite
  simp only []
  split
  · exact h.writeStore _ _ _
  · exact h

theorem judgeStorePoison_lawful : JudgesLawful judgeStorePoison := by
  intro q s h _
  unfold judgeStorePoison
  simp only []
  split
  · exact h.writeStore _ _ _
  · exact h

theorem judgeConditionsClear_lawful : JudgesLawful judgeConditionsClear := by
  intro q s h _
  unfold judgeConditionsClear
  split
  · exact h.setStatus _
  · exact h

theorem judgeCountersClear_lawful : JudgesLawful judgeCountersClear := by
  intro q s h _
  unfold judgeCountersClear
  simp only []
  split
  · exact h.setStatus _
  · exact h

theorem judgeFaultRelease_lawful : JudgesLawful judgeFaultRelease := fun _ _ h _ => h.setStatus _

theorem judgeAlertMaskSet_lawful : JudgesLawful judgeAlertMaskSet := by
  intro q s h _
  unfold judgeAlertMaskSet
  split
  · exact (h.setStatus _).touchSettings
  · exact h

theorem judgeCaptureMaskSet_lawful : JudgesLawful judgeCaptureMaskSet := by
  intro q s h _
  unfold judgeCaptureMaskSet
  simp only []
  split
  · exact (h.setStatus _).touchSettings
  · exact h

theorem judgeLineSet_lawful : JudgesLawful judgeLineSet := by
  intro q s h _
  unfold judgeLineSet
  split
  · split
    · exact h
    · exact (h.setAux _).touchSettings
  all_goals exact h

theorem judgeMarkerSet_lawful : JudgesLawful judgeMarkerSet := by
  intro q s h _
  unfold judgeMarkerSet
  split
  · exact (h.setAux _).touchSettings
  · exact h

/-- A save takes the working settings, which are legal, and leaves no whole image (R200, R204). -/
theorem Lawful.startSave {s : State} (h : Lawful s) (tag : Byte) : Lawful (s.startSave tag) := by
  refine h.setSettings ⟨(fun c hc => by cases hc), fun r hr => ?_⟩ h.level
  cases hr
  exact ⟨h.tb.settings, rfl, rfl⟩

theorem judgeSave_lawful : JudgesLawful judgeSave := by
  intro q s h _
  unfold judgeSave
  split_ifs
  · exact h
  · exact h
  · exact h.startSave q.tag

theorem judgeLockSession_lawful : JudgesLawful judgeLockSession := by
  intro q s h _
  refine h.setSettings ⟨h.settings.image, h.settings.save⟩ fun hp => ?_
  exact (Protection.locked_eq_fixed _).trans (h.level hp)

theorem judgeFixPermanent_lawful : JudgesLawful judgeFixPermanent := by
  intro q s h _
  unfold judgeFixPermanent
  split_ifs
  · exact h
  · exact h
  · exact h.setSettings ⟨h.settings.image, h.settings.save⟩ fun _ => SettingsStore.fix_levelLegal _

/-! ### Commands -/

/-- An outcome leaves a property when its next state, if it has one, has the property. -/
def Leaves (p : State → Prop) (o : Host.Outcome State Fault Refusal) : Prop := ∀ t, o = .next t → p t

@[simp] theorem leaves_next (p : State → Prop) (s : State) : Leaves p (.next s) ↔ p s :=
  ⟨fun h => h s rfl, fun h _ ht => Host.Outcome.next.inj ht ▸ h⟩

section Commands

variable {s : State}

theorem execStartUpComplete_lawful (h : Lawful s) (n : Nat) : Leaves Lawful (execStartUpComplete n s) := by
  unfold execStartUpComplete
  split
  · rename_i hp
    exact (leaves_next _ _).mpr ((h.elapse n).firstMark (by simpa using hp))
  · exact (leaves_next _ _).mpr h

theorem execMark_lawful (h : Lawful s) : Leaves Lawful (execMark s) := by
  unfold execMark
  split
  · rename_i hr
    exact (leaves_next _ _).mpr (h.dueMark (by simpa [State.running] using hr))
  · exact (leaves_next _ _).mpr h

theorem execTick_lawful (h : Lawful s) : Leaves Lawful (execTick s) := by
  unfold execTick
  split
  · exact (leaves_next _ _).mpr (h.elapseToPeriod _).issueTick
  · exact (leaves_next _ _).mpr h

theorem execStrobeEnd_lawful (h : Lawful s) : Leaves Lawful (execStrobeEnd s) := by
  unfold execStrobeEnd
  split
  · exact (leaves_next _ _).mpr h
  · refine (leaves_next _ _).mpr ((h.elapseTo _).setTb ?_ ?_)
    · exact { (h.elapseTo _).tb with }
    · rfl

theorem execMissingMarkCheck_lawful (h : Lawful s) : Leaves Lawful (execMissingMarkCheck s) := by
  have hchecked : Lawful ((s.elapseToPeriod (s.tb.length / 2)).setTb
      { (s.elapseToPeriod (s.tb.length / 2)).tb with halfChecked := true }) :=
    (h.elapseToPeriod _).setTb { (h.elapseToPeriod _).tb with } rfl
  unfold execMissingMarkCheck
  simp only []
  split
  · split
    · exact (leaves_next _ _).mpr hchecked
    · exact (leaves_next _ _).mpr hchecked.missMark
  · exact (leaves_next _ _).mpr h

theorem execPpsEdge_lawful (h : Lawful s) (n : Nat) : Leaves Lawful (execPpsEdge n s) := by
  have hmoment := h.edgeMoment n
  unfold execPpsEdge
  simp only []
  split
  · rename_i hr
    split
    · exact (leaves_next _ _).mpr (hmoment.takeEdge (by simpa [State.running] using hr))
    · exact (leaves_next _ _).mpr (hmoment.count _)
  · exact (leaves_next _ _).mpr hmoment.noteEarlyEdge

theorem execFrameAbandon_lawful (h : Lawful s) (p : Port) : Leaves Lawful (execFrameAbandon p s) := by
  unfold execFrameAbandon
  split
  · exact (leaves_next _ _).mpr h
  · split
    · exact (leaves_next _ _).mpr h
    · have hpassed := h.elapseTo ((s.port p).lastByteAt + Config.portGap + 1)
      have hhunt := hpassed.setPort p (x := { (s.elapseTo ((s.port p).lastByteAt + Config.portGap + 1)).port p with
        framing := .hunt }) ((hpassed.ports p).of_agree rfl rfl)
      simp only []
      split
      · exact (leaves_next _ _).mpr (hhunt.count _)
      · exact (leaves_next _ _).mpr hhunt

theorem execEntryTake_lawful (h : Lawful s) : Leaves Lawful (execEntryTake s) := by
  unfold execEntryTake
  split
  · exact (leaves_next _ _).mpr (h.takeEntry _)
  · exact (leaves_next _ _).mpr h
  · exact (leaves_next _ _).mpr h

theorem execTickClose_lawful (h : Lawful s) (n : Nat) : Leaves Lawful (execTickClose n s) := by
  unfold execTickClose
  split
  · exact (leaves_next _ _).mpr ((h.elapse n).closeTick _ _).endClose
  · exact (leaves_next _ _).mpr h
  · exact (leaves_next _ _).mpr h

theorem execUpstreamFramingError_lawful (h : Lawful s) (n : Nat) : Leaves Lawful (execUpstreamFramingError n s) := by
  unfold execUpstreamFramingError
  simp only []
  split
  · exact (leaves_next _ _).mpr (h.elapse n).abandonUpstream
  · exact (leaves_next _ _).mpr (h.elapse n)

theorem execUpstreamGapAbandon_lawful (h : Lawful s) : Leaves Lawful (execUpstreamGapAbandon s) := by
  unfold execUpstreamGapAbandon
  split
  · exact (leaves_next _ _).mpr (h.elapseTo _).abandonUpstream
  · exact (leaves_next _ _).mpr h

theorem execRequestUnknownCode_lawful (h : Lawful s) : Leaves Lawful (execRequestUnknownCode s) := by
  unfold execRequestUnknownCode
  split
  · exact (leaves_next _ _).mpr h
  · split
    · exact (leaves_next _ _).mpr (Lawful.finish (r := Reply.refuse s.dropRequest .unknown) h.dropRequest _)
    · exact (leaves_next _ _).mpr h

theorem execSaveEnd_lawful (h : Lawful s) (verified : Bool) (n : Nat) : Leaves Lawful (execSaveEnd verified n s) := by
  unfold execSaveEnd
  split
  · exact (leaves_next _ _).mpr h
  · rename_i r hr
    have hpassed := h.elapse n
    have hended : Lawful ((s.elapse n).setSettings ((s.elapse n).settings.endSave r verified)) :=
      hpassed.setSettings (hpassed.settings.endSave (by simpa using hr) verified)
        fun hp => SettingsStore.endSave_levelLegal (hpassed.level hp) r verified
    simp only []
    refine (leaves_next _ _).mpr ?_
    split
    · exact hended.setLink (hended.link.offerSave _)
    · exact (hended.setCondition .saveFailed).setLink (hended.link.offerSave _)

theorem execFrameStart_lawful (h : Lawful s) : Leaves Lawful (execFrameStart s) := by
  unfold execFrameStart
  split
  · exact (leaves_next _ _).mpr (h.setLink ⟨h.link.waiting, fun _ => rfl⟩)
  · exact (leaves_next _ _).mpr h

theorem execFrameSent_lawful (h : Lawful s) (n : Nat) : Leaves Lawful (execFrameSent n s) := by
  unfold execFrameSent
  split
  · split
    · exact (leaves_next _ _).mpr h
    · exact (leaves_next _ _).mpr ((h.elapse n).setLink ((h.elapse n).link.sent _ _ _))
  · exact (leaves_next _ _).mpr h

theorem execHoldInChange_lawful (h : Lawful s) (asserted : Bool) (n : Nat) :
    Leaves Lawful (execHoldInChange asserted n s) := by
  refine (leaves_next _ _).mpr ((h.elapse n).setLink ?_)
  exact ⟨(h.elapse n).link.waiting, (h.elapse n).link.revert⟩

/-- An expiry ends a trial, so no rate waits before or after it; its return waits only for a frame being sent (R173, R174). -/
theorem Link.Legal.endTrial {l : Link} (h : l.Legal) (ht : l.rateState = .trial) (clock : Nat) :
    (if l.sending then { l with rateState := .idle, revertPending := true }
      else { l with rateState := .idle }.revertAtExpiry clock).Legal := by
  have hwait : l.waitingRate = none := by
    by_contra hw
    rw [h.waiting.mp hw] at ht
    cases ht
  split
  · rename_i hs
    exact ⟨by simp [hwait], fun _ => hs⟩
  · exact ⟨by simp [Link.revertAtExpiry, Link.revert, Link.hunt, hwait], fun hr => by cases hr⟩

theorem execLinkTrialExpiry_lawful (h : Lawful s) : Leaves Lawful (execLinkTrialExpiry s) := by
  unfold execLinkTrialExpiry
  split
  · rename_i htrial
    refine (leaves_next _ _).mpr ?_
    have hnotice := ((h.elapseTo (s.link.trialStart + Config.trialPeriods)).setCondition .linkReverted).offerNotice
      (.link s.link.rate s.link.confirmedRate)
    have hrest := State.offerNotice_linkRest
      ((s.elapseTo (s.link.trialStart + Config.trialPeriods)).setCondition .linkReverted)
      (.link s.link.rate s.link.confirmedRate)
    have hstate := congrArg Link.rateState hrest
    rw [State.setCondition_link, State.elapseTo_link] at hstate
    simp only [State.elapseTo_link]
    exact hnotice.setLink (hnotice.link.endTrial (hstate.trans htrial) _)
  · exact (leaves_next _ _).mpr h

theorem execMarkerEdge_lawful (h : Lawful s) (edge : Edge) (n : Nat) : Leaves Lawful (execMarkerEdge edge n s) := by
  have hmoment := h.edgeMoment n
  unfold execMarkerEdge
  simp only []
  split
  · exact (leaves_next _ _).mpr (hmoment.takeMarker edge)
  · split
    · exact (leaves_next _ _).mpr hmoment
    · exact (leaves_next _ _).mpr hmoment.noteEarlyEdge

theorem execSecondMarkEnd_lawful (h : Lawful s) : Leaves Lawful (execSecondMarkEnd s) := by
  unfold execSecondMarkEnd
  split
  · exact (leaves_next _ _).mpr h
  · exact (leaves_next _ _).mpr ((h.elapseTo _).setAux _)

theorem execCode2IntervalEnd_lawful (h : Lawful s) : Leaves Lawful (execCode2IntervalEnd s) := by
  unfold execCode2IntervalEnd
  split
  · exact (leaves_next _ _).mpr h
  · exact (leaves_next _ _).mpr ((h.elapseTo _).setStatus _)

theorem execPowerLoss_lawful (h : Lawful s) : Leaves Lawful (execPowerLoss s) :=
  (leaves_next _ _).mpr (Lawful.fresh Settings.default_legal h.settings.unpowered (fun hn => absurd rfl hn) _ _)

/-- A request row keeps legal states when its judgement does. -/
theorem leaves_take (h : Lawful s) (name : RequestName) {judge : Request → State → Reply} (hj : JudgesLawful judge) :
    Leaves Lawful (.next (s.take name judge)) := (leaves_next _ _).mpr (h.take name hj)

/-- Every command keeps legal states. -/
theorem exec_lawful (h : Lawful s) (c : Instr) : Leaves Lawful (exec c s) := by
  cases c with
  | powerOn => exact (leaves_next _ _).mpr h.powerOn
  | startUpComplete n => exact execStartUpComplete_lawful h n
  | mark => exact execMark_lawful h
  | tick => exact execTick_lawful h
  | strobeEnd => exact execStrobeEnd_lawful h
  | missingMarkCheck => exact execMissingMarkCheck_lawful h
  | ppsEdge n => exact execPpsEdge_lawful h n
  | sampleFrameArrival p b n => exact (leaves_next _ _).mpr (h.onPortByte p b n)
  | frameAbandon p => exact execFrameAbandon_lawful h p
  | entryTake => exact execEntryTake_lawful h
  | tickClose n => exact execTickClose_lawful h n
  | upstreamFrameArrival b n => exact (leaves_next _ _).mpr (h.onLinkByte b n)
  | upstreamLenReject b n => exact (leaves_next _ _).mpr (h.onLinkByte b n)
  | upstreamFramingError n => exact execUpstreamFramingError_lawful h n
  | upstreamGapAbandon => exact execUpstreamGapAbandon_lawful h
  | requestUnknownCode => exact execRequestUnknownCode_lawful h
  | ident => exact leaves_take h _ (.of_reads judgeIdent_state)
  | status => exact leaves_take h _ (.of_reads judgeStatus_state)
  | outputSet => exact leaves_take h _ judgeOutputSet_lawful
  | linkRate => exact leaves_take h _ judgeLinkRate_lawful
  | timeLabel => exact leaves_take h _ judgeTimeLabel_lawful
  | timebaseSet => exact leaves_take h _ judgeTimebaseSet_lawful
  | portReset => exact leaves_take h _ judgePortReset_lawful
  | portEnable => exact leaves_take h _ judgePortEnable_lawful
  | portSet => exact leaves_take h _ judgePortSet_lawful
  | channelSet => exact leaves_take h _ judgeChannelSet_lawful
  | channelGet => exact leaves_take h _ (.of_reads judgeChannelGet_state)
  | triadSet => exact leaves_take h _ judgeTriadSet_lawful
  | triadGet => exact leaves_take h _ (.of_reads judgeTriadGet_state)
  | filterShape => exact leaves_take h _ judgeFilterShape_lawful
  | filterTaps => exact leaves_take h _ judgeFilterTaps_lawful
  | filterGet => exact leaves_take h _ (.of_reads judgeFilterGet_state)
  | discard => exact leaves_take h _ judgeDiscard_lawful
  | commit => exact leaves_take h _ judgeCommit_lawful
  | storeWrite => exact leaves_take h _ judgeStoreWrite_lawful
  | storeRead => exact leaves_take h _ (.of_reads judgeStoreRead_state)
  | storePoison => exact leaves_take h _ judgeStorePoison_lawful
  | conditionsClear => exact leaves_take h _ judgeConditionsClear_lawful
  | countersRead => exact leaves_take h _ (.of_reads judgeCountersRead_state)
  | countersClear => exact leaves_take h _ judgeCountersClear_lawful
  | faultRead => exact leaves_take h _ (.of_reads judgeFaultRead_state)
  | faultRelease => exact leaves_take h _ judgeFaultRelease_lawful
  | alertMaskSet => exact leaves_take h _ judgeAlertMaskSet_lawful
  | captureMaskSet => exact leaves_take h _ judgeCaptureMaskSet_lawful
  | lineSet => exact leaves_take h _ judgeLineSet_lawful
  | markerSet => exact leaves_take h _ judgeMarkerSet_lawful
  | save => exact leaves_take h _ judgeSave_lawful
  | restart => exact leaves_take h _ judgeRestart_lawful
  | lockSession => exact leaves_take h _ judgeLockSession_lawful
  | fixPermanent => exact leaves_take h _ judgeFixPermanent_lawful
  | saveEnd verified n => exact execSaveEnd_lawful h verified n
  | frameStart => exact execFrameStart_lawful h
  | frameSent n => exact execFrameSent_lawful h n
  | holdInChange asserted n => exact execHoldInChange_lawful h asserted n
  | linkTrialExpiry => exact execLinkTrialExpiry_lawful h
  | markerEdge edge n => exact execMarkerEdge_lawful h edge n
  | secondMarkEnd => exact execSecondMarkEnd_lawful h
  | code2IntervalEnd => exact execCode2IntervalEnd_lawful h
  | sampleFrameByte p b n => exact (leaves_next _ _).mpr (h.onPortByte p b n)
  | upstreamFrameByte b n => exact (leaves_next _ _).mpr (h.onLinkByte b n)
  | powerLoss => exact execPowerLoss_lawful h

/-- Every step keeps legal states: it runs one command on the state with the queue's rest, or idles (log 1). -/
theorem step_lawful (h : Lawful s) : Leaves Lawful (step s) := by
  unfold step
  split
  · exact (leaves_next _ _).mpr h
  · exact exec_lawful (h.setPending _) _

end Commands

/-- Settles O59: `Legal` is the invariant `Lawful` by blocks, which every step keeps. -/
theorem stepKeepsLegalStates : Obligations.StepKeepsLegalStates := by
  intro s t hs hstep
  exact (legal_iff_lawful t).mpr (step_lawful ((legal_iff_lawful s).mp hs) t hstep)

end Sys2Proof.Machine
end

section
/-! PROOFS. The words of the statements against the operations of the machine: each claim about time, notices, ticks, marks and
edges is what one operation does (R1, R2, R4, R5, R7, R9, R14, R19, R42, R50, R116, R131, R132, R152, R193). -/

namespace Sys2Proof.Machine

open Sys2Proof.Claims

variable {s : State}

/-! ### Time, notices, status -/

/-- On a powered device passing time is `passed` (R1). -/
theorem State.elapse_eq_passed (h : s.phase ≠ .off) (n : Nat) : s.elapse n = passed s n := by
  unfold State.elapse passed
  rw [if_neg h]
  simp only [State.running, beq_iff_eq]
  rfl

/-- No time passes in no periods. -/
theorem State.elapse_zero : s.elapse 0 = s := by
  unfold State.elapse
  split
  · rfl
  · simp only [Nat.add_zero, ite_self]
    rfl

theorem State.setCondition_eq (c : Condition) : s.setCondition c = conditionSet s c := rfl

theorem State.count_eq (c : Counter) : s.count c = counted s c := rfl

/-- A notice joins the output queue while fewer than 60 places are occupied (R167). -/
theorem State.offerNotice_eq (h : s.link.output.length < 60) (n : Notice) : s.offerNotice n = admitted s (.notice n) :=
  if_pos h

theorem State.timebaseNotice_eq (h : s.link.output.length < 60) (c : TimebaseCause) (d : Discipline) (e : Option Int) :
    s.timebaseNotice c d e = timebaseReport s c d e := State.offerNotice_eq h _

@[simp] theorem admitted_output_length (b : Body) : (admitted s b).link.output.length = s.link.output.length + 1 := by
  simp [admitted]

@[simp] theorem timebaseReport_output_length (c : TimebaseCause) (d : Discipline) (e : Option Int) :
    (timebaseReport s c d e).link.output.length = s.link.output.length + 1 := admitted_output_length _

/-! ### Ticks (R4, R5, R42, R50) -/

/-- The close that begins is the one of the statement (R43, R50). -/
theorem State.beginClose_eq : s.beginClose = closeBegun s := by
  unfold State.beginClose closeBegun
  split
  · rename_i hc hq
    rw [if_pos ⟨hc, by simp [hq]⟩]
    rfl
  · rename_i hq
    rw [if_neg (by simp [hq])]
  · rename_i hc
    rw [if_neg (by simp [hc])]

/-- A tick joins the open set, and a full one gives its oldest to the close queue (R42). -/
theorem Assembler.issue_eq (a : Assembler) (depth : Nat) (id : TickId) : a.issue depth id = opened a depth id := by
  cases hopen : a.openSet with
  | nil => simp [Assembler.issue, opened, hopen, lastN, OpenTick.fresh]
  | cons oldest rest =>
    by_cases hfull : depth ≤ rest.length + 1 <;> simp [Assembler.issue, opened, hopen, hfull, lastN, OpenTick.fresh]

/-- STROBE is released at the later of two ends (R5). -/
theorem strobeEnd_eq (running : Option Nat) (clock : Nat) (count : Num32) :
    some (strobeEnd running (clock + strobeLength count)) = pulseEnd running clock count := by
  cases running <;> rfl

/-- The issue of a tick is the statement's (R4, R5, R42, R50). -/
theorem State.issueTick_eq : s.issueTick = tickIssued s := by
  simp only [State.issueTick, tickIssued, State.beginClose_eq, Assembler.issue_eq, strobeEnd_eq]
  rfl

/-! ### The timebase's part of a mark (R1, R2, R14) -/

/-- The timebase at a mark is the statement's (R1, R2, R14). -/
theorem Timebase.mark_eq (t : Timebase) (n : Num32) : t.mark n = marked t n := by
  cases hd : t.discipline <;>
    simp [Timebase.mark, Timebase.ageHoldover, Timebase.beginSecond, Timebase.markQuality, Timebase.nextAge,
      Timebase.nextLength, marked, hd]

/-- The age reaches the limit at this mark (R14). -/
theorem Timebase.becomesLong_iff (t : Timebase) : t.becomesLong = true ↔
    t.discipline = .holdover ∧ t.holdoverLong = false ∧ t.holdoverLimit ≤ min 86400 (t.holdoverAge + 1) := by
  simp [Timebase.becomesLong, Timebase.nextAge, and_assoc]

/-- The timebase's part of a mark, its notice admitted (R2, R14, R19). -/
theorem State.markTimebase_eq (h : s.link.output.length < 60) (n : Num32) : s.markTimebase n = timed s n := by
  simp only [State.markTimebase, timed, Timebase.mark_eq, Timebase.becomesLong_iff]
  split
  · exact State.timebaseNotice_eq (s := (s.setTb (marked s.tb n)).setCondition .holdoverLong) h _ _ _
  · rfl

/-- At most one notice, and that in HOLDOVER. -/
theorem timed_output_length (n : Num32) :
    (timed s n).link.output.length ≤ s.link.output.length + (if s.tb.discipline = .holdover then 1 else 0) := by
  unfold timed
  simp only []
  split
  · rename_i hl
    rw [if_pos hl.1]
    exact le_of_eq (timebaseReport_output_length _ _ _)
  · exact Nat.le_add_right _ _

@[simp] theorem timed_staging (n : Num32) : (timed s n).staging = s.staging := by
  unfold timed; simp only []; split <;> rfl
@[simp] theorem timed_screens (n : Num32) : (timed s n).screens = s.screens := by
  unfold timed; simp only []; split <;> rfl
@[simp] theorem timed_dec (n : Num32) : (timed s n).dec = s.dec := by
  unfold timed; simp only []; split <;> rfl
@[simp] theorem timed_tb (n : Num32) : (timed s n).tb = marked s.tb n := by
  unfold timed; simp only []; split <;> rfl

/-! ### The consumers of a mark (R116, R131, R132, R152, R193) -/

theorem State.raiseLines_eq : s.raiseLines = linesRaised s := rfl

/-- The filters in which two configurations differ, in their order (R153). -/
theorem changedFilters_eq (a b : Configuration) :
    changedFilters a b = (if a.second != b.second then [.second] else []) ++ (if a.minute != b.minute then [.minute] else []) := by
  unfold changedFilters filterChoice
  by_cases h1 : a.second != b.second <;> by_cases h2 : a.minute != b.minute <;>
    simp [Configuration.filter, h1, h2]

/-- A commit applied at the mark that has just begun the second in progress (R152, R153). -/
theorem State.applyCommit_eq (h : s.link.output.length < 60) : s.applyCommit s.tb.second = committed s := by
  unfold State.applyCommit
  simp only []
  rw [State.offerNotice_eq (by simpa using h)]
  simp only [Staging.commitNotice, changedFilters_eq]
  rfl

/-- The decimator's clears are what it is told (R131, R132). -/
theorem Decimator.markClears_eq (d : Decimator) (byStep relabelled : Bool) (t0 second : Num32) :
    d.markClears byStep relabelled t0 second = told d byStep relabelled t0 second := by
  cases byStep <;> cases relabelled <;> rfl

theorem recordFlags_eq (byStep relabelled committed : Bool) :
    recordFlags byStep relabelled committed = flagsOf byStep relabelled committed := by
  cases byStep <;> cases relabelled <;> cases committed <;> rfl

theorem Timebase.secondEntry_eq (t : Timebase) (byStep relabelled committed : Bool) :
    t.secondEntry byStep relabelled committed = markEntry t (flagsOf byStep relabelled committed) := by
  simp only [Timebase.secondEntry, recordFlags_eq, markEntry]

/-- The scheduled work of a mark without a restart is the commit, if one is scheduled (R152). -/
theorem State.scheduledWork_of_noRestart (h : s.staging.restartScheduled = false) :
    s.scheduledWork = if s.staging.commitScheduled then s.applyCommit s.tb.second else s := by
  unfold State.scheduledWork
  rw [if_neg (by simp [h])]

/-- What a commit leaves alone, the scheduled work of a mark without a restart leaves alone. -/
theorem State.scheduledWork_frame {α : Type} (f : State → α) (hf : ∀ s n, f (State.applyCommit s n) = f s)
    (h : s.staging.restartScheduled = false) : f s.scheduledWork = f s := by
  rw [State.scheduledWork_of_noRestart h]
  split
  · exact hf _ _
  · rfl

/-- A state with its screens and its decimator replaced. -/
def State.withConsumers (s : State) (screens : Vector Screen 2) (dec : Decimator) : State :=
  { s with screens := screens, dec := dec }

theorem State.setDec_eq_withConsumers (d : Decimator) : s.setDec d = s.withConsumers s.screens d := rfl

theorem State.setScreens_withConsumers (x y : Vector Screen 2) (d : Decimator) :
    (s.setScreens x).withConsumers y d = s.withConsumers y d := rfl

/-- What a mark without a restart does after the timebase's part: the lines, the commit, the screens of a step, the decimator's
clears and entry, tick index 0 (R116, R131, R132, R152, R193). -/
theorem State.markConsumers_of_noRestart (h : s.staging.restartScheduled = false) (byStep relabelled : Bool) :
    s.markConsumers byStep relabelled = (s.raiseLines.scheduledWork.withConsumers
      (if byStep then Vector.ofFn fun k => (s.screens[k]).awaitClear else s.screens)
      ((s.dec.markClears byStep relabelled (s.tb.tickCount + 1) s.tb.second).addSecond
        (s.tb.secondEntry byStep relabelled s.staging.commitScheduled))).issueTick := by
  have hraised : s.raiseLines.staging.restartScheduled = false := h
  have htb : s.raiseLines.scheduledWork.tb = s.tb := State.scheduledWork_frame State.tb (by simp) hraised
  have hscreens : s.raiseLines.scheduledWork.screens = s.screens := State.scheduledWork_frame State.screens (by simp) hraised
  have hdec : s.raiseLines.scheduledWork.dec = s.dec := State.scheduledWork_frame State.dec (by simp) hraised
  cases byStep <;>
    simp [State.markConsumers, h, htb, hscreens, hdec, State.setDec_eq_withConsumers, State.setScreens_withConsumers]

/-- The scheduled work of a mark without a restart, its COMMIT notice admitted (R152, R153). -/
theorem State.scheduledWork_eq (h : s.staging.restartScheduled = false)
    (hroom : s.staging.commitScheduled = true → s.link.output.length < 60) :
    s.scheduledWork = if s.staging.commitScheduled then committed s else s := by
  rw [State.scheduledWork_of_noRestart h]
  split
  · rename_i hc
    exact State.applyCommit_eq (hroom hc)
  · rfl

/-- A mark without a restart is the statement's, its notices admitted (R2, R14, R116, R131, R132, R152, R193). -/
theorem State.makeMark_eq (h : s.staging.restartScheduled = false) (hroom : s.link.output.length < 60)
    (hcommit : s.staging.commitScheduled = true →
      s.link.output.length + (if s.tb.discipline = .holdover then 1 else 0) < 60) (n : Num32) (byStep relabelled : Bool) :
    s.makeMark n byStep relabelled = markMade s n byStep relabelled := by
  have hwork : (linesRaised (timed s n)).scheduledWork =
      if s.staging.commitScheduled then committed (linesRaised (timed s n)) else linesRaised (timed s n) := by
    have := State.scheduledWork_eq (s := linesRaised (timed s n)) (by simpa [linesRaised] using h)
      (fun hc => lt_of_le_of_lt (timed_output_length n) (hcommit (by simpa [linesRaised] using hc)))
    simpa [linesRaised] using this
  rw [State.makeMark, State.markTimebase_eq hroom, State.markConsumers_of_noRestart (by simpa using h), State.raiseLines_eq, hwork]
  simp only [timed_staging, timed_screens, timed_dec, timed_tb, State.issueTick_eq, Decimator.markClears_eq,
    Timebase.secondEntry_eq, markMade, show (linesRaised (timed s n)).tb = marked s.tb n from timed_tb n]
  rfl

end Sys2Proof.Machine
end

section
/-! PROOFS. A taken edge: what the edge's command finds, and what the machine does for each action of the table of 1.4, in the words
of the statements (R6 to R9, R15, R17, R19, R192). -/

namespace Sys2Proof.Machine

open Sys2Proof.Claims

variable {s : State} {n : Nat}

/-! ### The edge's moment, its phase error, its note -/

/-- A clamp is a maximum of a minimum. -/
theorem clampInt_eq {lo hi : Int} (v : Int) (h : lo ≤ hi) : clampInt lo hi v = max lo (min hi v) := by
  unfold clampInt
  split_ifs <;> omega

/-- The phase error that an edge n periods from now is judged by and reported with: clamped (R7). -/
def reportedError (s : State) (n : Nat) : Int := max (-5000000) (min 4999999 (edgeError s n))

/-- The clamp leaves a phase error within 500 periods alone. -/
theorem reportedError_of_le (h : (edgeError s n).natAbs ≤ 500) : reportedError s n = edgeError s n := by
  unfold reportedError
  omega

/-- The clamp keeps a phase error beyond 500 periods beyond them. -/
theorem lt_natAbs_reportedError (h : 500 < (edgeError s n).natAbs) : 500 < (reportedError s n).natAbs := by
  unfold reportedError
  omega

@[simp] theorem passed_phase : (passed s n).phase = s.phase := rfl

theorem passed_running (h : s.phase = .running) : (passed s n).running = true := by simp [State.running, h]

theorem passed_period (h : s.phase = .running) : (passed s n).tb.period = s.tb.period + n := if_pos h

/-- An edge before the due mark finds the state with the time passed (R7). -/
theorem State.edgeMoment_eq_passed (hr : s.phase = .running) (h : inSecond s n) : s.edgeMoment n = passed s n :=
  (State.edgeMoment_of_lt h).trans (State.elapse_eq_passed (by rw [hr]; decide) n)

/-- An edge is taken when 9,000,000 periods lie behind the last taken one (R6). -/
theorem takesEdge_passed (h : takesEdge s n) : (passed s n).tb.takesEdge = true := by
  obtain ⟨_, hspaced⟩ := h
  have hlast : (passed s n).tb.lastEdge = s.tb.lastEdge := rfl
  unfold Timebase.takesEdge
  cases hl : s.tb.lastEdge with
  | none => rw [hlast, hl]
  | some a =>
    rw [hlast, hl]
    exact decide_eq_true (hspaced a hl)

theorem beforeHalf_passed (h : s.phase = .running) :
    (passed s n).tb.beforeHalf = decide (s.tb.period + n < s.tb.length / 2) := by
  unfold Timebase.beforeHalf
  rw [passed_period h]
  rfl

theorem phaseError_passed (h : s.phase = .running) : (passed s n).tb.phaseError = reportedError s n := by
  unfold Timebase.phaseError reportedError edgeError
  rw [clampInt_eq _ (by decide), beforeHalf_passed h, passed_period h]
  simp only [decide_eq_true_eq]
  rfl

/-- A taken edge noted is the statement's (R6, R7, R8, R17, R192). -/
theorem noteEdge_passed (h : s.phase = .running) :
    ((passed s n).setTb (passed s n).tb.noteEdge).setStatus { (passed s n).status with code2 := none } = edgeNoted s n := by
  unfold Timebase.noteEdge edgeNoted
  rw [beforeHalf_passed h]
  rfl

/-! ### The command of an edge -/

/-- A taken edge before the due mark (R6, R7). -/
theorem exec_ppsEdge_taken (h : takesEdge s n) (hin : inSecond s n) :
    exec (.ppsEdge n) s = .next (passed s n).takeEdge := by
  simp only [exec, execPpsEdge, State.edgeMoment_eq_passed h.1 hin, passed_running h.1, takesEdge_passed h, if_true]

/-- An edge within 500 periods is an update (1.4). -/
theorem edgeAction_of_le {e : Int} (h : e.natAbs ≤ 500) (d : Discipline) : edgeAction d e = .update :=
  if_neg (Nat.not_lt_of_le h)

/-- An edge beyond 500 periods in LOCKED is an outlier (R12). -/
theorem edgeAction_locked {e : Int} (h : 500 < e.natAbs) : edgeAction .locked e = .outlier := if_pos h

/-- An edge beyond 500 periods outside LOCKED is a step (R15). -/
theorem edgeAction_step {e : Int} (h : 500 < e.natAbs) {d : Discipline} (hd : d ≠ .locked) : edgeAction d e = .step := by
  refine (if_pos h).trans ?_
  cases d with
  | freeRun => rfl
  | acquire => rfl
  | locked => exact absurd rfl hd
  | holdover => rfl

/-- An update of D and c is the statement's (R9). -/
theorem Timebase.update_eq (t : Timebase) (e : Int) : t.update e = edgeUpdated t e := by
  unfold Timebase.update
  rw [clampInt_eq _ (by decide), clampInt_eq _ (by decide)]
  rfl

/-- The state after an edge that was updated, its change of state reported, its label not yet consumed (R9 to R13, R19). -/
def updatedByEdge (s : State) (n : Nat) : State :=
  ((edgeNoted s n).setTb ((edgeUpdated (edgeNoted s n).tb (edgeError s n)).afterUpdate (edgeError s n))).reportChange
    s.tb.discipline (some (edgeError s n))

/-- The state after an outlier, its change of state reported, its label not yet consumed (R12, R19). -/
def outlierByEdge (s : State) (n : Nat) : State :=
  (((edgeNoted s n).setTb (edgeNoted s n).tb.countOutlier).count .ppsOutlier).reportChange
    s.tb.discipline (some (reportedError s n))

/-- A taken edge that is an update. -/
theorem takeEdge_update (hr : s.phase = .running) (h : (edgeError s n).natAbs ≤ 500) :
    (passed s n).takeEdge = (updatedByEdge s n).consumeLabel (decide (s.tb.period + n < s.tb.length / 2)) (edgeError s n)
      s.tb.label := by
  have haction : edgeAction (passed s n).tb.discipline (edgeError s n) = .update := edgeAction_of_le h _
  unfold State.takeEdge
  simp only [noteEdge_passed hr, beforeHalf_passed hr, phaseError_passed hr, reportedError_of_le h, haction,
    Timebase.update_eq]
  rfl

/-- A taken edge that is an outlier. -/
theorem takeEdge_outlier (hr : s.phase = .running) (hd : s.tb.discipline = .locked) (h : 500 < (edgeError s n).natAbs) :
    (passed s n).takeEdge = (outlierByEdge s n).consumeLabel (decide (s.tb.period + n < s.tb.length / 2)) (reportedError s n)
      s.tb.label := by
  have haction : edgeAction (passed s n).tb.discipline (reportedError s n) = .outlier := by
    rw [show (passed s n).tb.discipline = .locked from hd]
    exact edgeAction_locked (lt_natAbs_reportedError h)
  unfold State.takeEdge
  simp only [noteEdge_passed hr, beforeHalf_passed hr, phaseError_passed hr, haction]
  rfl

/-- A taken edge that is a step. -/
theorem takeEdge_step (hr : s.phase = .running) (hd : s.tb.discipline ≠ .locked) (h : 500 < (edgeError s n).natAbs) :
    (passed s n).takeEdge = (edgeNoted s n).stepEdge (reportedError s n) s.tb.label := by
  have haction : edgeAction (passed s n).tb.discipline (reportedError s n) = .step :=
    edgeAction_step (lt_natAbs_reportedError h) hd
  unfold State.takeEdge
  simp only [noteEdge_passed hr, phaseError_passed hr, haction]
  rfl

/-! ### A step (R15) -/

/-- The edge of a step turns the discipline to ACQUIRE before its mark (R15). -/
theorem stepDiscipline_edgeNoted : (edgeNoted s n).setTb (edgeNoted s n).tb.stepDiscipline = edgeStepped s n := rfl

/-- A label relabels a step's mark exactly when the mark's number is not the next one (R17). -/
theorem relabels_eq (label : Option Num32) (next : Num32) : relabels label next = decide (label.getD next ≠ next) := by
  cases label <;> simp [relabels, bne, beq_eq_decide]

@[simp] theorem closeBegun_tb : (closeBegun s).tb = s.tb := by
  unfold closeBegun
  split <;> rfl

/-- A mark leaves the discipline state. -/
theorem markMade_discipline (k : Num32) (byStep relabelled : Bool) :
    (markMade s k byStep relabelled).tb.discipline = s.tb.discipline := by
  have hd : (timed s k).tb.discipline = s.tb.discipline := by
    rw [timed_tb]
    rfl
  simp only [markMade, tickIssued, closeBegun_tb]
  split
  · exact hd
  · exact hd

end Sys2Proof.Machine
end

section
/-! PROOFS. Marks, ticks and the half-point check: O6, O7, O8, O10, O11 and O13 (R1 to R5, R8, R10 to R19, R39, R42, R50, R66, R116,
R132, R152, R153, R192, R193, R208). -/

namespace Sys2Proof.Machine

open Sys2Proof.Claims

variable {s : State}

/-! ### The mark that is due -/

/-- MARK makes the regular mark once the period counter has reached L (R1, R2). -/
theorem exec_mark (h : s.phase = .running) : exec .mark s = .next (passed s (s.tb.length - s.tb.period)).regularMark := by
  have hp : s.elapseToPeriod s.tb.length = passed s (s.tb.length - s.tb.period) :=
    State.elapse_eq_passed (by rw [h]; decide) _
  have hr : s.running = true := by simp [State.running, h]
  simp only [exec, execMark, hr, if_true, State.dueMark, hp]

/-- A regular mark without a waiting label begins the next second (R2). -/
theorem State.regularMark_of_none (h : s.tb.markLabel = none) :
    s.regularMark = s.makeMark (s.tb.second + 1) false false := by
  unfold State.regularMark
  rw [h]

/-- A mark that a label names begins the labelled second, and the relabel is reported (R17, R19). -/
theorem State.regularMark_of_label {n : Num32} {e : Int} (h : s.tb.markLabel = some ⟨n, e⟩) :
    s.regularMark = (s.makeMark n false true).timebaseNotice .relabel s.tb.discipline (some e) := by
  unfold State.regularMark
  rw [h]

@[simp] theorem closeBegun_link : (closeBegun s).link = s.link := by
  unfold closeBegun
  split <;> rfl

@[simp] theorem tickIssued_link : (tickIssued s).link = s.link := closeBegun_link

/-- A mark offers at most two notices: HOLDOVER_LONG in HOLDOVER, and the commit's. -/
theorem markMade_output_length (n : Num32) (byStep relabelled : Bool) :
    (markMade s n byStep relabelled).link.output.length ≤ s.link.output.length +
      (if s.tb.discipline = .holdover then 1 else 0) + (if s.staging.commitScheduled then 1 else 0) := by
  have htimed := timed_output_length (s := s) n
  simp only [markMade, tickIssued_link]
  split
  · have hcommitted : (committed (linesRaised (timed s n))).link.output.length = (timed s n).link.output.length + 1 :=
      admitted_output_length _
    rw [hcommitted]
    omega
  · exact htimed

/-- A mark with nothing scheduled, its parts written out. -/
theorem markMade_of_noCommit (h : s.staging.commitScheduled = false) (n : Num32) (byStep relabelled : Bool) :
    markMade s n byStep relabelled = tickIssued ((linesRaised (timed s n)).withConsumers
      (if byStep then Vector.ofFn fun k => { s.screens[k] with pendingClear := true } else s.screens)
      ((told s.dec byStep relabelled (s.tb.tickCount + 1) n).addSecond
        (markEntry (marked s.tb n) (flagsOf byStep relabelled false)))) := by
  have htb : (linesRaised (timed s n)).tb = marked s.tb n := timed_tb n
  simp only [markMade, h, htb]
  rfl

/-- A regular mark with nothing scheduled and no label adds its entry to the decimator and issues tick index 0. -/
theorem markMade_plain (h : s.staging.commitScheduled = false) (n : Num32) :
    markMade s n false false = tickIssued { linesRaised (timed s n) with
      dec := { s.dec with pendingSeconds := s.dec.pendingSeconds ++ [markEntry (marked s.tb n) 0] } } := by
  have hscreens : s.screens = (linesRaised (timed s n)).screens := (timed_screens n).symm
  rw [markMade_of_noCommit h, if_neg (by decide), hscreens]
  rfl

/-- Settles O7: the mark is `markMade` with nothing scheduled and no label, whose parts are written out. -/
theorem markBeginsTheNextSecond : Obligations.MarkBeginsTheNextSecond := by
  intro s hr hlabel hcommit hrestart hroom
  have hmade : (passed s (s.tb.length - s.tb.period)).makeMark (s.tb.second + 1) false false =
      markMade (passed s (s.tb.length - s.tb.period)) (s.tb.second + 1) false false :=
    State.makeMark_eq (s := passed s (s.tb.length - s.tb.period)) hrestart hroom
      (fun hc => absurd (hcommit.symm.trans hc) (by decide)) _ _ _
  have hmark : (passed s (s.tb.length - s.tb.period)).regularMark = _ :=
    State.regularMark_of_none (s := passed s (s.tb.length - s.tb.period)) hlabel
  rw [exec_mark hr, hmark]
  refine congrArg Host.Outcome.next (hmade.trans ?_)
  exact markMade_plain (s := passed s (s.tb.length - s.tb.period)) hcommit _

/-- Settles O10: a labelled mark is `markMade` for the label's number, and its RELABEL notice finds a place. -/
theorem labelledMarkRelabels : Obligations.LabelledMarkRelabels := by
  intro s n e hr hlabel hcommit hrestart hroom
  have hplaces : s.link.output.length < 60 := by split at hroom <;> omega
  have hmark := State.regularMark_of_label (s := passed s (s.tb.length - s.tb.period)) hlabel
  have hmade := State.makeMark_eq (s := passed s (s.tb.length - s.tb.period)) hrestart hplaces
    (fun hc => absurd (hcommit.symm.trans hc) (by decide)) n false true
  have hlength := markMade_output_length (s := passed s (s.tb.length - s.tb.period)) n false true
  rw [if_neg (c := (passed s (s.tb.length - s.tb.period)).staging.commitScheduled = true) (by simpa [passed] using hcommit)]
    at hlength
  rw [exec_mark hr, hmark, hmade, State.timebaseNotice_eq (lt_of_le_of_lt hlength hroom)]
  rfl

/-! ### The commit at the next mark, of whatever kind (R15, R152) -/

/-- What follows the mark of a step, once its notices find their places (R15, R17, R19; log 13). -/
theorem State.stepEdge_of_mark {x m : State} {label : Option Num32} {number : Num32} {relabelled : Bool} (e : Int)
    (hnumber : label.getD (x.tb.second + 1) = number) (hrelabelled : relabels label (x.tb.second + 1) = relabelled)
    (hmark : (x.setTb x.tb.stepDiscipline).makeMark number true relabelled = m) (hacquire : m.tb.discipline = .acquire)
    (hroom : m.link.output.length + (if relabelled then 1 else 0) < 60) :
    x.stepEdge e label =
      if relabelled then
        timebaseReport (timebaseReport (counted (conditionSet m .timeStepped) .timeSteps) .step x.tb.discipline (some e))
          .relabel .acquire (some e)
      else timebaseReport (counted (conditionSet m .timeStepped) .timeSteps) .step x.tb.discipline (some e) := by
  have hstep : m.link.output.length < 60 := by omega
  have hreport := State.timebaseNotice_eq (s := (m.setCondition .timeStepped).count .timeSteps) hstep .step
    x.tb.discipline (some e)
  unfold State.stepEdge
  simp only [hnumber, hrelabelled, hmark, hreport]
  split
  · rename_i hr
    rw [if_pos hr] at hroom
    have hdiscipline : (timebaseReport ((m.setCondition .timeStepped).count .timeSteps) .step x.tb.discipline
        (some e)).tb.discipline = .acquire := hacquire
    have hlength : (timebaseReport ((m.setCondition .timeStepped).count .timeSteps) .step x.tb.discipline
        (some e)).link.output.length = m.link.output.length + 1 := timebaseReport_output_length _ _ _
    rw [hdiscipline]
    exact State.timebaseNotice_eq (lt_of_eq_of_lt hlength hroom) _ _ _
  · rfl

/-- A step without a restart, its notices admitted, is the statement's (R15, R17, R19; log 13). -/
theorem stepEdge_eq {n : Nat} (hrestart : s.staging.restartScheduled = false)
    (hroom : s.link.output.length + (if s.staging.commitScheduled then 1 else 0) +
      (if s.tb.label.getD (s.tb.second + 1) ≠ s.tb.second + 1 then 1 else 0) < 60) :
    (edgeNoted s n).stepEdge (reportedError s n) s.tb.label =
      stepMade s n fun x number relabelled => markMade x number true relabelled := by
  have hmade : ((edgeNoted s n).setTb (edgeNoted s n).tb.stepDiscipline).makeMark _ true _ = _ :=
    State.makeMark_eq (s := edgeStepped s n) hrestart (show s.link.output.length < 60 by omega)
    (fun hc => by
      rw [if_pos (show s.staging.commitScheduled = true from hc)] at hroom
      rw [if_neg (by simp [edgeStepped])]
      exact show s.link.output.length + 0 < 60 by omega)
    (s.tb.label.getD (s.tb.second + 1)) true (decide (s.tb.label.getD (s.tb.second + 1) ≠ s.tb.second + 1))
  have hlength := markMade_output_length (s := edgeStepped s n) (s.tb.label.getD (s.tb.second + 1)) true
    (decide (s.tb.label.getD (s.tb.second + 1) ≠ s.tb.second + 1))
  rw [if_neg (c := (edgeStepped s n).tb.discipline = .holdover) (by simp [edgeStepped])] at hlength
  have hplaces := show _ ≤ s.link.output.length + 0 + (if s.staging.commitScheduled then 1 else 0) from hlength
  refine (State.stepEdge_of_mark (x := edgeNoted s n) _ rfl (relabels_eq _ _) hmade (markMade_discipline _ _ _) ?_).trans rfl
  simp only [decide_eq_true_eq, show (edgeNoted s n).tb.second = s.tb.second from rfl]
  omega

/-- Settles O8: the commit is part of `markMade`, which a regular mark, a labelled mark and the mark of a step make. -/
theorem markAppliesTheCommit : Obligations.MarkAppliesTheCommit := by
  intro s hr hcommit hrestart room u
  have hmade (hroom : room 0) (number : Num32) (relabelled : Bool) :
      u.makeMark number false relabelled = markMade u number false relabelled :=
    State.makeMark_eq (s := u) hrestart (show s.link.output.length < 60 by simp only [room] at hroom; omega)
      (fun _ => hroom) _ _ _
  refine ⟨fun hlabel hroom => ?_, fun number e hlabel hroom => ?_, fun n htaken hin hd he hroom => ?_⟩
  · rw [exec_mark hr, State.regularMark_of_none (s := u) hlabel]
    exact congrArg Host.Outcome.next (hmade hroom _ _)
  · have hlength := markMade_output_length (s := u) number false true
    rw [if_pos (c := u.staging.commitScheduled = true) hcommit] at hlength
    have hroom0 : room 0 := by simp only [room] at hroom ⊢; omega
    rw [exec_mark hr, State.regularMark_of_label (s := u) hlabel, hmade hroom0,
      State.timebaseNotice_eq (lt_of_le_of_lt hlength hroom)]
    rfl
  · rw [exec_ppsEdge_taken htaken hin, takeEdge_step hr hd he, stepEdge_eq hrestart]
    rw [if_pos hcommit]
    split <;> omega

/-! ### Ticks (R4, R5, R42, R50) -/

/-- A tick of the second in progress falls due at its position (R4). -/
theorem exec_tick (h : s.phase = .running) (hi : s.tb.nextIndex < s.tb.rate) :
    exec .tick s = .next (tickIssued (passed s (s.tb.nextIndex * s.tb.length / s.tb.rate - s.tb.period))) := by
  have hp : s.elapseToPeriod s.tb.tickPosition = passed s (s.tb.tickPosition - s.tb.period) :=
    State.elapse_eq_passed (by rw [h]; decide) _
  have hr : s.running = true := by simp [State.running, h]
  simp only [exec, execTick, hr, hi, decide_true, Bool.and_self, if_true, hp, State.issueTick_eq]
  rfl

/-- An edge on PPS that would be taken now, beyond 500 periods and outside LOCKED, is a step (R6, R15). -/
theorem State.stepsNow_of {s : State} (h : takesEdge s 0) (hd : s.tb.discipline ≠ .locked)
    (he : 500 < (edgeError s 0).natAbs) : s.stepsNow = true := by
  have hpassed : passed s 0 = s := (State.elapse_eq_passed (by rw [h.1]; decide) 0).symm.trans State.elapse_zero
  have htakes := takesEdge_passed h
  have herror := phaseError_passed (n := 0) h.1
  rw [hpassed] at htakes herror
  have hr : s.running = true := by simp [State.running, h.1]
  simp only [State.stepsNow, hr, htakes, herror, edgeAction_step (lt_natAbs_reportedError he) hd, Bool.and_self,
    beq_self_eq_true]

/-- A command that finds something its mark has to come before is not timely (R4, R7, R196; log 24). -/
theorem timely_of_not_markComesFirst {c : Instr} (h : markComesFirst c s = false) : timely c s = false := by
  simp [timely, h]

/-- Settles O11: TICK issues the statement's tick; and a step whose own period has issued a tick does not come first in it, so its
edge is not timely. (`tickIssued` itself is the statement's word for the tick.) -/
theorem tickIsIssued : Obligations.TickIssued := by
  refine ⟨fun s hr hi _ => exec_tick hr hi, fun s htakes hd he htick => ?_⟩
  refine timely_of_not_markComesFirst ?_
  have hticked : s.tb.tickedNow = true := decide_eq_true htick
  simp only [markComesFirst, State.elapse_zero, State.stepsNow_of htakes hd he, hticked]
  rfl

end Sys2Proof.Machine
end

section
/-! PROOFS. The half-point check: O13 (R8, R10 to R13, R19). -/

namespace Sys2Proof.Machine

open Sys2Proof.Claims

variable {s : State}

/-! ### The change of state that is reported (R19) -/

/-- An unchanged discipline state is not reported. -/
theorem State.reportChange_same {d : Discipline} (h : s.tb.discipline = d) (e : Option Int) : s.reportChange d e = s :=
  if_pos h

/-- A changed discipline state is reported, and the notice finds a place. -/
theorem State.reportChange_changed {d : Discipline} (h : s.tb.discipline ≠ d) (hroom : s.link.output.length < 60)
    (e : Option Int) : s.reportChange d e = timebaseReport s .stateChange d e :=
  (if_neg h).trans (State.timebaseNotice_eq hroom _ _ _)

/-! ### A missing mark (R8, R10 to R13) -/

/-- The state once a missing mark has been counted and before what the third in a row does. -/
def missCounted (s : State) : State :=
  counted { s with tb := { s.tb with missingCount := min 3 (s.tb.missingCount + 1) } } .ppsMissing

/-- A missing mark that is not the third in a row is counted. -/
theorem State.missMark_of_lt (h : min 3 (s.tb.missingCount + 1) < 3) : s.missMark = missCounted s :=
  if_neg (Nat.ne_of_lt h)

/-- The third missing mark in a row ends the following of edges. -/
theorem State.missMark_of_eq (h : min 3 (s.tb.missingCount + 1) = 3) :
    s.missMark = State.reportChange
      (let t := (missCounted s).setTb (missCounted s).tb.loseEdges
       if t.tb.discipline = .holdover ∧ s.tb.discipline = .locked then t.setCondition .holdover else t)
      s.tb.discipline none :=
  if_pos h

/-- In FREE-RUN and HOLDOVER there is nothing to lose. -/
theorem State.missMark_of_unled (h : s.tb.discipline = .freeRun ∨ s.tb.discipline = .holdover) :
    s.missMark = missCounted s := by
  rcases Nat.lt_or_ge (min 3 (s.tb.missingCount + 1)) 3 with hlt | hge
  · exact State.missMark_of_lt hlt
  · have hlose : (missCounted s).tb.loseEdges = (missCounted s).tb := by
      have hd : (missCounted s).tb.discipline = s.tb.discipline := rfl
      rcases h with h | h <;> simp only [Timebase.loseEdges, hd, h]
    have hnot : s.tb.discipline ≠ .locked := by rcases h with h | h <;> simp [h]
    rw [State.missMark_of_eq (Nat.le_antisymm (Nat.min_le_left _ _) hge), hlose]
    simp only [hnot, and_false, if_false]
    exact State.reportChange_same rfl _

/-- The third missing mark in a row turns ACQUIRE into FREE-RUN (R11). -/
theorem State.missMark_acquire (h : min 3 (s.tb.missingCount + 1) = 3) (hd : s.tb.discipline = .acquire)
    (hroom : s.link.output.length < 60) :
    s.missMark = timebaseReport ((missCounted s).setTb (missCounted s).tb.toFreeRun) .stateChange .acquire none := by
  have hlose : (missCounted s).tb.loseEdges = (missCounted s).tb.toFreeRun := by
    simp only [Timebase.loseEdges, show (missCounted s).tb.discipline = .acquire from hd]
  rw [State.missMark_of_eq h, hlose, hd]
  exact State.reportChange_changed (s := (missCounted s).setTb (missCounted s).tb.toFreeRun) (by simp [Timebase.toFreeRun]) hroom _

/-- The third missing mark in a row turns LOCKED into HOLDOVER, and the condition of HOLDOVER is set (R13). -/
theorem State.missMark_locked (h : min 3 (s.tb.missingCount + 1) = 3) (hd : s.tb.discipline = .locked)
    (hroom : s.link.output.length < 60) :
    s.missMark = timebaseReport (conditionSet ((missCounted s).setTb (missCounted s).tb.toHoldover) .holdover)
      .stateChange .locked none := by
  have hlose : (missCounted s).tb.loseEdges = (missCounted s).tb.toHoldover := by
    simp only [Timebase.loseEdges, show (missCounted s).tb.discipline = .locked from hd]
  rw [State.missMark_of_eq h, hlose, hd]
  exact State.reportChange_changed (s := conditionSet ((missCounted s).setTb (missCounted s).tb.toHoldover) .holdover)
    (by simp [conditionSet, Timebase.toHoldover]) hroom _

/-! ### The check at the half-point (R8) -/

/-- The state at the half-point, the check of this second done. -/
def halfPoint (s : State) : State :=
  let u := passed s (s.tb.length / 2 - s.tb.period)
  { u with tb := { u.tb with halfChecked := true } }

/-- The check lets the mark be, or finds it missing (R8). -/
theorem exec_missingMarkCheck (h : s.phase = .running) (hc : s.tb.halfChecked = false) :
    exec .missingMarkCheck s = .next (if s.tb.attributed then halfPoint s else (halfPoint s).missMark) := by
  have hp : s.elapseToPeriod (s.tb.length / 2) = passed s (s.tb.length / 2 - s.tb.period) :=
    State.elapse_eq_passed (by rw [h]; decide) _
  have hr : s.running = true := by simp [State.running, h]
  simp only [exec, execMissingMarkCheck, hr, hc, hp, Bool.not_false, Bool.and_self, if_true]
  exact (apply_ite Host.Outcome.next _ _ _).symm

/-- Settles O13: the check finds the mark attributed, or counts it missing, and the third in a row ends ACQUIRE and LOCKED. -/
theorem missingMarkChecked : Obligations.MissingMarkChecked := by
  intro s hr hc hroom at_ u m v
  have hexec := exec_missingMarkCheck hr hc
  have hmissing (ha : s.tb.attributed = false) : exec .missingMarkCheck s = .next u.missMark := by
    rw [hexec, ha]
    rfl
  refine ⟨fun ha => ?_, fun ha hd => ?_, fun ha hm hd => ?_, fun ha hm hd => ?_⟩
  · rw [hexec, if_pos ha]
    rfl
  · rw [hmissing ha]
    rcases hd with hlt | hd
    · exact congrArg _ (State.missMark_of_lt (s := u) hlt)
    · exact congrArg _ (State.missMark_of_unled (s := u) hd)
  · rw [hmissing ha]
    exact congrArg _ (State.missMark_acquire (s := u) hm hd hroom)
  · rw [hmissing ha]
    exact congrArg _ (State.missMark_locked (s := u) hm hd hroom)

end Sys2Proof.Machine
end

section
/-! PROOFS. START_UP_COMPLETE: O6 (R3, R39, R192, R208). -/

namespace Sys2Proof.Machine

open Sys2Proof.Claims

variable {s : State}

/-! ### The first tick (R42, R50) -/

/-- With no tick waiting, no close begins. -/
theorem closeBegun_of_empty (h : s.asm.closeQueue = []) : closeBegun s = s := if_neg fun hc => hc.2 h

/-- The first tick is alone in the open set, and nothing leaves it. -/
theorem opened_of_empty {a : Assembler} (h : a.openSet = []) (depth : Nat) (id : TickId) :
    opened a depth id = { a with
      openSet := [⟨id, Vector.replicate 16 .empty⟩]
      issued := (a.issued ++ [id]).drop ((a.issued ++ [id]).length - 4) } := by
  simp [opened, h]

/-- The first tick of an assembler that holds nothing begins no close. -/
theorem tickIssued_of_empty (hopen : s.asm.openSet = []) (hqueue : s.asm.closeQueue = []) :
    tickIssued s =
      let id : TickId := ⟨s.tb.tickCount + 1, s.tb.nextIndex, s.tb.second⟩
      { s with
        tb := ticked s.tb
        asm := { s.asm with
          openSet := [⟨id, Vector.replicate 16 .empty⟩]
          issued := (s.asm.issued ++ [id]).drop ((s.asm.issued ++ [id]).length - 4) } } := by
  unfold tickIssued
  rw [opened_of_empty hopen]
  exact closeBegun_of_empty hqueue

/-- A mark raises the lines of SECOND_MARK and leaves the others (R193). -/
theorem linesRaised_raised (i : Fin 4) : ((linesRaised s).aux.lines[i]).raised =
    ((s.aux.lines[i]).raised || decide ((s.aux.lines[i]).settings.designation = .secondMark)) := by
  by_cases h : (s.aux.lines[i]).settings.designation = .secondMark <;> simp_all [linesRaised]

/-! ### The first mark (R3, R208) -/

/-- The device when its first mark is about to be made: running, its ports by their flags, the code-2 interval begun after a load
that used defaults (R39, R192, R208). -/
def firstMarkDue (s : State) : State :=
  { s with
    phase := .running
    portA := s.portA.byFlag
    portB := s.portB.byFlag
    status := { s.status with code2 := if s.settings.image.validity = .invalid then some s.tb.clock else none } }

/-- The START notice follows the mark and carries its number (R208). -/
theorem State.firstMark_of_mark {m : State} (hmade : (firstMarkDue s).makeMark 0 false false = m)
    (hroom : m.link.output.length < 60) :
    s.firstMark = admitted m (.notice (.start .powerOn m.settings.image.validity m.tb.second)) := by
  subst hmade
  exact State.offerNotice_eq hroom _

/-- Outside HOLDOVER the timebase's part of a mark reports nothing (R14). -/
theorem timed_of_not_holdover (h : s.tb.discipline ≠ .holdover) (k : Num32) : timed s k = { s with tb := marked s.tb k } :=
  if_neg fun hc => h hc.1

/-- A mark in FREE-RUN, nothing scheduled, of a device that has issued no tick yet. -/
def firstMade (u : State) : State :=
  let v := linesRaised { u with tb := marked u.tb 0 }
  tickIssued { v with dec := { u.dec with pendingSeconds := u.dec.pendingSeconds ++ [markEntry (marked u.tb 0) 0] } }

theorem makeMark_first (hd : s.tb.discipline = .freeRun) (hcommit : s.staging.commitScheduled = false)
    (hrestart : s.staging.restartScheduled = false) (hroom : s.link.output.length < 60) :
    s.makeMark 0 false false = firstMade s := by
  have htimed := timed_of_not_holdover (s := s) (by rw [hd]; decide) 0
  rw [State.makeMark_eq hrestart hroom (fun hc => absurd (hcommit.symm.trans hc) (by decide)), markMade_plain hcommit, htimed]
  rfl

/-- Settles O6: the first mark of FREE-RUN issues the first tick of all, and the START notice follows it. -/
theorem startUpMakesTheFirstMark : Obligations.StartUpMakesTheFirstMark := by
  intro n s hphase hd hcommit hrestart hopen hqueue hclosing hout hcapture
  have helapse : s.elapse n = passed s n := State.elapse_eq_passed (by rw [hphase]; decide) n
  have hempty : s.link.output.length < 60 := by simp [hout]
  have hperiod : (passed s n).tb = { s.tb with clock := s.tb.clock + n } := by simp [passed, hphase]
  have hissued : firstMade (firstMarkDue (passed s n)) = _ := tickIssued_of_empty hopen hqueue
  have hmade := (makeMark_first (s := firstMarkDue (passed s n)) hd hcommit hrestart hempty).trans hissued
  have hexec : exec (.startUpComplete n) s = .next (passed s n).firstMark := by
    simp only [exec, execStartUpComplete, hphase, if_true, helapse]
  refine ⟨_, hexec.trans (congrArg _ (State.firstMark_of_mark hmade hempty)), rfl, ?_, ?_, rfl, hqueue, ?_, ?_, ?_, ?_,
    rfl, rfl, rfl, rfl, rfl, rfl, rfl⟩
  · exact congrArg (fun t => ticked (marked t 0)) hperiod
  · rintro (_ | _) <;> rfl
  · exact congrArg (fun q => s.dec.pendingSeconds ++ [⟨0, s.tb.tickCount + 1, q, 0, false, none⟩])
      (show (marked (passed s n).tb 0).quality = .freeRun by simp only [marked, hperiod, hd])
  · show s.link.output ++ _ = _
    rw [hout]
    rfl
  · cases hv : s.settings.image.validity <;>
      simp [State.indicator, admitted, linesRaised, firstMarkDue, passed, ticked, marked, hv, hcapture, hd]
  · exact linesRaised_raised

end Sys2Proof.Machine
end

section
/-! PROOFS. What a taken edge does: O15, O16, O17 and O18 (R6 to R17, R19, R116, R131, R132, R192). -/

namespace Sys2Proof.Machine

open Sys2Proof.Claims

variable {s : State} {n : Nat}

/-! ### The discipline state after an update (R9 to R13) -/

/-- A good edge lies within 10 periods of its mark (1.4). -/
theorem goodEdge_iff {e : Int} : goodEdge e = true ↔ e.natAbs ≤ 10 := decide_eq_true_iff

/-- An update outside ACQUIRE and LOCKED enters ACQUIRE, and a good edge counts already (R10, R13). -/
theorem Timebase.afterUpdate_enter {t : Timebase} (h : t.discipline = .freeRun ∨ t.discipline = .holdover) (e : Int) :
    t.afterUpdate e = t.toAcquire (if e.natAbs ≤ 10 then 1 else 0) := by
  rcases h with h | h <;> simp only [Timebase.afterUpdate, h, goodEdge_iff]

/-- An edge in ACQUIRE that is not good begins the count again (R11). -/
theorem Timebase.afterUpdate_acquire_bad {t : Timebase} {e : Int} (h : t.discipline = .acquire) (he : 10 < e.natAbs) :
    t.afterUpdate e = { t with goodCount := 0 } := by
  simp only [Timebase.afterUpdate, h, goodEdge_iff, Nat.not_le_of_lt he, if_false]

/-- A good edge in ACQUIRE is counted (R11). -/
theorem Timebase.afterUpdate_acquire_good {t : Timebase} {e : Int} (h : t.discipline = .acquire) (he : e.natAbs ≤ 10) :
    t.afterUpdate e = t.countGood := by
  simp only [Timebase.afterUpdate, h, goodEdge_iff, he, if_true]

/-- An update in LOCKED ends a run of outliers (R12). -/
theorem Timebase.afterUpdate_locked {t : Timebase} (h : t.discipline = .locked) (e : Int) :
    t.afterUpdate e = { t with outlierCount := 0 } := by
  simp only [Timebase.afterUpdate, h]

/-! ### An update (R9 to R13, R19) -/

/-- The timebase after an update, from D and c on. -/
def updatedTb (s : State) (n : Nat) : Timebase := edgeUpdated (edgeNoted s n).tb (edgeError s n)

/-- An update that keeps the discipline state reports nothing. -/
theorem updatedByEdge_same {t : Timebase} (h : (updatedTb s n).afterUpdate (edgeError s n) = t)
    (hd : t.discipline = s.tb.discipline) : updatedByEdge s n = (edgeNoted s n).setTb t := by
  subst h
  exact State.reportChange_same (s := (edgeNoted s n).setTb _) hd _

/-- An update that changes the discipline state reports it. -/
theorem updatedByEdge_changed {t : Timebase} (h : (updatedTb s n).afterUpdate (edgeError s n) = t)
    (hd : t.discipline ≠ s.tb.discipline) (hroom : s.link.output.length < 60) :
    updatedByEdge s n =
      timebaseReport ((edgeNoted s n).setTb t) .stateChange s.tb.discipline (some (edgeError s n)) := by
  subst h
  exact State.reportChange_changed (s := (edgeNoted s n).setTb _) hd hroom _

/-- An update without a label is the update alone. -/
theorem exec_ppsEdge_update (h : takesEdge s n) (hin : inSecond s n) (hlabel : s.tb.label = none)
    (he : (edgeError s n).natAbs ≤ 500) : exec (.ppsEdge n) s = .next (updatedByEdge s n) := by
  rw [exec_ppsEdge_taken h hin, takeEdge_update h.1 he, hlabel]
  rfl

/-- Settles O15: an update by discipline state; a report goes with the two changes of state, into ACQUIRE and into LOCKED. -/
theorem edgeUpdates : Obligations.EdgeUpdates := by
  intro n s htaken hin hlabel he hroom e u t acquired
  have hexec := exec_ppsEdge_update htaken hin hlabel he
  refine ⟨fun hd => ?_, fun hd hbad => ?_, fun hd hgood hcount => ?_, fun hd hgood hcount => ?_, fun hd => ?_⟩
  · have hne : Discipline.acquire ≠ s.tb.discipline := by rcases hd with hd | hd <;> rw [hd] <;> decide
    rw [hexec, updatedByEdge_changed (Timebase.afterUpdate_enter (t := updatedTb s n) hd _) hne hroom]
    rfl
  · rw [hexec, updatedByEdge_same (Timebase.afterUpdate_acquire_bad (t := updatedTb s n) hd hbad) rfl]
    rfl
  · have hstep := (Timebase.afterUpdate_acquire_good (t := updatedTb s n) hd hgood).trans (Timebase.countGood_of_lt hcount)
    rw [hexec, updatedByEdge_same hstep rfl]
    rfl
  · have hstep := (Timebase.afterUpdate_acquire_good (t := updatedTb s n) hd hgood).trans
      (Timebase.countGood_of_le (ge_of_eq hcount))
    have hne : Discipline.locked ≠ s.tb.discipline := by rw [hd]; decide
    rw [hexec, updatedByEdge_changed hstep hne hroom, hd, show (updatedTb s n).goodCount + 1 = 8 from hcount]
    rfl
  · rw [hexec, updatedByEdge_same (Timebase.afterUpdate_locked (t := updatedTb s n) hd _) rfl]
    rfl

/-! ### An outlier (R12, R19) -/

/-- An outlier that keeps the discipline state reports nothing. -/
theorem outlierByEdge_same {t : Timebase} (h : (edgeNoted s n).tb.countOutlier = t) (hd : t.discipline = s.tb.discipline) :
    outlierByEdge s n = counted ((edgeNoted s n).setTb t) .ppsOutlier := by
  subst h
  exact State.reportChange_same (s := counted ((edgeNoted s n).setTb _) .ppsOutlier) hd _

/-- An outlier that changes the discipline state reports it. -/
theorem outlierByEdge_changed {t : Timebase} (h : (edgeNoted s n).tb.countOutlier = t) (hd : t.discipline ≠ s.tb.discipline)
    (hroom : s.link.output.length < 60) :
    outlierByEdge s n = timebaseReport (counted ((edgeNoted s n).setTb t) .ppsOutlier) .stateChange s.tb.discipline
      (some (reportedError s n)) := by
  subst h
  exact State.reportChange_changed (s := counted ((edgeNoted s n).setTb _) .ppsOutlier) hd hroom _

/-- Settles O16: the outliers before the fourth are counted, the fourth enters ACQUIRE and is reported. -/
theorem outlierInLocked : Obligations.OutlierInLocked := by
  intro n s htaken hin hlabel hd he hroom e u
  have hexec : exec (.ppsEdge n) s = .next (outlierByEdge s n) := by
    rw [exec_ppsEdge_taken htaken hin, takeEdge_outlier htaken.1 hd he, hlabel]
    rfl
  refine ⟨fun hcount => ?_, fun hcount => ?_⟩
  · rw [hexec, outlierByEdge_same (Timebase.countOutlier_of_lt (t := (edgeNoted s n).tb) hcount) rfl]
    rfl
  · have hne : Discipline.acquire ≠ s.tb.discipline := by rw [hd]; decide
    rw [hexec, outlierByEdge_changed (Timebase.countOutlier_of_le (t := (edgeNoted s n).tb) (ge_of_eq hcount)) hne hroom, hd,
      show (edgeNoted s n).tb.outlierCount + 1 = 4 from hcount]
    rfl

/-! ### A step (R15) -/

/-- Settles O17: the edge is a mark by a step, with the next number and nothing scheduled. -/
theorem stepMakesTheEdgeAMark : Obligations.StepMakesTheEdgeAMark := by
  intro n s htaken hin hlabel hd he hcommit hrestart hroom e u tb w
  have hnumber : s.tb.label.getD (s.tb.second + 1) = s.tb.second + 1 := by rw [hlabel]; rfl
  have hplaces : s.link.output.length + (if s.staging.commitScheduled then 1 else 0) +
      (if s.tb.label.getD (s.tb.second + 1) ≠ s.tb.second + 1 then 1 else 0) < 60 := by
    rw [hcommit, if_neg (not_not_intro hnumber)]
    exact hroom
  have hstep := stepEdge_eq (s := s) (n := n) hrestart hplaces
  have htimed : timed (edgeStepped s n) (s.tb.second + 1) = w :=
    timed_of_not_holdover (s := edgeStepped s n) (by exact (by decide : Discipline.acquire ≠ .holdover)) _
  have hmark := markMade_of_noCommit (s := edgeStepped s n) hcommit (s.tb.second + 1) true false
  rw [htimed] at hmark
  rw [exec_ppsEdge_taken htaken hin, takeEdge_step htaken.1 hd he, hstep, stepMade]
  simp only [hnumber, ne_eq, not_true_eq_false, decide_false, hmark]
  rfl

/-! ### A pending label (R16, R17, R19, R132) -/

/-- The label of an early edge that names the second in progress changes nothing. -/
theorem State.consumeLabel_early_same {k : Num32} (h : k = s.tb.second) (e : Int) : s.consumeLabel true e (some k) = s :=
  if_pos h

/-- The label of an early edge renumbers the second in progress at once. -/
theorem State.consumeLabel_early {k : Num32} (h : k ≠ s.tb.second) (hroom : s.link.output.length < 60) (e : Int) :
    s.consumeLabel true e (some k) = relabelledNow s k e := by
  have hnotice : ((s.setTb { s.tb with second := k }).setDec (s.dec.relabelNow s.tb.tick0 k)).timebaseNotice .relabel
      s.tb.discipline (some e) = relabelledNow s k e :=
    State.timebaseNotice_eq (s := (s.setTb { s.tb with second := k }).setDec (s.dec.relabelNow s.tb.tick0 k)) hroom _ _ _
  exact (if_neg h).trans hnotice

/-- The label of a late edge that names the next second changes nothing. -/
theorem State.consumeLabel_late_same {k : Num32} (h : k = s.tb.second + 1) (e : Int) : s.consumeLabel false e (some k) = s :=
  if_pos h

/-- The label of a late edge waits for the coming mark. -/
theorem State.consumeLabel_late {k : Num32} (h : k ≠ s.tb.second + 1) (e : Int) :
    s.consumeLabel false e (some k) = { s with tb := { s.tb with markLabel := some ⟨k, e⟩ } } :=
  if_neg h

/-- The state after a taken edge without a step, its label not yet consumed. -/
def judgedByEdge (s : State) (n : Nat) : State :=
  if (edgeError s n).natAbs ≤ 500 then updatedByEdge s n else outlierByEdge s n

/-- A taken edge without a step is judged, then its label is consumed. -/
theorem takeEdge_judged (hr : s.phase = .running) (h : s.tb.discipline = .locked ∨ (edgeError s n).natAbs ≤ 500) :
    (passed s n).takeEdge = (judgedByEdge s n).consumeLabel (decide (s.tb.period + n < s.tb.length / 2)) (reportedError s n)
      s.tb.label := by
  by_cases he : (edgeError s n).natAbs ≤ 500
  · rw [takeEdge_update hr he, judgedByEdge, if_pos he, reportedError_of_le he]
  · rw [takeEdge_outlier hr (h.resolve_right he) (Nat.lt_of_not_le he), judgedByEdge, if_neg he]

/-- A change of state is at most one notice. -/
theorem State.reportChange_output_length (hroom : s.link.output.length < 60) (d : Discipline) (e : Option Int) :
    (s.reportChange d e).link.output.length ≤ s.link.output.length + 1 := by
  by_cases h : s.tb.discipline = d
  · rw [State.reportChange_same h]
    exact Nat.le_succ _
  · rw [State.reportChange_changed h hroom]
    exact le_of_eq (timebaseReport_output_length _ _ _)

theorem judgedByEdge_output_length (hroom : s.link.output.length < 60) :
    (judgedByEdge s n).link.output.length ≤ s.link.output.length + 1 := by
  unfold judgedByEdge
  split
  · exact State.reportChange_output_length (s := (edgeNoted s n).setTb _) hroom _ _
  · exact State.reportChange_output_length (s := ((edgeNoted s n).setTb _).count _) hroom _ _

/-- The judgement of an edge takes the label and leaves the number of the second. -/
theorem Timebase.afterUpdate_numbers (t : Timebase) (e : Int) :
    (t.afterUpdate e).label = t.label ∧ (t.afterUpdate e).second = t.second := by
  have hgood : t.countGood.label = t.label ∧ t.countGood.second = t.second := by
    rcases Nat.lt_or_ge (t.goodCount + 1) 8 with h | h
    · rw [Timebase.countGood_of_lt h]
      exact ⟨rfl, rfl⟩
    · rw [Timebase.countGood_of_le h]
      exact ⟨rfl, rfl⟩
  unfold Timebase.afterUpdate
  split
  · exact ⟨rfl, rfl⟩
  · exact ⟨rfl, rfl⟩
  · split
    · exact hgood
    · exact ⟨rfl, rfl⟩
  · exact ⟨rfl, rfl⟩

theorem Timebase.countOutlier_numbers (t : Timebase) :
    t.countOutlier.label = t.label ∧ t.countOutlier.second = t.second := by
  rcases Nat.lt_or_ge (t.outlierCount + 1) 4 with h | h
  · rw [Timebase.countOutlier_of_lt h]
    exact ⟨rfl, rfl⟩
  · rw [Timebase.countOutlier_of_le h]
    exact ⟨rfl, rfl⟩

theorem judgedByEdge_numbers : (judgedByEdge s n).tb.label = none ∧ (judgedByEdge s n).tb.second = s.tb.second := by
  unfold judgedByEdge
  split
  · rw [updatedByEdge, State.reportChange_tb]
    exact Timebase.afterUpdate_numbers (edgeUpdated (edgeNoted s n).tb (edgeError s n)) _
  · rw [outlierByEdge, State.reportChange_tb]
    exact Timebase.countOutlier_numbers (edgeNoted s n).tb

/-- Settles O18: an edge without a step is judged alike with and without a label, and consumes it then; a step takes it first. -/
theorem labelConsumedByTheEdge : Obligations.LabelConsumedByTheEdge := by
  intro n k s htaken hin hlabel hroom e
  have hexec := exec_ppsEdge_taken htaken hin
  refine ⟨fun h => ⟨judgedByEdge s n, ?_, judgedByEdge_numbers.1, ?_⟩, fun hd he hcommit hrestart => ?_⟩
  · have hunlabelled := exec_ppsEdge_taken (s := { s with tb := { s.tb with label := none } }) htaken hin
    exact hunlabelled.trans (congrArg _ (takeEdge_judged (s := { s with tb := { s.tb with label := none } }) htaken.1 h))
  · have hsecond : (judgedByEdge s n).tb.second = s.tb.second := judgedByEdge_numbers.2
    have hplaces : (judgedByEdge s n).link.output.length < 60 :=
      lt_of_le_of_lt (judgedByEdge_output_length (by omega)) hroom
    have hjudged := hexec.trans (congrArg _ (takeEdge_judged htaken.1 h))
    rw [hlabel] at hjudged
    refine ⟨fun hearly hk => ?_, fun hearly hk => ?_, fun hlate hk => ?_, fun hlate hk => ?_⟩
    · rw [hjudged, decide_eq_true hearly, State.consumeLabel_early_same (hk.trans hsecond.symm)]
    · rw [hjudged, decide_eq_true hearly, State.consumeLabel_early (hsecond ▸ hk) hplaces]
      rfl
    · rw [hjudged, decide_eq_false (Nat.not_lt_of_le hlate), State.consumeLabel_late_same (hsecond.symm ▸ hk)]
    · rw [hjudged, decide_eq_false (Nat.not_lt_of_le hlate), State.consumeLabel_late (hsecond.symm ▸ hk)]
      rfl
  · rw [hexec, takeEdge_step htaken.1 hd he, stepEdge_eq hrestart]
    rw [hcommit, if_neg Bool.false_ne_true]
    split <;> omega

end Sys2Proof.Machine
end

section
/-! PROOFS. What each command leaves of the timebase's discipline: O14 and O19 (R3, R6, R7, R9 to R15, R17, R18, R196, R208, R210). -/

namespace Sys2Proof.Machine

open Sys2Proof.Claims

variable {s : State}

/-! ### The timebase after a mark (R1, R2, R210) -/

theorem State.issueTick_tb : s.issueTick.tb = ticked s.tb := by
  rw [State.issueTick_eq, Claims.tickIssued, closeBegun_tb]

theorem State.commandRestart_tb : s.commandRestart.tb = s.tb.restart := by simp [State.commandRestart]

theorem State.scheduledWork_tb : s.scheduledWork.tb = if s.staging.restartScheduled then s.tb.restart else s.tb := by
  unfold State.scheduledWork
  split
  · exact State.commandRestart_tb
  · split
    · exact State.applyCommit_tb _ _
    · rfl

theorem State.markTimebase_tb (k : Num32) : (s.markTimebase k).tb = marked s.tb k := by
  unfold State.markTimebase
  simp only []
  split <;> simp [Timebase.mark_eq]

/-- A mark is the timebase's own part, the R and D_a that a restart takes over, and tick index 0. -/
theorem State.makeMark_tb (k : Num32) (byStep relabelled : Bool) : (s.makeMark k byStep relabelled).tb =
    ticked (if (s.markTimebase k).staging.restartScheduled then (marked s.tb k).restart else marked s.tb k) := by
  have hwork : (s.markTimebase k).raiseLines.scheduledWork.tb = _ := State.scheduledWork_tb
  rw [State.raiseLines_tb, State.raiseLines_staging, State.markTimebase_tb] at hwork
  unfold State.makeMark State.markConsumers
  simp only [State.issueTick_tb, State.setDec_tb]
  split <;> exact congrArg ticked hwork

/-- A mark starts the period counter anew and leaves the discipline state and its count of good edges. -/
theorem State.makeMark_discipline (k : Num32) (byStep relabelled : Bool) :
    (s.makeMark k byStep relabelled).tb.period = 0 ∧
    (s.makeMark k byStep relabelled).tb.discipline = s.tb.discipline ∧
    (s.makeMark k byStep relabelled).tb.goodCount = s.tb.goodCount := by
  rw [State.makeMark_tb]
  split <;> exact ⟨rfl, rfl, rfl⟩

@[simp] theorem State.elapse_discipline (n : Nat) : (s.elapse n).tb.discipline = s.tb.discipline := by
  unfold State.elapse
  split <;> rfl

@[simp] theorem State.elapse_goodCount (n : Nat) : (s.elapse n).tb.goodCount = s.tb.goodCount := by
  unfold State.elapse
  split <;> rfl

@[simp] theorem State.elapseTo_discipline (n : Nat) : (s.elapseTo n).tb.discipline = s.tb.discipline :=
  State.elapse_discipline _

@[simp] theorem State.elapseToPeriod_discipline (n : Nat) : (s.elapseToPeriod n).tb.discipline = s.tb.discipline :=
  State.elapse_discipline _

@[simp] theorem State.issueTick_discipline : s.issueTick.tb.discipline = s.tb.discipline := by rw [State.issueTick_tb]; rfl

/-- The due mark starts the period counter anew and leaves the discipline state and its count of good edges. -/
theorem State.dueMark_discipline : s.dueMark.tb.period = 0 ∧ s.dueMark.tb.discipline = s.tb.discipline ∧
    s.dueMark.tb.goodCount = s.tb.goodCount := by
  have hmade (k : Num32) (relabelled : Bool) :=
    State.makeMark_discipline (s := s.elapseToPeriod s.tb.length) k false relabelled
  simp only [State.elapseToPeriod, State.elapse_discipline, State.elapse_goodCount] at hmade
  unfold State.dueMark State.regularMark
  split
  · exact hmade _ _
  · simp only [State.timebaseNotice_tb]
    exact hmade _ _

@[simp] theorem State.edgeMoment_discipline (n : Nat) : (s.edgeMoment n).tb.discipline = s.tb.discipline := by
  unfold State.edgeMoment
  split
  · exact (State.elapse_discipline _).trans State.dueMark_discipline.2.1
  · exact State.elapse_discipline _

@[simp] theorem State.noteEarlyEdge_discipline : s.noteEarlyEdge.tb.discipline = s.tb.discipline := by
  unfold State.noteEarlyEdge
  split <;> rfl

/-- MARK on a running device makes the due mark. -/
theorem exec_mark_dueMark (h : s.phase = .running) : exec .mark s = .next s.dueMark := by
  simp [exec, execMark, State.running, h]

/-! ### O14 -/

/-- The second half of O14: at or after the due mark an edge finds the state that the mark leaves (R7). -/
theorem exec_ppsEdge_late {n : Nat} (hr : s.phase = .running) (hn : s.tb.length ≤ s.tb.period + n)
    (hlate : n - (s.tb.length - s.tb.period) < s.dueMark.tb.length) :
    exec (.ppsEdge n) s = exec (.ppsEdge (n - (s.tb.length - s.tb.period))) s.dueMark := by
  have hlt : s.dueMark.tb.period + (n - (s.tb.length - s.tb.period)) < s.dueMark.tb.length := by
    rw [State.dueMark_discipline.1]
    omega
  simp only [exec, execPpsEdge, State.edgeMoment_of_le hr hn, State.edgeMoment_of_lt hlt]

/-- Settles O14: before the first mark an edge is only noted, one too soon after the last taken one is a glitch, and a late one is
the early edge of the next second. -/
theorem edgeIgnored : Obligations.EdgeIgnored := by
  refine ⟨fun n s => ⟨fun hp => ?_, fun he => ?_, fun a hr hin hlast hsoon => ?_⟩, fun n s t hr hn hmark => ?_⟩
  · have hoff : s.phase ≠ .off := by rcases hp with hp | hp <;> rw [hp] <;> decide
    have hnot : s.phase ≠ .running := by rcases hp with hp | hp <;> rw [hp] <;> decide
    have hmoment : s.edgeMoment n = passed s n :=
      (State.edgeMoment_of_not_running hnot).trans (State.elapse_eq_passed hoff n)
    have hrun : (passed s n).running = false := by simp [State.running, hnot]
    simp only [exec, execPpsEdge, hmoment, hrun, Bool.false_eq_true, if_false]
    exact congrArg _ (State.noteEarlyEdge_of_on (s := passed s n) hoff)
  · refine timely_of_not_markComesFirst ?_
    simp only [markComesFirst, he, bne_self_eq_false]
  · have hspaced : (passed s n).tb.takesEdge = false := by
      have hl : (passed s n).tb.lastEdge = some a := hlast
      unfold Timebase.takesEdge
      rw [hl]
      exact decide_eq_false (Nat.not_le_of_lt hsoon)
    simp only [exec, execPpsEdge, State.edgeMoment_eq_passed hr hin, passed_running hr, hspaced, if_true, Bool.false_eq_true,
      if_false]
    rfl
  · rw [exec_mark_dueMark hr] at hmark
    cases hmark
    have hperiod := (State.dueMark_discipline (s := s)).1
    refine fun hlate => ⟨exec_ppsEdge_late hr hn hlate, hperiod, fun hlength => ?_⟩
    have hearly : s.dueMark.tb.period + 0 < s.dueMark.tb.length / 2 := by omega
    rw [edgeError, if_pos hearly, hperiod]
    rfl

end Sys2Proof.Machine
end

section
/-! PROOFS. LOCKED is entered by one command only: O19 (R6 to R16, R18, R19). -/

namespace Sys2Proof.Machine

open Sys2Proof.Claims

variable {s : State}

/-! ### A taken edge (R9 to R12, R15) -/

/-- A step leads to ACQUIRE (R15). -/
theorem State.stepEdge_discipline (e : Int) (label : Option Num32) : (s.stepEdge e label).tb.discipline = .acquire := by
  have hmade (k : Num32) (relabelled : Bool) :
      ((s.setTb s.tb.stepDiscipline).makeMark k true relabelled).tb.discipline = .acquire :=
    (State.makeMark_discipline k true relabelled).2.1
  unfold State.stepEdge
  simp only []
  split <;> simpa using hmade _ _

/-- A label that is consumed leaves the discipline state. -/
theorem State.consumeLabel_discipline (early : Bool) (e : Int) (label : Option Num32) :
    (s.consumeLabel early e label).tb.discipline = s.tb.discipline := by
  unfold State.consumeLabel
  split
  · rfl
  · split_ifs
    · rfl
    · simp
    · rfl
    · rfl

/-- An update leads to LOCKED from LOCKED, or from ACQUIRE by the eighth good edge (R11). -/
theorem Timebase.afterUpdate_locks {t : Timebase} {e : Int} (h : (t.afterUpdate e).discipline = .locked)
    (hd : t.discipline ≠ .locked) : t.discipline = .acquire ∧ 7 ≤ t.goodCount ∧ e.natAbs ≤ 10 := by
  cases hdisc : t.discipline with
  | freeRun => rw [Timebase.afterUpdate_enter (.inl hdisc)] at h; cases h
  | holdover => rw [Timebase.afterUpdate_enter (.inr hdisc)] at h; cases h
  | locked => exact absurd hdisc hd
  | acquire =>
    rcases Nat.lt_or_ge 10 e.natAbs with hbad | hgood
    · rw [Timebase.afterUpdate_acquire_bad hdisc hbad] at h
      exact absurd h hd
    · rw [Timebase.afterUpdate_acquire_good hdisc hgood] at h
      rcases Nat.lt_or_ge (t.goodCount + 1) 8 with hfew | hmany
      · rw [Timebase.countGood_of_lt hfew] at h
        exact absurd h hd
      · exact ⟨rfl, Nat.le_of_succ_le_succ hmany, hgood⟩

/-- A taken edge leads to LOCKED from LOCKED, or from ACQUIRE by a good edge after seven (R11). -/
theorem takeEdge_locks {k : Nat} (hr : s.phase = .running) (hlocked : (passed s k).takeEdge.tb.discipline = .locked)
    (hd : s.tb.discipline ≠ .locked) : s.tb.discipline = .acquire ∧ 7 ≤ s.tb.goodCount ∧ (edgeError s k).natAbs ≤ 10 := by
  rcases Nat.lt_or_ge 500 (edgeError s k).natAbs with hfar | hnear
  · rw [takeEdge_step hr hd hfar, State.stepEdge_discipline] at hlocked
    cases hlocked
  · rw [takeEdge_update hr hnear, State.consumeLabel_discipline, updatedByEdge, State.reportChange_tb] at hlocked
    exact Timebase.afterUpdate_locks (t := updatedTb s k) hlocked hd

/-- What the spacing asks of an edge k periods from now (R6). -/
theorem takesEdge_of_passed {k : Nat} (hr : s.phase = .running) (h : (passed s k).tb.takesEdge = true) : takesEdge s k := by
  refine ⟨hr, fun a ha => ?_⟩
  have hl : (passed s k).tb.lastEdge = some a := ha
  unfold Timebase.takesEdge at h
  rw [hl] at h
  exact of_decide_eq_true h

/-- The command of an edge whose moment is k periods after a running state leads to LOCKED by a good edge after seven. -/
theorem execPpsEdge_locks {n k : Nat} {u t : State} (hu : u.phase = .running) (hmoment : s.edgeMoment n = passed u k)
    (hexec : execPpsEdge n s = .next t) (hlocked : t.tb.discipline = .locked) (hd : u.tb.discipline ≠ .locked) :
    u.tb.discipline = .acquire ∧ 7 ≤ u.tb.goodCount ∧ takesEdge u k ∧ (edgeError u k).natAbs ≤ 10 := by
  simp only [execPpsEdge, hmoment, passed_running hu, if_true] at hexec
  cases htakes : (passed u k).tb.takesEdge with
  | false =>
    rw [htakes] at hexec
    cases hexec
    exact absurd hlocked hd
  | true =>
    rw [htakes] at hexec
    cases hexec
    obtain ⟨hacquire, hcount, hgood⟩ := takeEdge_locks hu hlocked hd
    exact ⟨hacquire, hcount, takesEdge_of_passed hu htakes, hgood⟩

/-- An edge before the first mark leaves the discipline state. -/
theorem execPpsEdge_early {n : Nat} {t : State} (hr : s.phase ≠ .running) (hexec : execPpsEdge n s = .next t) :
    t.tb.discipline = s.tb.discipline := by
  have hrun : (s.elapse n).running = false := by simp [State.running, hr]
  simp only [execPpsEdge, State.edgeMoment_of_not_running hr, hrun, Bool.false_eq_true, if_false] at hexec
  cases hexec
  simp

/-! ### The other commands -/

/-- An outcome whose next state is in LOCKED only if s is. -/
def LocksNothing (s : State) (o : Host.Outcome State Fault Refusal) : Prop :=
  Leaves (fun t => t.tb.discipline = .locked → s.tb.discipline = .locked) o

/-- A next state with the discipline state of s. -/
theorem locksNothing_of_eq {t : State} (h : t.tb.discipline = s.tb.discipline) : LocksNothing s (.next t) :=
  (leaves_next _ _).mpr fun ht => h ▸ ht

/-- A next state with the timebase of s. -/
theorem locksNothing_of_tb {t : State} (h : t.tb = s.tb) : LocksNothing s (.next t) :=
  locksNothing_of_eq (congrArg Timebase.discipline h)

/-- A request row whose judgement leaves the discipline state. -/
theorem locksNothing_take (name : RequestName) {judge : Request → State → Reply}
    (hj : ∀ q s, (judge q s).state.tb.discipline = s.tb.discipline) : LocksNothing s (.next (s.take name judge)) :=
  locksNothing_of_eq (State.take_frame (fun s => s.tb.discipline) (fun _ _ => rfl) (fun _ _ => by simp) (fun _ => rfl) s name
    judge hj)

/-- A request row whose judgement leaves the timebase. -/
theorem locksNothing_take_tb (name : RequestName) {judge : Request → State → Reply}
    (hj : ∀ q s, (judge q s).state.tb = s.tb) : LocksNothing s (.next (s.take name judge)) :=
  locksNothing_take name fun q s => congrArg Timebase.discipline (hj q s)

/-- A request row whose judgement only reads. -/
theorem locksNothing_read (name : RequestName) {judge : Request → State → Reply} (hj : ∀ q s, (judge q s).state = s) :
    LocksNothing s (.next (s.take name judge)) :=
  locksNothing_take name fun q s => congrArg (fun t : State => t.tb.discipline) (hj q s)

/-- Where no edges are left to follow, the state is not LOCKED (R10 to R13). -/
theorem Timebase.loseEdges_unlocked (t : Timebase) : t.loseEdges.discipline ≠ .locked := by
  cases h : t.discipline <;> simp [Timebase.loseEdges, Timebase.toFreeRun, Timebase.toHoldover, h]

/-- A missing mark never enters LOCKED (R10 to R13). -/
theorem State.missMark_locks (h : s.missMark.tb.discipline = .locked) : s.tb.discipline = .locked := by
  rcases Nat.lt_or_ge (min 3 (s.tb.missingCount + 1)) 3 with hlt | hge
  · rw [State.missMark_of_lt hlt] at h
    exact h
  · rw [State.missMark_of_eq (Nat.le_antisymm (Nat.min_le_left _ _) hge), State.reportChange_tb] at h
    refine absurd ((congrArg Timebase.discipline ?_).symm.trans h) (Timebase.loseEdges_unlocked (missCounted s).tb)
    exact (apply_ite State.tb _ _ _).trans (ite_self _)

theorem execMissingMarkCheck_locksNothing : LocksNothing s (execMissingMarkCheck s) := by
  unfold execMissingMarkCheck
  simp only []
  split
  · split
    · exact locksNothing_of_eq (by simp)
    · exact (leaves_next _ _).mpr fun ht => by simpa using State.missMark_locks ht
  · exact locksNothing_of_eq rfl

theorem execStartUpComplete_locksNothing (n : Nat) : LocksNothing s (execStartUpComplete n s) := by
  unfold execStartUpComplete
  split
  · refine locksNothing_of_eq ?_
    unfold State.firstMark
    simp only [State.offerNotice_tb]
    refine (State.makeMark_discipline _ _ _).2.1.trans ?_
    simp
  · exact locksNothing_of_eq rfl

theorem execMark_locksNothing : LocksNothing s (execMark s) := by
  unfold execMark
  split
  · exact locksNothing_of_eq State.dueMark_discipline.2.1
  · exact locksNothing_of_eq rfl

theorem execTick_locksNothing : LocksNothing s (execTick s) := by
  unfold execTick
  split <;> exact locksNothing_of_eq (by simp)

theorem execStrobeEnd_locksNothing : LocksNothing s (execStrobeEnd s) := by
  unfold execStrobeEnd
  split <;> exact locksNothing_of_eq (by simp)

theorem onPortByte_locksNothing (p : Port) (b : Byte) (n : Nat) : LocksNothing s (.next (s.onPortByte p b n)) := by
  unfold State.onPortByte
  split <;> exact locksNothing_of_eq (by simp)

theorem onLinkByte_locksNothing (b : Byte) (n : Nat) : LocksNothing s (.next (s.onLinkByte b n)) := by
  unfold State.onLinkByte
  simp only []
  split <;> exact locksNothing_of_eq (by simp)

theorem execFrameAbandon_locksNothing (p : Port) : LocksNothing s (execFrameAbandon p s) := by
  unfold execFrameAbandon
  split
  · exact locksNothing_of_eq rfl
  · split
    · exact locksNothing_of_eq rfl
    · simp only []
      split <;> exact locksNothing_of_eq (by simp)

theorem execEntryTake_locksNothing : LocksNothing s (execEntryTake s) := by
  unfold execEntryTake
  split <;> exact locksNothing_of_tb (by simp)

theorem execTickClose_locksNothing (n : Nat) : LocksNothing s (execTickClose n s) := by
  unfold execTickClose
  split <;> exact locksNothing_of_eq (by simp)

theorem execUpstreamFramingError_locksNothing (n : Nat) : LocksNothing s (execUpstreamFramingError n s) := by
  unfold execUpstreamFramingError
  simp only []
  split <;> exact locksNothing_of_eq (by simp)

theorem execUpstreamGapAbandon_locksNothing : LocksNothing s (execUpstreamGapAbandon s) := by
  unfold execUpstreamGapAbandon
  split <;> exact locksNothing_of_eq (by simp)

theorem execRequestUnknownCode_locksNothing : LocksNothing s (execRequestUnknownCode s) := by
  unfold execRequestUnknownCode
  split
  · exact locksNothing_of_eq rfl
  · split <;> exact locksNothing_of_eq (by simp [Reply.refuse])

theorem execSaveEnd_locksNothing (verified : Bool) (n : Nat) : LocksNothing s (execSaveEnd verified n s) := by
  unfold execSaveEnd
  split
  · exact locksNothing_of_eq rfl
  · cases verified <;> exact locksNothing_of_eq (by simp)

theorem execFrameStart_locksNothing : LocksNothing s (execFrameStart s) := by
  unfold execFrameStart
  split <;> exact locksNothing_of_eq rfl

theorem execFrameSent_locksNothing (n : Nat) : LocksNothing s (execFrameSent n s) := by
  unfold execFrameSent
  split
  · split <;> exact locksNothing_of_eq (by simp)
  · exact locksNothing_of_eq rfl

theorem execHoldInChange_locksNothing (asserted : Bool) (n : Nat) : LocksNothing s (execHoldInChange asserted n s) :=
  locksNothing_of_eq (by simp)

theorem execLinkTrialExpiry_locksNothing : LocksNothing s (execLinkTrialExpiry s) := by
  unfold execLinkTrialExpiry
  split <;> exact locksNothing_of_eq (by simp)

theorem execMarkerEdge_locksNothing (edge : Edge) (n : Nat) : LocksNothing s (execMarkerEdge edge n s) := by
  unfold execMarkerEdge
  simp only []
  split_ifs <;> exact locksNothing_of_eq (by simp)

theorem execSecondMarkEnd_locksNothing : LocksNothing s (execSecondMarkEnd s) := by
  unfold execSecondMarkEnd
  split <;> exact locksNothing_of_eq (by simp)

theorem execCode2IntervalEnd_locksNothing : LocksNothing s (execCode2IntervalEnd s) := by
  unfold execCode2IntervalEnd
  split <;> exact locksNothing_of_eq (by simp)

/-- A power-on begins in FREE-RUN, or is none (R10, R207). -/
theorem execPowerOn_locksNothing : LocksNothing s (execPowerOn s) := by
  refine (leaves_next _ _).mpr fun ht => ?_
  unfold State.powerOn at ht
  simp only [] at ht
  split at ht <;> cases ht

/-- A power loss leaves a timebase in FREE-RUN (R10). -/
theorem execPowerLoss_locksNothing : LocksNothing s (execPowerLoss s) :=
  (leaves_next _ _).mpr fun ht => by cases ht

theorem judgeTimeLabel_discipline (q : Request) (s : State) : (judgeTimeLabel q s).state.tb.discipline = s.tb.discipline := rfl

theorem judgeTimebaseSet_discipline (q : Request) (s : State) :
    (judgeTimebaseSet q s).state.tb.discipline = s.tb.discipline := by
  unfold judgeTimebaseSet
  simp only []
  split <;> rfl

/-- No command but an edge on PPS enters LOCKED. -/
theorem exec_locksNothing {c : Instr} (hc : ∀ n, c ≠ .ppsEdge n) : LocksNothing s (exec c s) := by
  cases c with
  | powerOn => exact execPowerOn_locksNothing
  | startUpComplete n => exact execStartUpComplete_locksNothing n
  | mark => exact execMark_locksNothing
  | tick => exact execTick_locksNothing
  | strobeEnd => exact execStrobeEnd_locksNothing
  | missingMarkCheck => exact execMissingMarkCheck_locksNothing
  | ppsEdge n => exact absurd rfl (hc n)
  | sampleFrameArrival p b n => exact onPortByte_locksNothing p b n
  | frameAbandon p => exact execFrameAbandon_locksNothing p
  | entryTake => exact execEntryTake_locksNothing
  | tickClose n => exact execTickClose_locksNothing n
  | upstreamFrameArrival b n => exact onLinkByte_locksNothing b n
  | upstreamLenReject b n => exact onLinkByte_locksNothing b n
  | upstreamFramingError n => exact execUpstreamFramingError_locksNothing n
  | upstreamGapAbandon => exact execUpstreamGapAbandon_locksNothing
  | requestUnknownCode => exact execRequestUnknownCode_locksNothing
  | ident => exact locksNothing_read _ judgeIdent_state
  | status => exact locksNothing_read _ judgeStatus_state
  | outputSet => exact locksNothing_take_tb _ judgeOutputSet_tb
  | linkRate => exact locksNothing_take_tb _ judgeLinkRate_tb
  | timeLabel => exact locksNothing_take _ judgeTimeLabel_discipline
  | timebaseSet => exact locksNothing_take _ judgeTimebaseSet_discipline
  | portReset => exact locksNothing_take_tb _ judgePortReset_tb
  | portEnable => exact locksNothing_take_tb _ judgePortEnable_tb
  | portSet => exact locksNothing_take_tb _ judgePortSet_tb
  | channelSet => exact locksNothing_take_tb _ judgeChannelSet_tb
  | channelGet => exact locksNothing_read _ judgeChannelGet_state
  | triadSet => exact locksNothing_take_tb _ judgeTriadSet_tb
  | triadGet => exact locksNothing_read _ judgeTriadGet_state
  | filterShape => exact locksNothing_take_tb _ judgeFilterShape_tb
  | filterTaps => exact locksNothing_take_tb _ judgeFilterTaps_tb
  | filterGet => exact locksNothing_read _ judgeFilterGet_state
  | discard => exact locksNothing_take_tb _ judgeDiscard_tb
  | commit => exact locksNothing_take_tb _ judgeCommit_tb
  | storeWrite => exact locksNothing_take_tb _ judgeStoreWrite_tb
  | storeRead => exact locksNothing_read _ judgeStoreRead_state
  | storePoison => exact locksNothing_take_tb _ judgeStorePoison_tb
  | conditionsClear => exact locksNothing_take_tb _ judgeConditionsClear_tb
  | countersRead => exact locksNothing_read _ judgeCountersRead_state
  | countersClear => exact locksNothing_take_tb _ judgeCountersClear_tb
  | faultRead => exact locksNothing_read _ judgeFaultRead_state
  | faultRelease => exact locksNothing_take_tb _ judgeFaultRelease_tb
  | alertMaskSet => exact locksNothing_take_tb _ judgeAlertMaskSet_tb
  | captureMaskSet => exact locksNothing_take_tb _ judgeCaptureMaskSet_tb
  | lineSet => exact locksNothing_take_tb _ judgeLineSet_tb
  | markerSet => exact locksNothing_take_tb _ judgeMarkerSet_tb
  | save => exact locksNothing_take_tb _ judgeSave_tb
  | restart => exact locksNothing_take_tb _ judgeRestart_tb
  | lockSession => exact locksNothing_take_tb _ judgeLockSession_tb
  | fixPermanent => exact locksNothing_take_tb _ judgeFixPermanent_tb
  | saveEnd verified n => exact execSaveEnd_locksNothing verified n
  | frameStart => exact execFrameStart_locksNothing
  | frameSent n => exact execFrameSent_locksNothing n
  | holdInChange asserted n => exact execHoldInChange_locksNothing asserted n
  | linkTrialExpiry => exact execLinkTrialExpiry_locksNothing
  | markerEdge edge n => exact execMarkerEdge_locksNothing edge n
  | secondMarkEnd => exact execSecondMarkEnd_locksNothing
  | code2IntervalEnd => exact execCode2IntervalEnd_locksNothing
  | sampleFrameByte p b n => exact onPortByte_locksNothing p b n
  | upstreamFrameByte b n => exact onLinkByte_locksNothing b n
  | powerLoss => exact execPowerLoss_locksNothing

/-- Settles O19: only an edge enters LOCKED; it finds s itself, or the state that the due mark leaves of s. -/
theorem lockedOnlyFromEightGoodEdges : Obligations.LockedOnlyFromEightGoodEdges := by
  intro c s t hexec hlocked hd
  by_cases hc : ∃ n, c = .ppsEdge n
  · obtain ⟨n, rfl⟩ := hc
    by_cases hr : s.phase = .running
    · by_cases hin : inSecond s n
      · obtain ⟨hacquire, hcount, htakes, hgood⟩ :=
          execPpsEdge_locks hr (State.edgeMoment_eq_passed hr hin) hexec hlocked hd
        exact ⟨hacquire, hcount, n, n, s, rfl, htakes, hgood, .inl ⟨hin, rfl, rfl⟩⟩
      · have hdue : s.dueMark.phase = .running := (State.dueMark_phase s).trans hr
        obtain ⟨_, hdisc, hgoods⟩ := State.dueMark_discipline (s := s)
        have hmoment := (State.edgeMoment_of_le hr (Nat.le_of_not_lt hin)).trans
          (State.elapse_eq_passed (by rw [hdue]; decide) _)
        obtain ⟨hacquire, hcount, htakes, hgood⟩ := execPpsEdge_locks hdue hmoment hexec hlocked (hdisc ▸ hd)
        exact ⟨hdisc ▸ hacquire, hgoods ▸ hcount, n, _, s.dueMark, rfl, htakes, hgood,
          .inr ⟨hin, exec_mark_dueMark hr, rfl⟩⟩
    · exact absurd ((execPpsEdge_early hr hexec).symm.trans hlocked) hd
  · exact absurd (exec_locksNothing (fun n h => hc ⟨n, h⟩) t hexec hlocked) hd

end Sys2Proof.Machine
end

section
/-! PROOFS. The setting requests: O48 (R16, R18, R162 to R166, R175, R181, R184, R189, R195, R199). -/

namespace Sys2Proof.Machine

open Sys2Proof.Claims

variable {s : State} {q : Request}

/-! ### Unsigned parameters (R181) -/

/-- Bytes read after a number already begun. -/
theorem foldl_natBytes (n v acc : Nat) :
    (natBytes n v).foldl (fun acc b => acc * 256 + b.toNat) acc = acc * 256 ^ n + v % 256 ^ n := by
  induction n generalizing acc with
  | zero => simp [natBytes, Nat.mod_one]
  | succ n ih =>
    rw [natBytes, List.foldl_cons, ih, BitVec.toNat_ofNat, Nat.mod_pow_succ (b := 256)]
    ring

/-- A number written in enough bytes is read back (R181). -/
theorem bytesNat_natBytes {n v : Nat} (h : v < 256 ^ n) : bytesNat (natBytes n v) = v := by
  rw [bytesNat, foldl_natBytes, Nat.zero_mul, Nat.zero_add, Nat.mod_eq_of_lt h]

theorem natBytes_length (n v : Nat) : (natBytes n v).length = n := by
  induction n with
  | zero => rfl
  | succ n ih => rw [natBytes, List.length_cons, ih]

/-- A parameter that fills the body. -/
theorem natAt_natBytes {n v : Nat} (h : v < 256 ^ n) : natAt (natBytes n v) 0 n = v := by
  rw [natAt, bytesAt, List.drop_zero, List.take_of_length_le (Nat.le_of_eq (natBytes_length n v)), bytesNat_natBytes h]

/-- A body of one byte. -/
theorem natAt_single (b : Byte) : natAt [b] 0 1 = b.toNat := Nat.zero_add _

/-! ### A request that is taken (R162 to R166) -/

/-- A request that is ready is judged and answered. -/
theorem State.take_of_ready {name : RequestName} (h : Ready s name q) (judge : Request → State → Reply) :
    s.take name judge = (judge q (taken s)).finish q := by
  obtain ⟨hr, hheld, ⟨rest, hq⟩, hplaces, hcode, hlength⟩ := h
  have hneeded : s.link.output.length + placesNeeded (RequestName.ofCode q.code) ≤ 64 := by
    simpa [placesNeeded, hcode] using hplaces
  exact State.take_judged (State.takeable_eq hr hheld hq hneeded) hcode hlength

theorem Reply.finish_ok (t : State) (q : Request) : (Reply.ok t []).finish q = Claims.answered t q .ok [] :=
  Reply.finish_of t q .ok [] (by decide)

theorem Reply.finish_refuse (t : State) (q : Request) (r : Result) : (Reply.refuse t r).finish q = Claims.answered t q r [] :=
  Reply.finish_of t q r [] (by decide)

/-- A judgement that accepts what passes its check, and refuses the rest with RANGE. -/
theorem State.take_checked {name : RequestName} (h : Ready s name q) {judge : Request → State → Reply} {p : Prop}
    [Decidable p] {t : State} (hj : judge q (taken s) = if p then Reply.ok t [] else Reply.refuse (taken s) .range) :
    (p → s.take name judge = answered t q .ok []) ∧ (¬p → s.take name judge = answered (taken s) q .range []) := by
  rw [State.take_of_ready h, hj]
  refine ⟨fun hp => ?_, fun hp => ?_⟩
  · rw [if_pos hp, Reply.finish_ok]
  · rw [if_neg hp, Reply.finish_refuse]

/-! ### The judgements (R16, R18, R175, R184, R189, R195) -/

theorem judgeTimebaseSet_of {r d h : Nat} (hq : q.params = natBytes 1 r ++ natBytes 1 d ++ natBytes 4 h) (hr : r < 256)
    (hd : d < 256) (hh : h < 4294967296) :
    judgeTimebaseSet q s = if timebaseOk r d h = true then
      Reply.ok (unsavedSet { s with tb := { s.tb with rateSet := r, depthSet := d, holdoverLimit := h } }) []
      else Reply.refuse s .range := by
  have h0 : natAt q.params 0 1 = r := by rw [hq]; exact bytesNat_natBytes (n := 1) hr
  have h1 : natAt q.params 1 1 = d := by rw [hq]; exact bytesNat_natBytes (n := 1) hd
  have h2 : natAt q.params 2 4 = h := by rw [hq]; exact bytesNat_natBytes (n := 4) hh
  unfold judgeTimebaseSet
  rw [h0, h1, h2]
  rfl

theorem judgeOutputSet_of {m : Byte} (hq : q.params = [m]) :
    judgeOutputSet q s = if m.toNat < 8 then
      Reply.ok (unsavedSet { s with link := { s.link with outputSet := BitVec.ofNat 3 m.toNat } }) []
      else Reply.refuse s .range := by
  unfold judgeOutputSet
  rw [hq, natAt_single]
  rfl

theorem judgeAlertMaskSet_of {m : Count16} (hq : q.params = natBytes 2 m.toNat) :
    judgeAlertMaskSet q s = if m.toNat < 16384 then
      Reply.ok (unsavedSet { s with status := { s.status with alertMask := BitVec.ofNat 14 m.toNat } }) []
      else Reply.refuse s .range := by
  unfold judgeAlertMaskSet conditionMaskAt
  rw [hq, natAt_natBytes m.isLt]
  by_cases hm : m.toNat < 16384
  · rw [if_pos hm, if_pos hm]
    rfl
  · rw [if_neg hm, if_neg hm]

theorem judgeCaptureMaskSet_of {m : Byte} (hq : q.params = [m]) :
    judgeCaptureMaskSet q s = if m.toNat < 32 then
      Reply.ok (unsavedSet { s with status := { s.status with captureMask := BitVec.ofNat 5 m.toNat } }) []
      else Reply.refuse s .range := by
  unfold judgeCaptureMaskSet
  rw [hq, natAt_single]
  rfl

/-- The choice that a byte of MARKER_SET names (R195). -/
theorem judgeMarkerSet_of {b : Byte} {x : EdgeSelection} (hq : q.params = [b])
    (hb : b = match x with | .rising => 0 | .falling => 1 | .both => 2) :
    judgeMarkerSet q s = Reply.ok (unsavedSet { s with aux := { s.aux with selection := x } }) [] := by
  unfold judgeMarkerSet
  rw [hq, hb]
  cases x <;> rfl

/-- A byte of MARKER_SET beyond the choices (R195). -/
theorem judgeMarkerSet_none {b : Byte} (hq : q.params = [b]) (hb : 3 ≤ b.toNat) :
    judgeMarkerSet q s = Reply.refuse s .range := by
  have hnone : choiceAt selectionChoice (byteAt q.params 0) = none := by
    rw [hq]
    exact List.getElem?_eq_none hb
  unfold judgeMarkerSet
  rw [hnone]

/-- Settles O48: each row takes the request, checks its number against the range, and writes one setting or refuses. -/
theorem settingRequests : Obligations.SettingRequests := by
  intro q s wrote range
  refine ⟨fun n h hq => ?_, fun r d h hready hq hr hd hh => ?_, fun m h hq => ?_, fun m h hq => ?_, fun m h hq => ?_,
    fun b h hq => ?_⟩
  · have hjudge : judgeTimeLabel q (taken s) = Reply.ok (taken { s with tb := { s.tb with label := some n } }) [] := by
      unfold judgeTimeLabel
      rw [hq, natAt_natBytes n.isLt, BitVec.ofNat_toNat, BitVec.setWidth_eq]
      rfl
    refine congrArg Host.Outcome.next ?_
    rw [State.take_of_ready h, hjudge, Reply.finish_ok]
  · have hlegal := timebaseOk_iff r d h
    obtain ⟨hwrote, hrange⟩ := State.take_checked hready (judgeTimebaseSet_of (s := taken s) hq hr hd hh)
    exact ⟨fun hl => congrArg _ (hwrote (hlegal.mpr hl)), fun hl => congrArg _ (hrange fun hok => hl (hlegal.mp hok))⟩
  · obtain ⟨hwrote, hrange⟩ := State.take_checked h (judgeOutputSet_of (s := taken s) hq)
    exact ⟨fun hm => congrArg _ (hwrote hm), fun hm => congrArg _ (hrange (Nat.not_lt_of_le hm))⟩
  · obtain ⟨hwrote, hrange⟩ := State.take_checked h (judgeAlertMaskSet_of (s := taken s) hq)
    exact ⟨fun hm => congrArg _ (hwrote hm), fun hm => congrArg _ (hrange (Nat.not_lt_of_le hm))⟩
  · obtain ⟨hwrote, hrange⟩ := State.take_checked h (judgeCaptureMaskSet_of (s := taken s) hq)
    exact ⟨fun hm => congrArg _ (hwrote hm), fun hm => congrArg _ (hrange (Nat.not_lt_of_le hm))⟩
  · refine ⟨fun x hb => congrArg Host.Outcome.next ?_, fun hb => congrArg Host.Outcome.next ?_⟩
    · rw [State.take_of_ready h, judgeMarkerSet_of hq hb, Reply.finish_ok]
      rfl
    · rw [State.take_of_ready h, judgeMarkerSet_none hq hb, Reply.finish_refuse]

end Sys2Proof.Machine
end

section
/-! PROOFS. The ends of pulses and intervals, and the lines the outside sees: O12 (R5, R192, R193, R197). -/

namespace Sys2Proof.Machine

open Sys2Proof.Claims

variable {s : State}

/-! ### The commands that end something (R5, R192, R193) -/

/-- On a running device time passes until a clock. -/
theorem State.elapseTo_eq_passed (h : s.phase = .running) (t : Nat) : s.elapseTo t = passed s (t - s.tb.clock) :=
  State.elapse_eq_passed (by rw [h]; decide) _

theorem exec_strobeEnd {u : Nat} (hr : s.phase = .running) (hu : s.tb.strobeUntil = some u) :
    exec .strobeEnd s = .next ((passed s (u - s.tb.clock)).setTb { (passed s (u - s.tb.clock)).tb with strobeUntil := none }) := by
  simp only [exec, execStrobeEnd, hu, State.elapseTo_eq_passed hr]

theorem exec_secondMarkEnd {u : Nat} (hr : s.phase = .running) (hu : s.aux.secondMarkEnd = some u) :
    exec .secondMarkEnd s = .next ((passed s (u - s.tb.clock)).setAux { s.aux with
      lines := Vector.ofFn fun i => { s.aux.lines[i] with raised := false }
      secondMarkEnd := none }) := by
  simp only [exec, execSecondMarkEnd, hu, State.elapseTo_eq_passed hr]
  rfl

/-- The end of the code-2 interval at any clock t. Stated for a variable, so that no check counts the periods of the interval. -/
theorem exec_code2IntervalEnd_at {u t wait : Nat} (hr : s.phase = .running) (hu : s.status.code2 = some u)
    (ht : u + Config.code2Periods = t) (hw : t - s.tb.clock = wait) :
    exec .code2IntervalEnd s = .next ((passed s wait).setStatus { s.status with code2 := none }) := by
  simp only [exec, execCode2IntervalEnd, hu, ht, State.elapseTo_eq_passed hr, hw]
  rfl

theorem exec_code2IntervalEnd {u : Nat} (hr : s.phase = .running) (hu : s.status.code2 = some u) :
    exec .code2IntervalEnd s =
      .next ((passed s (u + 100000000 - s.tb.clock)).setStatus { s.status with code2 := none }) :=
  exec_code2IntervalEnd_at hr hu (congrArg (u + ·) Config.code2Periods_eq) rfl

/-! ### The indicator (R192) -/

theorem State.indicatorLine_eq (i : Fin 3) : s.indicatorLine i = decide (s.indicator / 2 ^ i.val % 2 = 1) :=
  Nat.testBit_eq_decide_div_mod_eq

/-- The indicator of a running device, by the first case that applies. -/
theorem State.indicator_running (h : s.phase = .running) : s.indicator =
    if s.status.code2.isSome then 2
    else if s.status.capture.isSome then 7
    else match s.tb.discipline with | .freeRun => 3 | .acquire => 4 | .locked => 5 | .holdover => 6 := by
  cases hd : s.tb.discipline <;> simp only [State.indicator, h, hd]

theorem State.indicator_code2 (h : s.phase = .running) (hc : s.status.code2 ≠ none) : s.indicator = 2 := by
  rw [State.indicator_running h, if_pos (Option.isSome_iff_ne_none.mpr hc)]

theorem State.indicator_capture (h : s.phase = .running) (hc : s.status.code2 = none) (hf : s.status.capture ≠ none) :
    s.indicator = 7 := by
  rw [State.indicator_running h, hc, if_neg (by decide), if_pos (Option.isSome_iff_ne_none.mpr hf)]

theorem State.indicator_discipline (h : s.phase = .running) (hc : s.status.code2 = none) (hf : s.status.capture = none) :
    s.indicator = match s.tb.discipline with | .freeRun => 3 | .acquire => 4 | .locked => 5 | .holdover => 6 := by
  rw [State.indicator_running h, hc, hf, if_neg (by decide), if_neg (by decide)]

/-! ### The auxiliary lines (R193, R197) -/

/-- Before the load has ended no line is driven (R197). -/
theorem State.lineLevel_down (h : s.phase = .off ∨ s.phase = .powered) (i : Fin 4) : s.lineLevel i = .undriven := by
  refine if_neg ?_
  rcases h with h | h <;> simp [State.linkUp, h]

/-- The level of a line by its designation, once the load has ended. -/
def designated (s : State) (line : AuxLine) : LineLevel :=
  match line.settings.designation with
  | .off | .markerIn => .undriven
  | .levelLow => .low
  | .levelHigh => .high
  | .secondMark => if line.raised then .high else .low
  | .alert => if s.alert then .high else .low
  | .clockOut =>
    if line.settings.k = 0 then .oscillator
    else if (s.tb.clock - line.cycleStart) % 2 ^ line.settings.k < line.settings.highPeriods then .high
    else .low

theorem State.lineLevel_up (h : s.phase = .loaded ∨ s.phase = .running) (i : Fin 4) :
    s.lineLevel i = designated s s.aux.lines[i] := by
  refine (if_pos ?_).trans rfl
  rcases h with h | h <;> simp [State.linkUp, h]

/-- The alert line is low when no condition of the mask is set (R184). -/
theorem alertLevel_eq : (if s.alert then LineLevel.high else .low) =
    if s.status.conditions &&& s.status.alertMask = 0 then .low else .high := by
  by_cases h : s.status.conditions &&& s.status.alertMask = 0 <;> simp [State.alert, h]

/-- The periods high of a clock output that divides by four or more (R193). -/
theorem highPeriods_of_two_le {l : LineSettings} (h : 2 ≤ l.k) : l.highPeriods =
    match l.duty with | .d25 => 2 ^ (l.k - 2) | .d50 => 2 ^ (l.k - 1) | .d75 => 3 * 2 ^ (l.k - 2) :=
  if_neg (by omega)

/-- A clock output shows its place in the cycle against the periods high (R193). -/
theorem designated_clockOut {line : AuxLine} (hd : line.settings.designation = .clockOut) (hk : 1 ≤ line.settings.k)
    {high : Nat} (hh : line.settings.highPeriods = high) :
    designated s line =
      if (s.tb.clock - line.cycleStart) % 2 ^ line.settings.k < high then .high else .low := by
  subst hh
  simp only [designated, hd, if_neg (show ¬line.settings.k = 0 by omega)]

/-- A clock output that does not divide shows the oscillator itself (R193). -/
theorem designated_oscillator {line : AuxLine} (hd : line.settings.designation = .clockOut) (hk : line.settings.k = 0) :
    designated s line = .oscillator := by
  simp only [designated, hd, if_pos hk]

/-- Settles O12: each end waits for its clock and clears what it names; the lines are read off by case. -/
theorem pulsesAndIntervalsEnd : Obligations.PulsesAndIntervalsEnd := by
  refine ⟨fun s u hr => ⟨fun hu => ⟨exec_strobeEnd hr hu, rfl⟩, exec_secondMarkEnd hr, exec_code2IntervalEnd hr⟩,
    fun s => ⟨State.indicatorLine_eq, fun h => by simp only [State.indicator, h], fun h => by simp only [State.indicator, h],
      State.indicator_code2, State.indicator_capture, State.indicator_discipline, fun i => ?_⟩⟩
  intro line shows
  refine ⟨fun h => State.lineLevel_down h i, fun h => ?_⟩
  have hup (x : LineLevel) (hx : designated s line = x) : shows x := (State.lineLevel_up h i).trans hx
  split <;> rename_i hd
  · exact hup _ (by simp only [designated, hd])
  · exact hup _ (by simp only [designated, hd])
  · exact hup _ (by simp only [designated, hd])
  · exact hup _ (by simp only [designated, hd])
  · exact hup _ (by simp only [designated, hd, alertLevel_eq])
  · exact hup _ (by simp only [designated, hd])
  · intro k place
    refine ⟨fun hk => hup _ (designated_oscillator hd hk), fun hk => ?_, fun hk hduty => ?_, fun hk hduty => ?_,
      fun hk hduty => ?_⟩
    · exact hup _ (designated_clockOut hd (ge_of_eq hk) (if_pos hk))
    all_goals exact hup _ (designated_clockOut hd (Nat.le_of_succ_le hk) (by rw [highPeriods_of_two_le hk, hduty]))

end Sys2Proof.Machine
end

section
/-! PROOFS. Bounds: the invariant of `Bounded`, block by block, and what each update of one block asks for to keep it (R26, R42, R43,
R63, R117, R124, R125, R127, R162, R166, R199). -/

namespace Sys2Proof.Machine

open Sys2Proof.Claims

/-! ### The invariant, block by block -/

/-- The link's part of `Bounded`: the request queue within its places (R162), the output queue within its own (R166). -/
structure Link.Within (l : Link) : Prop where
  requests : l.requests.length ≤ 4
  roomy : l.roomy

/-- The assembler's part of `Bounded`: four issued ticks are kept (log 16), and a close is in progress exactly while ticks wait for
theirs (R43). -/
structure Assembler.Within (a : Assembler) : Prop where
  issued : a.issued.length ≤ 4
  closing : a.closing = none ↔ a.closeQueue = []

/-- The decimator's part of `Bounded`: every history within its length (R117, R124, R125, R127). -/
structure Decimator.Within (d : Decimator) : Prop where
  ticks : ∀ k : Fin 2, (d.tickHistory[k]).length ≤ 64
  seconds : ∀ k : Fin 2, (d.secondHistory[k]).length ≤ 128
  scalars : d.scalarHistory.length ≤ 128
  temps : ∀ n : Fin 16, (d.tempHistory[n]).length ≤ 60

/-- The settings store's part of `Bounded`: the stores of the image and of a running save's snapshot in canonical form. -/
structure SettingsStore.Within (x : SettingsStore) : Prop where
  image : ∀ c, x.image.contents = some c → c.store.wf = true
  save : ∀ r, x.save = some r → r.snapshot.store.wf = true

/-- `Bounded`, one field per block. -/
structure Within (s : State) : Prop where
  ports : ∀ p : Port, (s.port p).fifo.length ≤ 32
  link : s.link.Within
  asm : s.asm.Within
  dec : s.dec.Within
  store : s.store.wf = true
  settings : s.settings.Within

/-- The statement's responses are the frames outside the data record class (R166). -/
theorem not_isResponse_eq (f : Frame) : (!isResponse f) = f.body.isData := by
  obtain ⟨body, tied⟩ := f
  cases body <;> rfl

/-- The statement's `Bounded` is the invariant by blocks. -/
theorem bounded_iff_within (s : State) : Bounded s ↔ Within s := by
  unfold Bounded
  simp only [not_isResponse_eq]
  constructor
  · rintro ⟨hports, hreq, hout, hdata, hsend, hissued, hclosing, hhist, hscalar, htemp, hstore, himage, hsave⟩
    exact
      { ports := hports
        link := ⟨hreq, hout, hdata, hsend⟩
        asm := ⟨hissued, hclosing⟩
        dec := ⟨fun k => (hhist k).1, fun k => (hhist k).2, hscalar, htemp⟩
        store := hstore
        settings := ⟨himage, hsave⟩ }
  · rintro ⟨hports, ⟨hreq, hout, hdata, hsend⟩, ⟨hissued, hclosing⟩, ⟨hticks, hseconds, hscalar, htemp⟩, hstore,
      ⟨himage, hsave⟩⟩
    exact ⟨hports, hreq, hout, hdata, hsend, hissued, hclosing, fun k => ⟨hticks k, hseconds k⟩, hscalar, htemp, hstore,
      himage, hsave⟩

/-! ### Updates of one block -/

section Updates

variable {s : State}

/-- What leaves the request queue and keeps the output queue's bounds keeps the link's. -/
theorem Link.Within.of_rest {l x : Link} (h : l.Within) (hrest : x.rest = l.rest) (hroomy : x.roomy) : x.Within :=
  ⟨(congrArg (List.length ∘ Link.requests) hrest).trans_le h.requests, hroomy⟩

/-- A change of the link outside its two queues keeps its bounds. -/
theorem Link.Within.of_queues {l x : Link} (h : l.Within) (hreq : x.requests = l.requests) (hout : x.output = l.output)
    (hsend : x.sending = l.sending) : x.Within := by
  obtain ⟨hlen, hdata, hne⟩ := h.roomy
  exact ⟨hreq ▸ h.requests, hout ▸ hlen, hout ▸ hdata, by rw [hout, hsend]; exact hne⟩

/-- A state that agrees with a bounded one on every block that `Bounded` reads, its output queue within its places, is bounded. The
agreements are frame facts of the operation at hand. -/
theorem Within.of_agree {t : State} (h : Within s) (hroomy : t.link.roomy) (hportA : t.portA = s.portA := by simp)
    (hportB : t.portB = s.portB := by simp) (hasm : t.asm = s.asm := by simp) (hdec : t.dec = s.dec := by simp)
    (hstore : t.store = s.store := by simp) (hlink : t.link.rest = s.link.rest := by simp)
    (himage : t.settings.image.contents = s.settings.image.contents := by simp)
    (hsave : t.settings.save = s.settings.save := by simp) : Within t where
  ports := by
    intro p
    have hp : t.port p = s.port p := by cases p <;> assumption
    exact hp ▸ h.ports p
  link := h.link.of_rest hlink hroomy
  asm := hasm ▸ h.asm
  dec := hdec ▸ h.dec
  store := hstore ▸ h.store
  settings := ⟨himage ▸ h.settings.image, hsave ▸ h.settings.save⟩

theorem Within.setTb (h : Within s) (x : Timebase) : Within (s.setTb x) := h.of_agree h.link.roomy

theorem Within.setStatus (h : Within s) (x : StatusUnit) : Within (s.setStatus x) := h.of_agree h.link.roomy

theorem Within.setAux (h : Within s) (x : Auxiliary) : Within (s.setAux x) := h.of_agree h.link.roomy

theorem Within.setStaging (h : Within s) (x : Staging) : Within (s.setStaging x) := h.of_agree h.link.roomy

theorem Within.setScreens (h : Within s) (x : Vector Screen 2) : Within (s.setScreens x) := h.of_agree h.link.roomy

theorem Within.setPhase (h : Within s) (x : Phase) : Within (s.setPhase x) := h.of_agree h.link.roomy

theorem Within.setPending (h : Within s) (x : List Instr) : Within (s.setPending x) := h.of_agree h.link.roomy

theorem Within.setPort (h : Within s) (p : Port) {x : SensorPort} (hx : x.fifo.length ≤ 32) : Within (s.setPort p x) where
  ports := by
    intro q
    by_cases hq : q = p
    · rwa [hq, State.setPort_port]
    · rw [State.setPort_other s p q x hq]; exact h.ports q
  link := by simpa using h.link
  asm := by simpa using h.asm
  dec := by simpa using h.dec
  store := by simpa using h.store
  settings := by simpa using h.settings

theorem Within.setAsm (h : Within s) {x : Assembler} (hx : x.Within) : Within (s.setAsm x) :=
  ⟨h.ports, h.link, hx, h.dec, h.store, h.settings⟩

theorem Within.setStore (h : Within s) {x : Store} (hx : x.wf = true) : Within (s.setStore x) :=
  ⟨h.ports, h.link, h.asm, h.dec, hx, h.settings⟩

theorem Within.setDec (h : Within s) {x : Decimator} (hx : x.Within) : Within (s.setDec x) :=
  ⟨h.ports, h.link, h.asm, hx, h.store, h.settings⟩

theorem Within.setLink (h : Within s) {x : Link} (hx : x.Within) : Within (s.setLink x) :=
  ⟨h.ports, hx, h.asm, h.dec, h.store, h.settings⟩

theorem Within.setSettings (h : Within s) {x : SettingsStore} (hx : x.Within) : Within (s.setSettings x) :=
  ⟨h.ports, h.link, h.asm, h.dec, h.store, hx⟩

/-! ### The shared operations -/

theorem Within.elapse (h : Within s) (n : Nat) : Within (s.elapse n) := h.of_agree (by simpa using h.link.roomy)

theorem Within.elapseTo (h : Within s) (n : Nat) : Within (s.elapseTo n) := h.elapse _

theorem Within.elapseToPeriod (h : Within s) (n : Nat) : Within (s.elapseToPeriod n) := h.elapse _

theorem Within.setCondition (h : Within s) (c : Condition) : Within (s.setCondition c) := h.setStatus _

theorem Within.count (h : Within s) (c : Counter) : Within (s.count c) := h.setStatus _

/-- An offered record joins the output queue only while fewer than 60 places are occupied (R167). -/
theorem Within.offerData (h : Within s) (b : Body) : Within (s.offerData b) := h.of_agree (by simp [h.link.roomy])

theorem Within.offerNotice (h : Within s) (n : Notice) : Within (s.offerNotice n) := h.offerData _

theorem Within.timebaseNotice (h : Within s) (c : TimebaseCause) (d : Discipline) (e : Option Int) :
    Within (s.timebaseNotice c d e) := h.offerNotice _

theorem Within.raiseFault (h : Within s) (f : RaisedFault) : Within (s.raiseFault f) := h.of_agree (by simp [h.link.roomy])

theorem Within.touchSettings (h : Within s) : Within s.touchSettings := h.setSettings ⟨h.settings.image, h.settings.save⟩

theorem Within.dropRequest (h : Within s) : Within s.dropRequest := by
  have htail : s.link.requests.tail.length ≤ s.link.requests.length := by simp
  exact h.setLink ⟨htail.trans h.link.requests, h.link.roomy⟩

theorem Within.noteEarlyEdge (h : Within s) : Within s.noteEarlyEdge := h.of_agree (by simpa using h.link.roomy)

end Updates

end Sys2Proof.Machine
end

section
/-! PROOFS. Bounds of one block: what the operations of the assembler, the decimator, the link and the settings store keep (R42, R43, R63,
R117, R124, R125, R127, R162, R166, R199). -/

namespace Sys2Proof.Machine

/-! ### The assembler (R42, R43, R50, R56) -/

/-- An issued tick is among the last four (log 16), and one that leaves the open set waits for its close (R42). -/
theorem Assembler.issue_issued_le (a : Assembler) (depth : Nat) (id : TickId) : (a.issue depth id).issued.length ≤ 4 := by
  unfold Assembler.issue
  simp only []
  split
  · exact lastN_length_le 4 _
  · split
    · exact lastN_length_le 4 _
    · exact lastN_length_le 4 _

/-- A tick issued while a close is in progress leaves ticks waiting for theirs. -/
theorem Assembler.issue_closeQueue_ne {a : Assembler} (h : a.closeQueue ≠ []) (depth : Nat) (id : TickId) :
    (a.issue depth id).closeQueue ≠ [] := by
  unfold Assembler.issue
  simp only []
  split
  · exact h
  · split
    · exact List.append_ne_nil_of_left_ne_nil h _
    · exact h

@[simp] theorem Assembler.issue_closing (a : Assembler) (depth : Nat) (id : TickId) : (a.issue depth id).closing = a.closing := by
  unfold Assembler.issue
  simp only []
  split
  · rfl
  · split <;> rfl

theorem Assembler.restart_within {a : Assembler} (h : a.Within) (depth : Nat) : (a.restart depth).Within :=
  ⟨h.issued, ⟨fun _ => rfl, fun _ => rfl⟩⟩

theorem Assembler.powerOn_within : Assembler.powerOn.Within := ⟨Nat.zero_le _, ⟨fun _ => rfl, fun _ => rfl⟩⟩

/-- A change of the open set and the pointer alone (R45, R48). -/
theorem Assembler.Within.of_agree {a x : Assembler} (h : a.Within) (hi : x.issued = a.issued) (hc : x.closing = a.closing)
    (hq : x.closeQueue = a.closeQueue) : x.Within :=
  ⟨hi ▸ h.issued, by rw [hc, hq]; exact h.closing⟩

/-- A waiting tick begins its close when none is in progress, so one is in progress exactly while ticks wait (R43, R50): all that a
state has to bring is that nothing is in progress without a waiting tick. -/
theorem State.beginClose_within {s : State} (hi : s.asm.issued.length ≤ 4) (hc : s.asm.closing ≠ none → s.asm.closeQueue ≠ []) :
    s.beginClose.asm.Within := by
  unfold State.beginClose
  split
  case h_1 hclosing hqueue => exact ⟨hi, by simp [hqueue]⟩
  case h_2 hclosing hqueue => exact ⟨hi, by simp [hclosing, hqueue]⟩
  case h_3 hclosing => exact ⟨hi, by simpa [hclosing] using hc⟩

/-! ### The decimator's histories (R117, R124, R125, R127) -/

/-- Histories within a length stay within it when one is replaced by another within it. -/
theorem histories_set_length_le {α : Type} {n b : Nat} {v : Vector (List α) n} (h : ∀ j : Fin n, (v[j]).length ≤ b) (k : Fin n)
    {l : List α} (hl : l.length ≤ b) : ∀ j : Fin n, ((v.set k l)[j]).length ≤ b := by
  intro j
  simp only [Fin.getElem_fin, Vector.getElem_set]
  split
  · exact hl
  · exact h j

theorem joinHistory_length_le {α : Type} (n : Nat) (l : List α) (x : α) : (joinHistory n l x).length ≤ n := lastN_length_le n _

/-- A decimator with the four histories of a bounded one is bounded. -/
theorem Decimator.Within.of_agree {d x : Decimator} (h : d.Within) (ht : x.tickHistory = d.tickHistory)
    (hs : x.secondHistory = d.secondHistory) (hf : x.scalarHistory = d.scalarHistory) (hn : x.tempHistory = d.tempHistory) :
    x.Within := ⟨ht ▸ h.ticks, hs ▸ h.seconds, hf ▸ h.scalars, hn ▸ h.temps⟩

theorem Decimator.cleared_within : Decimator.cleared.Within :=
  ⟨by simp [Decimator.cleared], by simp [Decimator.cleared], Nat.zero_le _, by simp [Decimator.cleared]⟩

/-- A relabel empties the second-level histories and keeps the tick histories (R132). -/
theorem Decimator.Within.relabelClear {d : Decimator} (h : d.Within) : d.relabelClear.Within :=
  ⟨h.ticks, Decimator.cleared_within.seconds, Nat.zero_le _, Decimator.cleared_within.temps⟩

theorem Decimator.Within.relabelNow {d : Decimator} (h : d.Within) (t0 number : Num32) : (d.relabelNow t0 number).Within :=
  h.relabelClear.of_agree rfl rfl rfl rfl

/-- A step empties every history (R131). -/
theorem Decimator.step_within (d : Decimator) (t0 second : Num32) : (d.step t0 second).Within :=
  Decimator.cleared_within.of_agree rfl rfl rfl rfl

theorem Decimator.Within.markClears {d : Decimator} (h : d.Within) (byStep relabelled : Bool) (t0 second : Num32) :
    (d.markClears byStep relabelled t0 second).Within := by
  have hstep : (if byStep then d.step t0 second else d).Within := by
    split
    · exact d.step_within t0 second
    · exact h
  unfold Decimator.markClears
  simp only []
  split
  · exact hstep.relabelClear.of_agree rfl rfl rfl rfl
  · exact hstep

theorem Decimator.Within.addSecond {d : Decimator} (h : d.Within) (e : PendingSecond) : (d.addSecond e).Within :=
  h.of_agree rfl rfl rfl rfl

theorem Decimator.Within.clearTriad {d : Decimator} (h : d.Within) (k : Fin 2) (clear : Bool) : (d.clearTriad k clear).Within := by
  unfold Decimator.clearTriad
  split
  · exact ⟨histories_set_length_le h.ticks k (Nat.zero_le _), histories_set_length_le h.seconds k (Nat.zero_le _), h.scalars, h.temps⟩
  · exact h

theorem Decimator.Within.clearRoles {d : Decimator} (h : d.Within) (c : Configuration) : (d.clearRoles c).Within := by
  refine ⟨h.ticks, h.seconds, ?_, fun n => ?_⟩
  · simp only [Decimator.clearRoles]
    split
    · exact h.scalars
    · exact Nat.zero_le _
  · simp only [Decimator.clearRoles, Fin.getElem_fin, Vector.getElem_ofFn]
    split
    · exact h.temps n
    · exact Nat.zero_le _

theorem enterDecision_length_le (generation : Num32) (step : Option Num32) {l : List TickEntry} (h : l.length ≤ 64) (x : Decision) :
    (enterDecision generation step l x).length ≤ 64 := by
  unfold enterDecision
  split
  · exact h
  · exact joinHistory_length_le _ _ _

theorem Decimator.Within.enterDecisions {d : Decimator} (h : d.Within) (k : Fin 2) (generation : Num32) (l : List Decision) :
    (d.enterDecisions k generation l).Within := by
  have hentered := foldl_keeps (fun x : List TickEntry => x.length ≤ 64) (enterDecision generation d.tickStep)
    (fun x y hx => enterDecision_length_le _ _ hx y) l _ (h.ticks k)
  exact ⟨histories_set_length_le h.ticks k hentered, h.seconds, h.scalars, h.temps⟩

theorem Decimator.Within.deliver {d : Decimator} (h : d.Within) (tick : TickId) (t : Tick0Samples) : (d.deliver tick t).Within := by
  unfold Decimator.deliver
  split
  · exact h
  · exact h.of_agree rfl rfl rfl rfl

theorem Decimator.Within.enterTriadValue {d : Decimator} (h : d.Within) (second : Num32) (p : Fin 2 × TriadValue) :
    (enterTriadValue second d p).Within :=
  ⟨h.ticks, histories_set_length_le h.seconds p.1 (joinHistory_length_le Config.secondHistoryLength _ _), h.scalars, h.temps⟩

theorem Decimator.Within.enterScalar {d : Decimator} (h : d.Within) (second : Num32) (generation : Option Num32)
    (v : Option ScalarValue) : (enterScalar second generation d v).Within := by
  unfold Machine.enterScalar
  cases v with
  | none => exact h
  | some x =>
    refine ⟨h.ticks, h.seconds, ?_, h.temps⟩
    simp only []
    exact joinHistory_length_le Config.secondHistoryLength _ _

theorem Decimator.Within.enterTemperature {d : Decimator} (h : d.Within) (e : PendingSecond) (n : Fin 16) :
    (enterTemperature e d n).Within := by
  have hentered := histories_set_length_le h.temps n
    (joinHistory_length_le Config.tempHistoryLength (d.tempHistory[n]) ⟨e.second, e.temperature n⟩)
  unfold Machine.enterTemperature
  simp only []
  split
  · exact ⟨h.ticks, h.seconds, h.scalars, hentered⟩
  · exact ⟨h.ticks, h.seconds, h.scalars, hentered⟩

theorem Decimator.Within.enterSecond {d : Decimator} (h : d.Within) (c : Configuration) (e : PendingSecond)
    (values : List (Fin 2 × TriadValue)) (scalar : Option ScalarValue) : (d.enterSecond c e values scalar).Within := by
  have htriads := foldl_keeps Decimator.Within (Machine.enterTriadValue e.second) (fun _ p hd => hd.enterTriadValue e.second p)
    values d h
  exact foldl_keeps Decimator.Within (Machine.enterTemperature e) (fun _ n hd => hd.enterTemperature e n) _ _
    (htriads.enterScalar _ _ _)

/-! ### The link (R162, R165, R166, R170 to R174) -/

theorem Link.Within.restart {l : Link} (h : l.Within) : l.restart.Within := ⟨h.requests, l.restart_roomy h.roomy⟩

theorem Link.powerOn_within (st : Settings) (holdIn : Bool) : (Link.powerOn st holdIn).Within :=
  ⟨Nat.zero_le _, Nat.zero_le _, Nat.zero_le _, fun h => by cases h⟩

/-- Responses join while the output queue has room for them, and are no data records (R163, R166). -/
theorem Link.Within.append {l : Link} (h : l.Within) {frames : List Frame} (hlen : l.output.length + frames.length ≤ 64)
    (hdata : frames.countP (fun f => f.body.isData) = 0) : Link.Within { l with output := l.output ++ frames } := by
  obtain ⟨hout, hcount, hsend⟩ := h.roomy
  refine ⟨h.requests, ?_, ?_, fun hs => ?_⟩
  · simpa using hlen
  · simpa [List.countP_append, hdata] using hcount
  · exact List.append_ne_nil_of_left_ne_nil (hsend hs) _

theorem Link.Within.offerSave {l : Link} (h : l.Within) (r : Response) : (l.offerSave r).Within := by
  unfold Link.offerSave
  split
  · rename_i hroom
    exact h.append hroom rfl
  · exact h.of_queues rfl rfl rfl

/-- A held SAVE response takes a place that a sent frame has freed (R165). -/
theorem Link.Within.admitHeld {l : Link} (h : l.Within ∧ l.output.length < 64) : l.admitHeld.Within := by
  unfold Link.admitHeld
  split
  · rename_i r hr
    exact (h.1.append (frames := [⟨.response r, false⟩]) h.2 rfl).of_queues rfl rfl rfl
  · exact h.1

/-- A sent frame's place stays free through whatever leaves the two queues alone. -/
theorem Link.Within.freed_of_queues {l x : Link} (h : l.Within ∧ l.output.length < 64) (hreq : x.requests = l.requests)
    (hout : x.output = l.output) (hsend : x.sending = l.sending) : x.Within ∧ x.output.length < 64 :=
  ⟨h.1.of_queues hreq hout hsend, hout ▸ h.2⟩

/-- A trial that starts leaves the two queues alone (R172). -/
theorem Link.Within.startTrial_freed {l : Link} (h : l.Within ∧ l.output.length < 64) (clock : Nat) :
    (l.startTrial clock).Within ∧ (l.startTrial clock).output.length < 64 := by
  unfold Link.startTrial
  split
  · exact Link.Within.freed_of_queues h rfl rfl rfl
  · exact h

/-- The end of a frame frees its place, and the transmitter is idle (R170). -/
theorem Link.Within.sent {l : Link} (h : l.Within) {f : Frame} {rest : List Frame} (hout : l.output = f :: rest) (clock : Nat) :
    (l.sent f rest clock).Within := by
  obtain ⟨hlen, hdata, _⟩ := h.roomy
  rw [hout] at hlen hdata
  have hroom : rest.length < 64 := hlen
  have hcount := (List.sublist_cons_self f rest).countP_le.trans hdata
  have hfreed : Link.Within { l with output := rest, sending := false } ∧ rest.length < 64 :=
    ⟨⟨h.requests, hroom.le, hcount, fun hs => by cases hs⟩, hroom⟩
  unfold Link.sent
  simp only []
  refine Link.Within.admitHeld ?_
  split_ifs
  · refine Link.Within.startTrial_freed (Link.Within.freed_of_queues hfreed ?_ ?_ ?_) clock <;> rfl
  · exact Link.Within.freed_of_queues hfreed rfl rfl rfl
  · exact Link.Within.startTrial_freed hfreed clock
  · exact hfreed

/-- No frame tied to a rate change: the queue keeps its frames' bodies (R171). -/
theorem Link.Within.untie {l : Link} (h : l.Within) : l.untie.Within := by
  obtain ⟨hlen, hdata, hsend⟩ := h.roomy
  refine ⟨h.requests, ?_, ?_, fun hs => ?_⟩
  · simpa [Link.untie] using hlen
  · simpa [Link.untie, List.countP_map, Function.comp_def] using hdata
  · simpa [Link.untie] using hsend hs

/-! ### The settings store (R63, R199, R200, R204 to R207) -/

theorem SettingsStore.Within.load {x : SettingsStore} (h : x.Within) : x.image.load.store.wf = true := by
  unfold Image.load
  split
  · cases hc : x.image.contents with
    | none => rfl
    | some c => exact h.image c hc
  · rfl

theorem SettingsStore.Within.loaded {x : SettingsStore} (h : x.Within) : x.loaded.Within := ⟨h.image, fun r hr => by cases hr⟩

theorem SettingsStore.Within.unpowered {x : SettingsStore} (h : x.Within) : x.unpowered.Within :=
  ⟨h.image, fun r hr => by cases hr⟩

/-- The end of a save leaves its snapshot or no whole image (R205). -/
theorem SettingsStore.Within.endSave {x : SettingsStore} (h : x.Within) {r : RunningSave} (hr : x.save = some r)
    (verified : Bool) : (x.endSave r verified).Within := by
  cases verified with
  | true =>
    refine ⟨fun c hc => ?_, fun r' hr' => by cases hr'⟩
    cases hc
    exact h.save r hr
  | false => exact ⟨h.image, fun r' hr' => by cases hr'⟩

end Sys2Proof.Machine
end

section
/-! PROOFS. Bounds under the operations of marks, ticks, edges, ports, closes, the link and power: each operation keeps `Within` (R4, R15,
R23 to R30, R40, R42 to R56, R116 to R138, R160 to R174, R206, R207, R210). -/

namespace Sys2Proof.Machine

variable {s : State}

/-! ### Ticks and marks -/

/-- A change of the assembler that leaves no close in progress without a waiting tick; the next close begins (R43, R50). -/
theorem Within.setAsm_beginClose (h : Within s) {a : Assembler} (hi : a.issued.length ≤ 4)
    (hc : a.closing ≠ none → a.closeQueue ≠ []) : Within (s.setAsm a).beginClose where
  ports := fun p => by
    have hp : (s.setAsm a).beginClose.port p = s.port p := by cases p <;> simp
    exact hp ▸ h.ports p
  link := by simpa using h.link
  asm := State.beginClose_within hi hc
  dec := by simpa using h.dec
  store := by simpa using h.store
  settings := by simpa using h.settings

/-- A tick that joins the close queue begins its close when none is in progress (R42, R50). -/
theorem Within.issueTick (h : Within s) : Within s.issueTick := by
  unfold State.issueTick
  refine Within.setAsm_beginClose (h.setTb _) (Assembler.issue_issued_le _ _ _) fun hc => ?_
  rw [Assembler.issue_closing] at hc
  exact Assembler.issue_closeQueue_ne (fun hq => hc (h.asm.closing.mpr hq)) _ _

theorem Within.markTimebase (h : Within s) (n : Num32) : Within (s.markTimebase n) := h.of_agree (by simp [h.link.roomy])

theorem Within.applyCommit (h : Within s) (n : Num32) : Within (s.applyCommit n) :=
  ((h.setStaging _).touchSettings).offerNotice _

/-- A command restart empties the FIFOs, the close queue and the histories, and discards data records (R40, R56, R138, R180). -/
theorem Within.commandRestart (h : Within s) : Within s.commandRestart := by
  have hports := ((h.setTb s.tb.restart).setPort .a (x := s.portA.restart) (Nat.zero_le _)).setPort .b (x := s.portB.restart)
    (Nat.zero_le _)
  have hasm := hports.setAsm (x := s.asm.restart s.tb.restart.depth) (Assembler.restart_within h.asm _)
  have hclears : Within ((((s.setTb s.tb.restart).setPort .a s.portA.restart).setPort .b s.portB.restart).setAsm
      (s.asm.restart s.tb.restart.depth) |>.setCorr Corrector.cleared |>.setScreens (Vector.replicate 2 Screen.cleared)) :=
    hasm.of_agree hasm.link.roomy
  have hlink := ((hclears.setDec Decimator.cleared_within).setStaging s.staging.restart).setLink h.link.restart
  have hsettings := (hlink.setStatus s.status.restart).setSettings (x := { s.settings with resetCause := .commanded })
    ⟨h.settings.image, h.settings.save⟩
  exact hsettings.offerNotice _

theorem Within.scheduledWork (h : Within s) : Within s.scheduledWork := by
  unfold State.scheduledWork
  split_ifs
  · exact h.commandRestart
  · exact h.applyCommit _
  · exact h

theorem Within.markConsumers (h : Within s) (byStep relabelled : Bool) : Within (s.markConsumers byStep relabelled) := by
  have hwork : Within s.raiseLines.scheduledWork := (h.setAux _).scheduledWork
  unfold State.markConsumers
  simp only []
  refine Within.issueTick (Within.setDec ?_ (Decimator.Within.addSecond ?_ _))
  · split
    · exact hwork.setScreens _
    · exact hwork
  · have hdec : ∀ c : Prop, [Decidable c] → ∀ v, (if c then s.raiseLines.scheduledWork.setScreens v
        else s.raiseLines.scheduledWork).dec.Within := by
      intro c _ v
      split <;> exact hwork.dec
    split
    · exact hdec _ _
    · exact (hdec _ _).markClears _ _ _ _

theorem Within.makeMark (h : Within s) (n : Num32) (byStep relabelled : Bool) : Within (s.makeMark n byStep relabelled) :=
  (h.markTimebase n).markConsumers byStep relabelled

theorem Within.regularMark (h : Within s) : Within s.regularMark := by
  unfold State.regularMark
  split
  · exact h.makeMark _ _ _
  · exact (h.makeMark _ _ _).timebaseNotice _ _ _

theorem Within.dueMark (h : Within s) : Within s.dueMark := (h.elapseToPeriod _).regularMark

theorem Within.edgeMoment (h : Within s) (n : Nat) : Within (s.edgeMoment n) := by
  unfold State.edgeMoment
  split
  · exact h.dueMark.elapse _
  · exact h.elapse n

theorem Within.firstMark (h : Within s) : Within s.firstMark := by
  have hports := ((h.setPhase .running).setPort .a (x := s.portA.byFlag) (h.ports .a)).setPort .b (x := s.portB.byFlag) (h.ports .b)
  exact ((hports.setStatus _).makeMark _ _ _).offerNotice _

/-! ### Edges on PPS -/

theorem Within.stepEdge (h : Within s) (e : Int) (label : Option Num32) : Within (s.stepEdge e label) := by
  have hmark := (h.setTb s.tb.stepDiscipline).makeMark (label.getD (s.tb.second + 1)) true (relabels label (s.tb.second + 1))
  have hnotice := ((hmark.setCondition .timeStepped).count .timeSteps).timebaseNotice .step s.tb.discipline (some e)
  unfold State.stepEdge
  simp only []
  split
  · exact hnotice.timebaseNotice _ _ _
  · exact hnotice

theorem Within.consumeLabel (h : Within s) (early : Bool) (e : Int) (label : Option Num32) :
    Within (s.consumeLabel early e label) := by
  unfold State.consumeLabel
  split
  · exact h
  · split_ifs
    · exact h
    · exact Within.timebaseNotice ((h.setTb _).setDec (h.dec.relabelNow _ _)) _ _ _
    · exact h
    · exact h.setTb _

theorem Within.reportChange (h : Within s) (before : Discipline) (error : Option Int) : Within (s.reportChange before error) :=
  h.of_agree (by simp [h.link.roomy])

theorem Within.takeEdge (h : Within s) : Within s.takeEdge := by
  have hnoted : Within ((s.setTb s.tb.noteEdge).setStatus { s.status with code2 := none }) := (h.setTb _).setStatus _
  unfold State.takeEdge
  simp only []
  split
  · exact hnoted.stepEdge _ _
  · exact ((hnoted.setTb _).reportChange _ _).consumeLabel _ _ _
  · exact (((hnoted.setTb _).count _).reportChange _ _).consumeLabel _ _ _

theorem Within.missMark (h : Within s) : Within s.missMark := h.of_agree (by simp [h.link.roomy])

/-! ### Sensor ports and entries -/

/-- An entry joins a FIFO that has a place for it (R26). -/
theorem SensorPort.enter_fifo_length_le {p : SensorPort} (h : p.fifo.length < 32) (e : FifoEntry) :
    (p.enter e).fifo.length ≤ 32 := by simpa [SensorPort.enter] using h

theorem Within.haltPort (h : Within s) (p : Port) (hroom : (s.port p).fifo.length < 32) (e : FifoEntry) :
    Within (s.haltPort p e) := by
  have hfault : Within ((s.count (.checkErrors p)).raiseFrameCheck p e) := (h.count _).raiseFault _
  have hport : ((s.count (.checkErrors p)).raiseFrameCheck p e).port p = s.port p := by cases p <;> simp
  refine Within.offerNotice (Within.setCondition (hfault.setPort p ?_) _) _
  exact SensorPort.enter_fifo_length_le (by rwa [hport]) e

theorem Within.frameArrives (h : Within s) (p : Port) (body : List Byte) : Within (s.frameArrives p body) := by
  unfold State.frameArrives
  simp only []
  split_ifs with hmode hfull hgood
  · exact h
  · exact (h.count _).setCondition _
  · exact h.setPort p (SensorPort.enter_fifo_length_le (Nat.lt_of_not_le hfull) _)
  · split
    · exact (h.count _).raiseFault _
    · exact h.haltPort p (Nat.lt_of_not_le hfull) _

theorem Within.portByte (h : Within s) (p : Port) (b : Byte) : Within (s.portByte p b) := by
  unfold State.portByte
  simp only []
  split
  · split_ifs
    · exact h.setPort p (h.ports p)
    · exact h
  · split_ifs
    · exact h.setPort p (h.ports p)
    · exact Within.frameArrives (h.setPort p (by exact h.ports p)) p _

theorem Within.onPortByte (h : Within s) (p : Port) (b : Byte) (n : Nat) : Within (s.onPortByte p b n) := by
  unfold State.onPortByte
  split
  · exact h
  · exact (h.elapse n).portByte p b

theorem Within.matchEntry (h : Within s) (p : Port) (e : FifoEntry) : Within (s.matchEntry p e) := by
  unfold State.matchEntry
  split
  · exact h.count _
  · split
    · exact h.count _
    · split_ifs
      · exact h.count _
      · exact h.count _
      · exact h.setAsm (h.asm.of_agree rfl rfl rfl)

theorem Within.takeEntry (h : Within s) (p : Port) : Within (s.takeEntry p) := by
  unfold State.takeEntry
  split
  · exact h
  · have hfifo : (s.port p).fifo.tail.length ≤ (s.port p).fifo.length := by simp
    have htaken : Within (s.setPort p (s.port p).takeOldest) := h.setPort p (hfifo.trans (h.ports p))
    have hserved := htaken.setAsm (x := { (s.setPort p (s.port p).takeOldest).asm with lastServed := p })
      (htaken.asm.of_agree rfl rfl rfl)
    simp only []
    split
    · exact hserved
    · exact hserved.matchEntry p _

/-! ### Closes -/

/-- A record that the output set lets through is offered (R136). -/
theorem Within.offerData_if (h : Within s) (on : Bool) (b : Body) : Within (if on then s.offerData b else s) := by
  split
  · exact h.offerData b
  · exact h

theorem Within.formMinute (h : Within s) (c : Configuration) (m : Nat) : Within (s.formMinute c m) := by
  refine Within.offerData_if (h.setDec ?_) _ _
  exact h.dec.of_agree rfl rfl rfl rfl

theorem Within.formMinutes (h : Within s) (c : Configuration) (second : Num32) (fuel : Nat) :
    Within (s.formMinutes c second fuel) := by
  induction fuel generalizing s with
  | zero => exact h
  | succ fuel ih =>
    unfold State.formMinutes
    split
    · exact h
    · split
      · exact ih (h.formMinute c _)
      · exact h

theorem Within.scheduleMinutes (h : Within s) (c : Configuration) (second : Num32) : Within (s.scheduleMinutes c second) := by
  refine Within.formMinutes (h.setDec ?_) c second _
  exact h.dec.of_agree rfl rfl rfl rfl

/-- An old-series second enters nothing, and a current one its values and its minutes (R119, R132). -/
theorem Within.computeSecond (h : Within s) (c : Configuration) (e : PendingSecond) : Within (State.computeSecond c s e) := by
  unfold State.computeSecond
  simp only []
  by_cases hold : e.oldSeries = true
  · rw [if_pos hold, if_pos hold]
    refine Within.offerData_if (h.setDec ?_) _ _
    exact h.dec.of_agree rfl rfl rfl rfl
  · rw [if_neg hold, if_neg hold]
    refine Within.scheduleMinutes (Within.offerData_if (h.setDec ?_) _ _) c _
    exact (h.dec.enterSecond c e (s.dec.secondValues c e) (e.scalarValue c)).of_agree rfl rfl rfl rfl

theorem Within.decimate (h : Within s) (cc : CloseContext) (tick : TickId) (samples : Vector CorrectedSample 16)
    (strangers : Bool × Bool) (decisions : List Decision × List Decision) :
    Within (s.decimate cc tick samples strangers decisions) := by
  have hdecided := (((h.dec.clearTriad 0 strangers.1).clearTriad 1 strangers.2).clearRoles cc.config).enterDecisions 0
    cc.generation decisions.1 |>.enterDecisions 1 cc.generation decisions.2
  unfold State.decimate
  refine foldl_keeps Within _ (fun u e hu => hu.computeSecond cc.config e) _ _ (h.setDec ?_)
  split
  · exact hdecided.deliver _ _
  · exact hdecided

/-- Up to its decimation step a close changes none of what `Bounded` reads but the output queue (R44). -/
theorem Within.closeTick (h : Within s) (cc : CloseContext) (t : OpenTick) : Within (s.closeTick cc t) := by
  simp only [State.closeTick]
  refine Within.decimate ?_ cc t.id _ _ _
  exact h.of_agree (by simp [h.link.roomy])

/-- The closed tick leaves the close queue, and the next one there begins its close (R43). -/
theorem Within.endClose (h : Within s) : Within s.endClose :=
  h.setAsm_beginClose h.asm.issued fun hc => absurd rfl hc

/-! ### Station link and lines -/

theorem Within.upstreamBad (h : Within s) : Within s.upstreamBad := (h.count _).setCondition _

theorem Within.hunt (h : Within s) : Within (s.setLink s.link.hunt) := h.setLink (h.link.of_queues rfl rfl rfl)

theorem Within.confirmTrial (h : Within s) : Within s.confirmTrial := by
  unfold State.confirmTrial
  split
  · refine (h.setLink ?_).touchSettings
    exact h.link.of_queues rfl rfl rfl
  · exact h

/-- A request joins only while the queue holds fewer than 4 (R162). -/
theorem Within.joinRequest (h : Within s) (q : Request) : Within (s.joinRequest q) := by
  unfold State.joinRequest
  split
  · rename_i hroom
    have hlen : (s.link.requests ++ [q]).length ≤ 4 := by simpa using hroom
    exact h.setLink ⟨hlen, h.link.roomy⟩
  · exact (h.count _).setCondition _

theorem Within.judgeFrame (h : Within s) (len : Nat) (bytes : List Byte) : Within (s.judgeFrame len bytes) := by
  unfold State.judgeFrame
  split
  · exact h.upstreamBad
  · exact h.joinRequest _

theorem Within.frameArrived (h : Within s) (len : Nat) (bytes : List Byte) : Within (s.frameArrived len bytes) := by
  unfold State.frameArrived
  split
  · exact h.confirmTrial.judgeFrame _ _
  · exact h.upstreamBad

theorem Within.huntByte (h : Within s) (b : Byte) : Within (s.huntByte b) := by
  unfold State.huntByte
  split
  · have hlate : Within (s.setLink { s.link with late := none }) := h.setLink (h.link.of_queues rfl rfl rfl)
    unfold State.lateFrameArrived
    split
    · exact hlate.judgeFrame _ _
    · exact hlate.upstreamBad
  · split
    · exact h.setLink (h.link.of_queues rfl rfl rfl)
    · exact h

theorem Within.linkByte (h : Within s) (b : Byte) : Within (s.linkByte b) := by
  unfold State.linkByte
  simp only []
  split
  · exact h.huntByte b
  · split_ifs
    · exact h.hunt.upstreamBad
    · exact h.setLink (h.link.of_queues rfl rfl rfl)
  · split_ifs
    · exact h.setLink (h.link.of_queues rfl rfl rfl)
    · exact h.hunt.frameArrived _ _

theorem Within.onLinkByte (h : Within s) (b : Byte) (n : Nat) : Within (s.onLinkByte b n) := by
  unfold State.onLinkByte
  simp only []
  split
  · exact (h.elapse n).linkByte b
  · exact h.elapse n

theorem Within.abandonUpstream (h : Within s) : Within s.abandonUpstream := by
  unfold State.abandonUpstream
  split
  · exact h
  · exact h.hunt.upstreamBad
  · exact h.hunt.upstreamBad

theorem Within.takeMarker (h : Within s) (edge : Edge) : Within (s.takeMarker edge) := h.of_agree (by simp [h.link.roomy])

/-! ### Power -/

/-- A device at its power-on values holds nothing in its queues and histories. -/
theorem Within.fresh (phase : Phase) {st : Settings} {x : SettingsStore} (hst : st.store.wf = true) (hx : x.Within)
    (holdIn : Bool) (pending : List Instr) : Within (State.fresh phase st x holdIn pending) where
  ports := fun p => by cases p <;> exact Nat.zero_le _
  link := Link.powerOn_within st holdIn
  asm := Assembler.powerOn_within
  dec := Decimator.cleared_within
  store := hst
  settings := hx

theorem Within.powerOn (h : Within s) : Within s.powerOn := by
  have hfresh : Within (State.fresh .loaded s.settings.image.load s.settings.loaded s.link.holdIn s.pending) :=
    Within.fresh _ h.settings.load h.settings.loaded _ _
  unfold State.powerOn
  simp only []
  split
  · exact hfresh.setCondition _
  · exact hfresh

end Sys2Proof.Machine
end

section
/-! PROOFS. How long response data are: every request but FILTER_GET answers in one frame, with at most 246 bytes of data (R62, R71, R92,
R113, R164, R176, R177, R181, R186, R190). -/

namespace Sys2Proof.Machine

/-! ### Items (R181) -/

@[simp] theorem intBytes_length (n : Nat) (v : Int) : (intBytes n v).length = n := natBytes_length n _

@[simp] theorem posByte_length (n : Nat) : (posByte n).length = 1 := natBytes_length 1 n

@[simp] theorem firstByte_length (b : Bool) : (firstByte b).length = 1 := natBytes_length 1 _

@[simp] theorem bitByte_length (b : Bool) : (bitByte b).length = 1 := natBytes_length 1 _

@[simp] theorem optNatBytes_length (n : Nat) (v : Option Nat) : (optNatBytes n v).length = n + 1 := by
  cases v <;> simp [optNatBytes, natBytes_length, Nat.add_comm]

@[simp] theorem Vec3.bytes_length (n : Nat) (v : Vec3) : (v.bytes n).length = 3 * n := by
  simp only [Vec3.bytes, List.length_append, intBytes_length]
  omega

@[simp] theorem optVectorBytes_length (v : Option Vec3) : (optVectorBytes v).length = 13 := by
  cases v <;> simp [optVectorBytes, natBytes_length]

/-- Items of one length, one after the other. -/
theorem flatMap_length_of {α : Type} {f : α → List Byte} {n : Nat} (h : ∀ x, (f x).length = n) (l : List α) :
    (l.flatMap f).length = n * l.length := by
  simp [List.length_flatMap, h, Nat.mul_comm]

/-- A list of items of one length with its count byte. -/
theorem countedBytes_length {α : Type} {f : α → List Byte} {n : Nat} (h : ∀ x, (f x).length = n) (l : List α) :
    (countedBytes f l).length = 1 + n * l.length := by
  rw [countedBytes, List.length_append, flatMap_length_of h, natBytes_length]

/-! ### Descriptors and the identity (R62, R147, R177) -/

@[simp] theorem segmentBytes_length (g : Option Segment) : (segmentBytes g).length = 10 := by
  cases g <;> simp [segmentBytes, natBytes_length]

@[simp] theorem ChannelDescriptor.bytes_length (d : ChannelDescriptor) : d.bytes.length = 26 := by
  simp [ChannelDescriptor.bytes, natBytes_length]

@[simp] theorem TriadDescriptor.bytes_length (d : TriadDescriptor) : d.bytes.length = 47 := by
  simp [TriadDescriptor.bytes, natBytes_length]

@[simp] theorem SettingsStore.identData_length (x : SettingsStore) : x.identData.length = 13 := by
  simp [SettingsStore.identData, natBytes_length]

@[simp] theorem CheckFailure.bytes_length (f : CheckFailure) : f.bytes.length = 5 := by
  obtain ⟨object, reason, related⟩ := f
  cases object <;> simp [CheckFailure.bytes, CheckObject.bytes, natBytes_length]

/-! ### Sections of STATUS (R92, R113, R176) -/

theorem allChannels_filter_length_le (p : Fin 16 → Bool) : (allChannels.filter p).length ≤ 16 := List.length_filter_le p allChannels

theorem Timebase.statusData_length (t : Timebase) : t.statusData.length = 33 := by simp [Timebase.statusData, natBytes_length]

@[simp] theorem heldErrorBytes_length (h : Option HeldError) : (heldErrorBytes h).length = 9 := by
  cases h <;> simp [heldErrorBytes, natBytes_length]

theorem SensorPort.statusData_length (p : SensorPort) : p.statusData.length = 16 := by simp [SensorPort.statusData, natBytes_length]

theorem State.heldData_length (s : State) (n : Fin 16) : (s.heldData n).length = 8 := by
  unfold State.heldData
  split <;> simp [natBytes_length]

theorem State.lastGoodData_length (s : State) (n : Fin 16) : (s.lastGoodData n).length = 7 := by
  unfold State.lastGoodData
  split <;> simp [natBytes_length]

/-- The longest section: with all sixteen channels in both lists it has 242 bytes. -/
theorem State.correctorData_length_le (s : State) : s.correctorData.length ≤ 242 := by
  have hheld : s.staging.active.temperatureKind.length ≤ 16 := allChannels_filter_length_le _
  have hgood : s.staging.active.segmentHolders.length ≤ 16 := allChannels_filter_length_le _
  rw [State.correctorData, List.length_append, countedBytes_length s.heldData_length, countedBytes_length s.lastGoodData_length]
  omega

@[simp] theorem suspectBytes_length (p : Option Suspect) : (suspectBytes p).length = 17 := by
  cases p <;> simp [suspectBytes, natBytes_length]

theorem Screen.statusData_length (sc : Screen) : sc.statusData.length = 33 := by simp [Screen.statusData, natBytes_length]

theorem State.deviceData_length (s : State) : s.deviceData.length = 28 := by
  unfold State.deviceData
  simp only [List.length_append, natBytes_length, posByte_length, firstByte_length, bitByte_length]

theorem State.sectionData_length_le (s : State) (x : Section) : (s.sectionData x).length ≤ 246 := by
  cases x with
  | timebase => simp [State.sectionData, Timebase.statusData_length]
  | ports => simp [State.sectionData, SensorPort.statusData_length]
  | corrector => exact s.correctorData_length_le.trans (by decide)
  | triads => simp [State.sectionData, Screen.statusData_length]
  | device => simp [State.sectionData, State.deviceData_length]

/-! ### Store entries, counters, the capture record (R71, R186, R190) -/

theorem StoreEntry.bytes_length (e : StoreEntry) : e.bytes.length = 6 := by simp [StoreEntry.bytes]

theorem counterGroup_length_le (g : Nat) : (counterGroup g).length ≤ 8 := by
  unfold counterGroup
  split <;> decide

theorem State.groupData_length_le (s : State) (g : Nat) : (s.groupData g).length ≤ 16 := by
  have hgroup := counterGroup_length_le g
  rw [State.groupData, flatMap_length_of (n := 2) fun i => natBytes_length 2 _]
  omega

@[simp] theorem RaisedFault.bytes_length (f : RaisedFault) : f.bytes.length = 13 := by
  obtain ⟨cls, object, second, tickIndex, detail⟩ := f
  have hobject : object.bytes.length = 2 := by cases object <;> simp [FaultObject.bytes, natBytes_length]
  have hdetail : detail.bytes.length = 5 := by cases detail <;> simp [FaultDetail.bytes, natBytes_length]
  simp [RaisedFault.bytes, hobject, hdetail, natBytes_length]

theorem StatusUnit.captureData_length (u : StatusUnit) : u.captureData.length = 24 := by
  unfold StatusUnit.captureData
  split <;> simp [natBytes_length]

end Sys2Proof.Machine
end

section
/-! PROOFS. Bounds under requests: the response of a taken request finds its places, and each judgement keeps `Within` (R162 to R166). -/

namespace Sys2Proof.Machine

/-! ### The take and the response (R163 to R166) -/

/-- A judged request keeps the bounds: the state it leaves is bounded, it occupies no place of the output queue itself, and but for
FILTER_GET its response takes one frame (R164). -/
structure Reply.Fits (r : Reply) (name : RequestName) (s : State) : Prop where
  within : Within r.state
  places : r.state.link.output.length = s.link.output.length
  data : name ≠ .filterGet → r.data.length ≤ 246

/-- A judgement keeps the bounds in every bounded state. -/
def JudgesWithin (name : RequestName) (judge : Request → State → Reply) : Prop :=
  ∀ (q : Request) (s : State), Within s → (judge q s).Fits name s

section Replies

variable {s t : State} {name : RequestName}

/-- The places and the length of the data are facts of the reply at hand. -/
theorem Reply.of_fits (ht : Within t) (r : Result) {data : List Byte}
    (hplaces : t.link.output.length = s.link.output.length := by rfl)
    (hdata : data.length ≤ 246 := by simp [natBytes_length]) : (Reply.of t r data).Fits name s := ⟨ht, hplaces, fun _ => hdata⟩

theorem Reply.ok_fits (ht : Within t) {data : List Byte} (hplaces : t.link.output.length = s.link.output.length := by rfl)
    (hdata : data.length ≤ 246 := by simp [natBytes_length]) : (Reply.ok t data).Fits name s :=
  Reply.of_fits ht .ok hplaces hdata

theorem Reply.refuse_fits (hs : Within s) (r : Result) : (Reply.refuse s r).Fits name s := Reply.of_fits hs r

end Replies

/-- A response is one frame, or two for long data (R164). -/
theorem responseFrames_length_le (tag code : Byte) (r : Result) (data : List Byte) (tied : Bool) :
    (responseFrames tag code r data tied).length ≤ 2 := by
  unfold responseFrames
  split <;> simp

theorem responseFrames_length_of_short (tag code : Byte) (r : Result) {data : List Byte} (h : data.length ≤ 246) (tied : Bool) :
    (responseFrames tag code r data tied).length = 1 := by
  rw [responseFrames, if_pos (by simpa using h)]
  rfl

theorem responseFrames_no_data (tag code : Byte) (r : Result) (data : List Byte) (tied : Bool) :
    (responseFrames tag code r data tied).countP (fun f => f.body.isData) = 0 := by
  unfold responseFrames
  split <;> rfl

/-- A takeable request finds the places its response needs (R163). -/
theorem State.takeable_places {s : State} {q : Request} (h : s.takeable = some q) :
    s.link.output.length + placesNeeded (RequestName.ofCode q.code) ≤ 64 := by
  unfold State.takeable at h
  split at h
  · cases h
  · split at h
    · rename_i hall
      cases h
      simp only [Bool.and_eq_true, decide_eq_true_eq] at hall
      exact hall.2
    · cases h

theorem Within.finish {r : Reply} (h : Within r.state) (q : Request)
    (hroom : r.state.link.output.length + (responseFrames q.tag q.code r.result r.data r.tied).length ≤ 64) :
    Within (r.finish q) := by
  unfold Reply.finish
  refine foldl_keeps Within _ (fun u n hu => hu.offerNotice n) _ _ ?_
  split
  · exact h.setLink (h.link.append hroom (responseFrames_no_data _ _ _ _ _))
  · exact h

/-- A refusal takes one frame (R163). -/
theorem Within.finish_refuse {s : State} (h : Within s) (q : Request) (hroom : s.link.output.length + 1 ≤ 64) (r : Result) :
    Within ((Reply.refuse s r).finish q) :=
  Within.finish (r := Reply.refuse s r) h q hroom

/-- A response finds the places the take has waited for: two for FILTER_GET, one for every other request (R163, R164). -/
theorem Reply.Fits.finish {s : State} {name : RequestName} {r : Reply} (h : r.Fits name s) (q : Request)
    (hroom : s.link.output.length + placesNeeded (some name) ≤ 64) : Within (r.finish q) := by
  refine Within.finish h.within q ?_
  rw [h.places]
  by_cases hname : name = .filterGet
  · have hframes := responseFrames_length_le q.tag q.code r.result r.data r.tied
    rw [hname] at hroom
    exact (Nat.add_le_add_left hframes _).trans hroom
  · rw [responseFrames_length_of_short _ _ _ (h.data hname)]
    simpa [placesNeeded, hname] using hroom

theorem Within.take {s : State} (h : Within s) {name : RequestName} {judge : Request → State → Reply}
    (hj : JudgesWithin name judge) : Within (s.take name judge) := by
  rcases State.take_cases s name judge with heq | ⟨q, htake, hcode, hcase⟩
  · rwa [heq]
  · have hroom := State.takeable_places htake
    rw [hcode, RequestName.ofCode_code] at hroom
    have hone : 1 ≤ placesNeeded (some name) := by
      unfold placesNeeded
      split <;> decide
    rcases hcase with ⟨_, heq⟩ | ⟨_, heq⟩
    · rw [heq]
      exact (hj q _ h.dropRequest).finish q hroom
    · rw [heq]
      exact h.dropRequest.finish_refuse q ((Nat.add_le_add_left hone _).trans hroom) _

/-! ### Reading requests (R62, R71, R147, R148, R176, R177, R186, R190) -/

theorem judgeIdent_within : JudgesWithin .ident judgeIdent := fun _ _ h => Reply.ok_fits h

theorem judgeStatus_within : JudgesWithin .status judgeStatus := by
  intro q s h
  unfold judgeStatus
  split
  · exact Reply.ok_fits h (hdata := s.sectionData_length_le _)
  · exact Reply.refuse_fits h _

theorem judgeChannelGet_within : JudgesWithin .channelGet judgeChannelGet := by
  intro q s h
  unfold judgeChannelGet
  split
  · exact Reply.ok_fits h (hdata := by simp [Staging.channelData, indication])
  all_goals exact Reply.refuse_fits h _

theorem judgeTriadGet_within : JudgesWithin .triadGet judgeTriadGet := by
  intro q s h
  unfold judgeTriadGet
  split
  · exact Reply.ok_fits h (hdata := by simp [Staging.triadData, indication])
  all_goals exact Reply.refuse_fits h _

/-- FILTER_GET is the one request whose data may need two frames (R148, R163). -/
theorem judgeFilterGet_within : JudgesWithin .filterGet judgeFilterGet := fun q s h =>
  ⟨by rwa [judgeFilterGet_state], by rw [judgeFilterGet_state], fun hn => absurd rfl hn⟩

/-- The run of a store request lies in the store and holds sixteen entries at most (R68, R71). -/
theorem runOk_iff (start count : Nat) :
    runOk start count = true ↔ start ≤ 2047 ∧ 1 ≤ count ∧ count ≤ 16 ∧ start + count ≤ 2048 := by
  simp [runOk, and_assoc]

theorem judgeStoreRead_within : JudgesWithin .storeRead judgeStoreRead := by
  intro q s h
  unfold judgeStoreRead
  simp only []
  split
  · rename_i hok
    obtain ⟨_, _, hcount, _⟩ := (runOk_iff _ _).mp hok
    refine Reply.ok_fits h (hdata := ?_)
    rw [flatMap_length_of fun a => (s.store.read a).bytes_length, runAddresses, List.length_map, List.length_range]
    omega
  · exact Reply.refuse_fits h _

theorem judgeCountersRead_within : JudgesWithin .countersRead judgeCountersRead := by
  intro q s h
  unfold judgeCountersRead
  simp only []
  split
  · exact Reply.ok_fits h (hdata := (s.groupData_length_le _).trans (by decide))
  · exact Reply.refuse_fits h _

theorem judgeFaultRead_within : JudgesWithin .faultRead judgeFaultRead := fun _ s h =>
  Reply.ok_fits h (hdata := s.status.captureData_length.trans_le (by decide))

/-! ### The link and the timebase (R16, R18, R171, R175) -/

theorem judgeOutputSet_within : JudgesWithin .outputSet judgeOutputSet := by
  intro q s h
  unfold judgeOutputSet
  simp only []
  split
  · refine Reply.ok_fits ?_
    refine (h.setLink ?_).touchSettings
    exact h.link.of_queues rfl rfl rfl
  · exact Reply.refuse_fits h _

/-- LINK_RATE unties the frames in the queue and keeps their number (R171). -/
theorem judgeLinkRate_within : JudgesWithin .linkRate judgeLinkRate := by
  intro q s h
  have hplain : ∀ (m : Count16) (tied : Bool), (rateReply s m tied).Fits .linkRate s := fun m tied =>
    ⟨h, rfl, fun _ => (natBytes_length 2 _).trans_le (by decide)⟩
  have huntied : ∀ (l : Link) (m : Count16) (tied : Bool), l.requests = s.link.untie.requests →
      l.output = s.link.untie.output → l.sending = s.link.untie.sending →
      (rateReply (s.setLink l) m tied).Fits .linkRate s := fun l m tied hreq hout hsend =>
    ⟨h.setLink (h.link.untie.of_queues hreq hout hsend), by simp [hout, Link.untie],
      fun _ => (natBytes_length 2 _).trans_le (by decide)⟩
  unfold judgeLinkRate
  simp only []
  split
  · split
    · exact hplain _ _
    · exact huntied _ _ _ rfl rfl rfl
  · split
    · exact huntied _ _ _ rfl rfl rfl
    · exact huntied _ _ _ rfl rfl rfl
  · exact hplain _ _

theorem judgeTimeLabel_within : JudgesWithin .timeLabel judgeTimeLabel := fun _ _ h =>
  Reply.ok_fits (h.setTb _)

theorem judgeTimebaseSet_within : JudgesWithin .timebaseSet judgeTimebaseSet := by
  intro q s h
  unfold judgeTimebaseSet
  simp only []
  split
  · exact Reply.ok_fits (h.setTb _).touchSettings
  · exact Reply.refuse_fits h _

/-! ### Ports (R33, R35, R36) -/

theorem judgePortReset_within : JudgesWithin .portReset judgePortReset := by
  intro q s h
  unfold judgePortReset
  split
  · rename_i p _
    have hreset := (h.setPort p (x := (s.port p).reset) (Nat.zero_le _)).touchSettings
    exact ⟨hreset, by simp, fun _ => Nat.zero_le _⟩
  · exact Reply.refuse_fits h _

theorem judgePortEnable_within : JudgesWithin .portEnable judgePortEnable := by
  intro q s h
  unfold judgePortEnable
  split
  · split
    · exact Reply.refuse_fits h _
    · rename_i p on _ _ _
      exact Reply.ok_fits (h.setPort p (x := (s.port p).enable on) (h.ports p)).touchSettings (by simp)
  all_goals exact Reply.refuse_fits h _

theorem judgePortSet_within : JudgesWithin .portSet judgePortSet := by
  intro q s h
  unfold judgePortSet
  split
  · split
    · rename_i p policy _ _ _
      exact Reply.ok_fits (h.setPort p (x := (s.port p).set (natAt q.params 1 1) policy) (h.ports p)).touchSettings (by simp)
    · exact Reply.refuse_fits h _
  all_goals exact Reply.refuse_fits h _

/-! ### Staging (R142 to R146, R149, R209) -/

theorem Within.writePending {s : State} (h : Within s) (name : RequestName) (c : Configuration) {data : List Byte}
    (hdata : data.length ≤ 246) : (s.writePending c data).Fits name s := by
  unfold State.writePending
  split
  · exact Reply.refuse_fits h _
  · exact Reply.ok_fits (h.setStaging _) (hdata := hdata)

theorem judgeChannelSet_within : JudgesWithin .channelSet judgeChannelSet := by
  intro q s h
  unfold judgeChannelSet
  split
  · exact h.writePending _ _ ((natBytes_length 1 _).trans_le (by decide))
  all_goals exact Reply.refuse_fits h _

theorem judgeTriadSet_within : JudgesWithin .triadSet judgeTriadSet := by
  intro q s h
  unfold judgeTriadSet
  split
  · exact h.writePending _ _ ((natBytes_length 1 _).trans_le (by decide))
  all_goals exact Reply.refuse_fits h _

theorem judgeFilterShape_within : JudgesWithin .filterShape judgeFilterShape := by
  intro q s h
  unfold judgeFilterShape
  simp only []
  split
  · exact Reply.refuse_fits h _
  · split
    · exact h.writePending _ _ (Nat.zero_le _)
    · exact Reply.refuse_fits h _

theorem judgeFilterTaps_within : JudgesWithin .filterTaps judgeFilterTaps := by
  intro q s h
  unfold judgeFilterTaps
  simp only []
  split
  · exact Reply.refuse_fits h _
  · split
    · exact h.writePending _ _ (by simp [natBytes_length])
    · exact Reply.refuse_fits h _

theorem judgeDiscard_within : JudgesWithin .discard judgeDiscard := fun _ _ h => h.writePending _ _ (Nat.zero_le _)

theorem judgeCommit_within : JudgesWithin .commit judgeCommit := by
  intro q s h
  unfold judgeCommit
  split_ifs
  · exact Reply.refuse_fits h _
  · exact Reply.refuse_fits h _
  · exact Reply.refuse_fits h _
  · exact Reply.ok_fits h (hdata := by simp [noChangeByte])
  · split
    · exact Reply.of_fits h _
    · exact Reply.ok_fits (h.setStaging _) (hdata := by simp [scheduledByte])

theorem judgeRestart_within : JudgesWithin .restart judgeRestart := by
  intro q s h
  unfold judgeRestart
  split_ifs
  · exact Reply.refuse_fits h _
  · exact Reply.refuse_fits h _
  · exact Reply.ok_fits (h.setStaging _)

/-! ### The coefficient store (R63, R67 to R72) -/

theorem storeEntriesAt_length (l : List Byte) (i n : Nat) : (storeEntriesAt l i n).length = n := by
  induction n generalizing i with
  | zero => rfl
  | succ n ih => rw [storeEntriesAt, List.length_cons, ih]

theorem accessData_length (p : Nat × Fin 16) : (accessData p).length = 3 := by simp [accessData, natBytes_length]

/-- A store write leaves the canonical form when the store written has it (log 7). -/
theorem Within.writeStore {s : State} (h : Within s) (name : RequestName) (l : List Nat) {store : Store} (hstore : store.wf = true)
    {data : List Byte} (hdata : data.length ≤ 246) : (s.writeStore l store data).Fits name s := by
  unfold State.writeStore
  split
  · exact Reply.refuse_fits h _
  · split
    · exact Reply.of_fits h _ (hdata := (accessData_length _).trans_le (by decide))
    · exact Reply.ok_fits (h.setStore hstore).touchSettings (hdata := hdata)

theorem judgeStoreWrite_within : JudgesWithin .storeWrite judgeStoreWrite := by
  intro q s h
  unfold judgeStoreWrite
  simp only []
  split
  · rename_i hok
    obtain ⟨_, _, _, hend⟩ := (runOk_iff _ _).mp hok
    exact h.writeStore _ _ (Store.wf_writeRun h.store _ (by rwa [storeEntriesAt_length])) (by simp [natBytes_length])
  · exact Reply.refuse_fits h _

theorem judgeStorePoison_within : JudgesWithin .storePoison judgeStorePoison := by
  intro q s h
  unfold judgeStorePoison
  simp only []
  split
  · rename_i haddress
    exact h.writeStore _ _ (Store.wf_poison h.store (Nat.lt_succ_of_le haddress)) ((natBytes_length 2 _).trans_le (by decide))
  · exact Reply.refuse_fits h _

/-! ### The status unit and the lines (R183, R184, R186, R189, R191, R194, R195) -/

theorem judgeConditionsClear_within : JudgesWithin .conditionsClear judgeConditionsClear := by
  intro q s h
  unfold judgeConditionsClear
  split
  · exact Reply.ok_fits (h.setStatus _)
  · exact Reply.refuse_fits h _

theorem judgeCountersClear_within : JudgesWithin .countersClear judgeCountersClear := by
  intro q s h
  unfold judgeCountersClear
  simp only []
  split
  · exact Reply.ok_fits (h.setStatus _) (hdata := (s.groupData_length_le _).trans (by decide))
  · exact Reply.refuse_fits h _

theorem judgeFaultRelease_within : JudgesWithin .faultRelease judgeFaultRelease := fun _ s h =>
  Reply.ok_fits (h.setStatus _) (hdata := s.status.captureData_length.trans_le (by decide))

theorem judgeAlertMaskSet_within : JudgesWithin .alertMaskSet judgeAlertMaskSet := by
  intro q s h
  unfold judgeAlertMaskSet
  split
  · exact Reply.ok_fits (h.setStatus _).touchSettings
  · exact Reply.refuse_fits h _

theorem judgeCaptureMaskSet_within : JudgesWithin .captureMaskSet judgeCaptureMaskSet := by
  intro q s h
  unfold judgeCaptureMaskSet
  simp only []
  split
  · exact Reply.ok_fits (h.setStatus _).touchSettings
  · exact Reply.refuse_fits h _

theorem judgeLineSet_within : JudgesWithin .lineSet judgeLineSet := by
  intro q s h
  unfold judgeLineSet
  split
  · split
    · exact Reply.of_fits h _
    · exact Reply.ok_fits (h.setAux _).touchSettings
  all_goals exact Reply.refuse_fits h _

theorem judgeMarkerSet_within : JudgesWithin .markerSet judgeMarkerSet := by
  intro q s h
  unfold judgeMarkerSet
  split
  · exact Reply.ok_fits (h.setAux _).touchSettings
  · exact Reply.refuse_fits h _

/-! ### The settings store (R202 to R204) -/

/-- A save's snapshot takes the store as it stands (R199, R204). -/
theorem Within.startSave {s : State} (h : Within s) (tag : Byte) : Within (s.startSave tag) := by
  refine h.setSettings ⟨(fun c hc => by cases hc), fun r hr => ?_⟩
  cases hr
  exact h.store

theorem judgeSave_within : JudgesWithin .save judgeSave := by
  intro q s h
  unfold judgeSave
  split_ifs
  · exact Reply.refuse_fits h _
  · exact Reply.refuse_fits h _
  · exact ⟨h.startSave q.tag, rfl, fun _ => Nat.zero_le _⟩

theorem judgeLockSession_within : JudgesWithin .lockSession judgeLockSession := by
  intro q s h
  refine Reply.ok_fits (h.setSettings ?_)
  exact ⟨h.settings.image, h.settings.save⟩

theorem judgeFixPermanent_within : JudgesWithin .fixPermanent judgeFixPermanent := by
  intro q s h
  unfold judgeFixPermanent
  split_ifs
  · exact Reply.refuse_fits h _
  · exact Reply.refuse_fits h _
  · refine Reply.ok_fits (h.setSettings ?_)
    exact ⟨h.settings.image, h.settings.save⟩

end Sys2Proof.Machine
end

section
/-! PROOFS. O58: the meaning of each command keeps `Within`, and a step runs one command (R26, R42, R43, R63, R117, R124, R125, R127,
R162, R166, R199). -/

namespace Sys2Proof.Machine

section Commands

variable {s : State}

theorem execStartUpComplete_within (h : Within s) (n : Nat) : Leaves Within (execStartUpComplete n s) := by
  unfold execStartUpComplete
  split
  · exact (leaves_next _ _).mpr (h.elapse n).firstMark
  · exact (leaves_next _ _).mpr h

theorem execMark_within (h : Within s) : Leaves Within (execMark s) := by
  unfold execMark
  split
  · exact (leaves_next _ _).mpr h.dueMark
  · exact (leaves_next _ _).mpr h

theorem execTick_within (h : Within s) : Leaves Within (execTick s) := by
  unfold execTick
  split
  · exact (leaves_next _ _).mpr (h.elapseToPeriod _).issueTick
  · exact (leaves_next _ _).mpr h

theorem execStrobeEnd_within (h : Within s) : Leaves Within (execStrobeEnd s) := by
  unfold execStrobeEnd
  split
  · exact (leaves_next _ _).mpr h
  · exact (leaves_next _ _).mpr ((h.elapseTo _).setTb _)

theorem execMissingMarkCheck_within (h : Within s) : Leaves Within (execMissingMarkCheck s) := by
  unfold execMissingMarkCheck
  simp only []
  split
  · split
    · exact (leaves_next _ _).mpr ((h.elapseToPeriod _).setTb _)
    · exact (leaves_next _ _).mpr ((h.elapseToPeriod _).setTb _).missMark
  · exact (leaves_next _ _).mpr h

theorem execPpsEdge_within (h : Within s) (n : Nat) : Leaves Within (execPpsEdge n s) := by
  have hmoment := h.edgeMoment n
  unfold execPpsEdge
  simp only []
  split
  · split
    · exact (leaves_next _ _).mpr hmoment.takeEdge
    · exact (leaves_next _ _).mpr (hmoment.count _)
  · exact (leaves_next _ _).mpr hmoment.noteEarlyEdge

theorem execFrameAbandon_within (h : Within s) (p : Port) : Leaves Within (execFrameAbandon p s) := by
  unfold execFrameAbandon
  split
  · exact (leaves_next _ _).mpr h
  · split
    · exact (leaves_next _ _).mpr h
    · have hpassed := h.elapseTo ((s.port p).lastByteAt + Config.portGap + 1)
      have hhunt := hpassed.setPort p (x := { (s.elapseTo ((s.port p).lastByteAt + Config.portGap + 1)).port p with
        framing := .hunt }) (hpassed.ports p)
      simp only []
      split
      · exact (leaves_next _ _).mpr (hhunt.count _)
      · exact (leaves_next _ _).mpr hhunt

theorem execEntryTake_within (h : Within s) : Leaves Within (execEntryTake s) := by
  unfold execEntryTake
  split
  · exact (leaves_next _ _).mpr (h.takeEntry _)
  · exact (leaves_next _ _).mpr h
  · exact (leaves_next _ _).mpr h

theorem execTickClose_within (h : Within s) (n : Nat) : Leaves Within (execTickClose n s) := by
  unfold execTickClose
  split
  · exact (leaves_next _ _).mpr ((h.elapse n).closeTick _ _).endClose
  · exact (leaves_next _ _).mpr h
  · exact (leaves_next _ _).mpr h

theorem execUpstreamFramingError_within (h : Within s) (n : Nat) : Leaves Within (execUpstreamFramingError n s) := by
  unfold execUpstreamFramingError
  simp only []
  split
  · exact (leaves_next _ _).mpr (h.elapse n).abandonUpstream
  · exact (leaves_next _ _).mpr (h.elapse n)

theorem execUpstreamGapAbandon_within (h : Within s) : Leaves Within (execUpstreamGapAbandon s) := by
  unfold execUpstreamGapAbandon
  split
  · exact (leaves_next _ _).mpr (h.elapseTo _).abandonUpstream
  · exact (leaves_next _ _).mpr h

/-- A code outside the catalogue is answered UNKNOWN in the one place the take has waited for (R163). -/
theorem execRequestUnknownCode_within (h : Within s) : Leaves Within (execRequestUnknownCode s) := by
  unfold execRequestUnknownCode
  split
  · exact (leaves_next _ _).mpr h
  · split
    · rename_i q htake hcode
      have hroom := State.takeable_places htake
      rw [hcode] at hroom
      exact (leaves_next _ _).mpr (h.dropRequest.finish_refuse q hroom .unknown)
    · exact (leaves_next _ _).mpr h

theorem execSaveEnd_within (h : Within s) (verified : Bool) (n : Nat) : Leaves Within (execSaveEnd verified n s) := by
  unfold execSaveEnd
  split
  · exact (leaves_next _ _).mpr h
  · rename_i r hr
    have hpassed := h.elapse n
    have hended : Within ((s.elapse n).setSettings ((s.elapse n).settings.endSave r verified)) :=
      hpassed.setSettings (hpassed.settings.endSave (by simpa using hr) verified)
    simp only []
    refine (leaves_next _ _).mpr ?_
    split
    · exact hended.setLink (hended.link.offerSave _)
    · exact (hended.setCondition .saveFailed).setLink (hended.link.offerSave _)

/-- A frame that starts is the oldest of a queue that is not empty (R170). -/
theorem execFrameStart_within (h : Within s) : Leaves Within (execFrameStart s) := by
  unfold execFrameStart
  split
  · rename_i hstart
    obtain ⟨hlen, hdata, _⟩ := h.link.roomy
    have hne : s.link.output ≠ [] := by
      intro hnil
      simp [hnil] at hstart
    exact (leaves_next _ _).mpr (h.setLink ⟨h.link.requests, hlen, hdata, fun _ => hne⟩)
  · exact (leaves_next _ _).mpr h

theorem execFrameSent_within (h : Within s) (n : Nat) : Leaves Within (execFrameSent n s) := by
  unfold execFrameSent
  split
  · split
    · exact (leaves_next _ _).mpr h
    · rename_i f rest hout
      exact (leaves_next _ _).mpr ((h.elapse n).setLink ((h.elapse n).link.sent (by simpa using hout) _))
  · exact (leaves_next _ _).mpr h

theorem execHoldInChange_within (h : Within s) (asserted : Bool) (n : Nat) : Leaves Within (execHoldInChange asserted n s) := by
  refine (leaves_next _ _).mpr ((h.elapse n).setLink ?_)
  exact (h.elapse n).link.of_queues rfl rfl rfl

theorem execLinkTrialExpiry_within (h : Within s) : Leaves Within (execLinkTrialExpiry s) := by
  unfold execLinkTrialExpiry
  split
  · refine (leaves_next _ _).mpr (Within.setLink ?_ ?_)
    · exact ((h.elapseTo _).setCondition _).offerNotice _
    · have hnotice := (((h.elapseTo (s.link.trialStart + Config.trialPeriods)).setCondition .linkReverted).offerNotice
        (.link (s.elapseTo (s.link.trialStart + Config.trialPeriods)).link.rate
          (s.elapseTo (s.link.trialStart + Config.trialPeriods)).link.confirmedRate)).link
      split
      · exact hnotice.of_queues rfl rfl rfl
      · exact hnotice.of_queues rfl rfl rfl
  · exact (leaves_next _ _).mpr h

theorem execMarkerEdge_within (h : Within s) (edge : Edge) (n : Nat) : Leaves Within (execMarkerEdge edge n s) := by
  have hmoment := h.edgeMoment n
  unfold execMarkerEdge
  simp only []
  split
  · exact (leaves_next _ _).mpr (hmoment.takeMarker edge)
  · split
    · exact (leaves_next _ _).mpr hmoment
    · exact (leaves_next _ _).mpr hmoment.noteEarlyEdge

theorem execSecondMarkEnd_within (h : Within s) : Leaves Within (execSecondMarkEnd s) := by
  unfold execSecondMarkEnd
  split
  · exact (leaves_next _ _).mpr h
  · exact (leaves_next _ _).mpr ((h.elapseTo _).setAux _)

theorem execCode2IntervalEnd_within (h : Within s) : Leaves Within (execCode2IntervalEnd s) := by
  unfold execCode2IntervalEnd
  split
  · exact (leaves_next _ _).mpr h
  · exact (leaves_next _ _).mpr ((h.elapseTo _).setStatus _)

/-- A request row keeps the bounds when its judgement does. -/
theorem leaves_take_within (h : Within s) {name : RequestName} {judge : Request → State → Reply} (hj : JudgesWithin name judge) :
    Leaves Within (.next (s.take name judge)) := (leaves_next _ _).mpr (h.take hj)

/-- Every command keeps the bounds. -/
theorem exec_within (h : Within s) (c : Instr) : Leaves Within (exec c s) := by
  cases c with
  | powerOn => exact (leaves_next _ _).mpr h.powerOn
  | startUpComplete n => exact execStartUpComplete_within h n
  | mark => exact execMark_within h
  | tick => exact execTick_within h
  | strobeEnd => exact execStrobeEnd_within h
  | missingMarkCheck => exact execMissingMarkCheck_within h
  | ppsEdge n => exact execPpsEdge_within h n
  | sampleFrameArrival p b n => exact (leaves_next _ _).mpr (h.onPortByte p b n)
  | frameAbandon p => exact execFrameAbandon_within h p
  | entryTake => exact execEntryTake_within h
  | tickClose n => exact execTickClose_within h n
  | upstreamFrameArrival b n => exact (leaves_next _ _).mpr (h.onLinkByte b n)
  | upstreamLenReject b n => exact (leaves_next _ _).mpr (h.onLinkByte b n)
  | upstreamFramingError n => exact execUpstreamFramingError_within h n
  | upstreamGapAbandon => exact execUpstreamGapAbandon_within h
  | requestUnknownCode => exact execRequestUnknownCode_within h
  | ident => exact leaves_take_within h judgeIdent_within
  | status => exact leaves_take_within h judgeStatus_within
  | outputSet => exact leaves_take_within h judgeOutputSet_within
  | linkRate => exact leaves_take_within h judgeLinkRate_within
  | timeLabel => exact leaves_take_within h judgeTimeLabel_within
  | timebaseSet => exact leaves_take_within h judgeTimebaseSet_within
  | portReset => exact leaves_take_within h judgePortReset_within
  | portEnable => exact leaves_take_within h judgePortEnable_within
  | portSet => exact leaves_take_within h judgePortSet_within
  | channelSet => exact leaves_take_within h judgeChannelSet_within
  | channelGet => exact leaves_take_within h judgeChannelGet_within
  | triadSet => exact leaves_take_within h judgeTriadSet_within
  | triadGet => exact leaves_take_within h judgeTriadGet_within
  | filterShape => exact leaves_take_within h judgeFilterShape_within
  | filterTaps => exact leaves_take_within h judgeFilterTaps_within
  | filterGet => exact leaves_take_within h judgeFilterGet_within
  | discard => exact leaves_take_within h judgeDiscard_within
  | commit => exact leaves_take_within h judgeCommit_within
  | storeWrite => exact leaves_take_within h judgeStoreWrite_within
  | storeRead => exact leaves_take_within h judgeStoreRead_within
  | storePoison => exact leaves_take_within h judgeStorePoison_within
  | conditionsClear => exact leaves_take_within h judgeConditionsClear_within
  | countersRead => exact leaves_take_within h judgeCountersRead_within
  | countersClear => exact leaves_take_within h judgeCountersClear_within
  | faultRead => exact leaves_take_within h judgeFaultRead_within
  | faultRelease => exact leaves_take_within h judgeFaultRelease_within
  | alertMaskSet => exact leaves_take_within h judgeAlertMaskSet_within
  | captureMaskSet => exact leaves_take_within h judgeCaptureMaskSet_within
  | lineSet => exact leaves_take_within h judgeLineSet_within
  | markerSet => exact leaves_take_within h judgeMarkerSet_within
  | save => exact leaves_take_within h judgeSave_within
  | restart => exact leaves_take_within h judgeRestart_within
  | lockSession => exact leaves_take_within h judgeLockSession_within
  | fixPermanent => exact leaves_take_within h judgeFixPermanent_within
  | saveEnd verified n => exact execSaveEnd_within h verified n
  | frameStart => exact execFrameStart_within h
  | frameSent n => exact execFrameSent_within h n
  | holdInChange asserted n => exact execHoldInChange_within h asserted n
  | linkTrialExpiry => exact execLinkTrialExpiry_within h
  | markerEdge edge n => exact execMarkerEdge_within h edge n
  | secondMarkEnd => exact execSecondMarkEnd_within h
  | code2IntervalEnd => exact execCode2IntervalEnd_within h
  | sampleFrameByte p b n => exact (leaves_next _ _).mpr (h.onPortByte p b n)
  | upstreamFrameByte b n => exact (leaves_next _ _).mpr (h.onLinkByte b n)
  | powerLoss => exact (leaves_next _ _).mpr (Within.fresh _ rfl h.settings.unpowered _ _)

/-- Every step keeps the bounds: it runs one command on the state with the queue's rest, or idles (log 1). -/
theorem step_within (h : Within s) : Leaves Within (step s) := by
  unfold step
  split
  · exact (leaves_next _ _).mpr h
  · exact exec_within (h.setPending _) _

end Commands

/-- Settles O58: `Bounded` is the invariant `Within` by blocks, which every step keeps. -/
theorem stepKeepsBounds : Obligations.StepKeepsBounds := by
  intro s t hs hstep
  exact (bounded_iff_within t).mpr (step_within ((bounded_iff_within s).mp hs) t hstep)

end Sys2Proof.Machine
end

section
/-! PROOFS. Bytes and frames at a sensor port: O20, O21 and O22 (R23, R24, R26 to R29, R32, R37, R39). -/

namespace Sys2Proof.Machine

open Sys2Proof.Claims

variable {s : State} {p : Port}

/-! ### The reception of a byte (R23) -/

/-- In HUNT any byte but 0xC3 is discarded. -/
theorem State.portByte_of_hunt {b : Byte} (hf : (s.port p).framing = .hunt) (hb : b ≠ 0xC3) : s.portByte p b = s := by
  unfold State.portByte
  simp only [hf]
  exact if_neg hb

/-- In HUNT the sync byte begins a frame. -/
theorem State.portByte_of_sync (hf : (s.port p).framing = .hunt) :
    s.portByte p 0xC3 = s.setPort p { s.port p with framing := .collect [], lastByteAt := s.tb.clock } := by
  unfold State.portByte
  simp only [hf]
  rfl

/-- In COLLECT up to five bytes join the body. -/
theorem State.portByte_of_collect {body : List Byte} (hf : (s.port p).framing = .collect body) (hlen : body.length < 5)
    (b : Byte) :
    s.portByte p b = s.setPort p { s.port p with framing := .collect (body ++ [b]), lastByteAt := s.tb.clock } := by
  unfold State.portByte
  simp only [hf]
  exact if_pos (Nat.succ_lt_succ hlen)

/-- The sixth body byte completes the frame, which arrives at a port back in HUNT. -/
theorem State.portByte_of_complete {body : List Byte} (hf : (s.port p).framing = .collect body) (hlen : body.length = 5)
    (b : Byte) :
    s.portByte p b =
      (s.setPort p { s.port p with framing := .hunt, lastByteAt := s.tb.clock }).frameArrives p (body ++ [b]) := by
  unfold State.portByte
  simp only [hf]
  exact if_neg (by simp [hlen])

@[simp] theorem passed_port (n : Nat) : (passed s n).port p = s.port p := by cases p <;> rfl

@[simp] theorem passed_clock (n : Nat) : (passed s n).tb.clock = s.tb.clock + n := rfl

/-- Both byte rows deliver the byte once its periods have passed (log 5). -/
theorem exec_portByte {c : Instr} {b : Byte} {n : Nat} (hc : c = .sampleFrameByte p b n ∨ c = .sampleFrameArrival p b n)
    (hs : s.phase ≠ .off) : exec c s = .next ((passed s n).portByte p b) := by
  have hrow : s.onPortByte p b n = (passed s n).portByte p b := by
    rw [State.onPortByte, if_neg hs, State.elapse_eq_passed hs]
  rcases hc with rfl | rfl <;> exact congrArg Host.Outcome.next hrow

/-- The row that abandons a frame: its gap has passed since its last byte (R23; log 17). -/
theorem execFrameAbandon_of_collect {body : List Byte} (hs : s.phase ≠ .off) (hf : (s.port p).framing = .collect body) :
    let u := (passed s ((s.port p).lastByteAt + 20001 - s.tb.clock)).setPort p { s.port p with framing := .hunt }
    execFrameAbandon p s = if (u.port p).mode = .active then .next (u.count (.fragments p)) else .next u := by
  have hpassed : s.elapseTo ((s.port p).lastByteAt + Config.portGap + 1) =
      passed s ((s.port p).lastByteAt + 20001 - s.tb.clock) := State.elapse_eq_passed hs _
  unfold execFrameAbandon
  rw [if_neg hs]
  simp only [hf, hpassed, passed_port]

/-- Settles O20: the byte rows share one reception, which goes by the framing state; the abandoned frame by the port's state. -/
theorem portBytesCollected : Obligations.PortBytesCollected := by
  refine ⟨fun c p b n s hc hs => ⟨fun hf hb => ?_, fun hf hb => ?_, fun body hf hlen => ?_⟩, fun p body s hs hf => ?_⟩
  · rw [exec_portByte hc hs, State.portByte_of_hunt (by simpa using hf) hb]
  · subst hb
    rw [exec_portByte hc hs, State.portByte_of_sync (by simpa using hf), passed_port]
    rfl
  · rw [exec_portByte hc hs, State.portByte_of_collect (by simpa using hf) hlen, passed_port]
    rfl
  · have habandon := execFrameAbandon_of_collect hs hf
    simp only [State.setPort_port] at habandon
    exact ⟨fun hm => habandon.trans (if_pos hm), fun hm => habandon.trans (if_neg hm)⟩

/-! ### A frame at a port that is not ACTIVE (R29) -/

theorem State.frameArrives_of_inactive (hm : (s.port p).mode ≠ .active) (body : List Byte) : s.frameArrives p body = s :=
  if_pos hm

/-- Both ports are DISABLED. -/
def State.PortsDisabled (s : State) : Prop := ∀ p : Port, (s.port p).mode = .disabled

/-- An outcome whose ports, as long as no mark is made, are DISABLED (R39). -/
def LeavesDisabled (o : Host.Outcome State Fault Refusal) : Prop := Leaves (fun t => t.phase ≠ .running → t.PortsDisabled) o

theorem leavesDisabled_next {t : State} (h : t.PortsDisabled) : LeavesDisabled (.next t) := (leaves_next _ _).mpr fun _ => h

/-- What leaves both ports alone leaves them DISABLED. -/
theorem leavesDisabled_of_ports {t : State} (h : s.PortsDisabled) (ha : t.portA = s.portA := by simp)
    (hb : t.portB = s.portB := by simp) : LeavesDisabled (.next t) := by
  refine leavesDisabled_next fun p => ?_
  have hp : t.port p = s.port p := by cases p <;> assumption
  exact hp ▸ h p

theorem State.PortsDisabled.setPort (h : s.PortsDisabled) (p : Port) {x : SensorPort} (hx : x.mode = .disabled) :
    (s.setPort p x).PortsDisabled := by
  intro q
  by_cases hq : q = p
  · rwa [hq, State.setPort_port]
  · rw [State.setPort_other s p q x hq]
    exact h q

/-- The handler takes nothing before the first mark (R208). -/
theorem State.take_of_not_running (h : s.phase ≠ .running) (name : RequestName) (judge : Request → State → Reply) :
    s.take name judge = s := by
  unfold State.take
  rw [State.takeable_none (.inl h)]

theorem State.PortsDisabled.portByte (h : s.PortsDisabled) (p : Port) (b : Byte) : (s.portByte p b).PortsDisabled := by
  unfold State.portByte
  simp only []
  split
  · split_ifs
    · exact h.setPort p (h p)
    · exact h
  · split_ifs
    · exact h.setPort p (h p)
    · rw [State.frameArrives_of_inactive (by simp [h p])]
      exact h.setPort p (h p)

theorem onPortByte_leavesDisabled (h : s.PortsDisabled) (p : Port) (b : Byte) (n : Nat) :
    LeavesDisabled (.next (s.onPortByte p b n)) := by
  unfold State.onPortByte
  split
  · exact leavesDisabled_next h
  · refine leavesDisabled_next (State.PortsDisabled.portByte (fun q => ?_) p b)
    cases q
    · simpa using h .a
    · simpa using h .b

theorem onLinkByte_leavesDisabled (h : s.PortsDisabled) (b : Byte) (n : Nat) : LeavesDisabled (.next (s.onLinkByte b n)) :=
  leavesDisabled_of_ports h

/-- START_UP_COMPLETE makes the first mark, and nothing else enables a port (R39). -/
theorem execStartUpComplete_leavesDisabled (h : s.PortsDisabled) (n : Nat) : LeavesDisabled (execStartUpComplete n s) := by
  unfold execStartUpComplete
  split
  · exact (leaves_next _ _).mpr fun hn => absurd (by simp [State.firstMark]) hn
  · exact leavesDisabled_next h

theorem execFrameAbandon_leavesDisabled (h : s.PortsDisabled) (p : Port) : LeavesDisabled (execFrameAbandon p s) := by
  unfold execFrameAbandon
  split
  · exact leavesDisabled_next h
  · split
    · exact leavesDisabled_next h
    · have hpassed : (s.elapseTo ((s.port p).lastByteAt + Config.portGap + 1)).PortsDisabled := fun q => by
        cases q
        · simpa using h .a
        · simpa using h .b
      have hhunt := hpassed.setPort p (x := { (s.elapseTo ((s.port p).lastByteAt + Config.portGap + 1)).port p with
        framing := .hunt }) (hpassed p)
      simp only []
      split
      · exact leavesDisabled_next hhunt
      · exact leavesDisabled_next hhunt

theorem execEntryTake_leavesDisabled (h : s.PortsDisabled) : LeavesDisabled (execEntryTake s) := by
  unfold execEntryTake
  split
  · rename_i p _ _
    unfold State.takeEntry
    split
    · exact leavesDisabled_next h
    · have htaken := h.setPort p (x := (s.port p).takeOldest) (h p)
      simp only []
      split
      · exact leavesDisabled_next htaken
      · exact leavesDisabled_of_ports htaken
  · exact leavesDisabled_next h
  · exact leavesDisabled_next h

theorem execTickClose_leavesDisabled (h : s.PortsDisabled) (n : Nat) : LeavesDisabled (execTickClose n s) := by
  unfold execTickClose
  split
  · exact leavesDisabled_of_ports h
  · exact leavesDisabled_next h
  · exact leavesDisabled_next h

theorem State.fresh_portsDisabled (phase : Phase) (st : Settings) (x : SettingsStore) (holdIn : Bool) (pending : List Instr) :
    (State.fresh phase st x holdIn pending).PortsDisabled := by
  intro p
  cases p <;> rfl

theorem State.powerOn_portsDisabled (s : State) : s.powerOn.PortsDisabled := by
  have hfresh := State.fresh_portsDisabled .loaded s.settings.image.load s.settings.loaded s.link.holdIn s.pending
  unfold State.powerOn
  simp only []
  split
  · exact hfresh
  · exact hfresh

section EarlyCommands

variable (h : s.PortsDisabled) (hr : s.phase ≠ .running)

include h hr

/-- Before the first mark a request row takes nothing (R208). -/
theorem leavesDisabled_take (name : RequestName) (judge : Request → State → Reply) :
    LeavesDisabled (.next (s.take name judge)) := by
  rw [State.take_of_not_running hr]
  exact leavesDisabled_next h

theorem execRequestUnknownCode_leavesDisabled : LeavesDisabled (execRequestUnknownCode s) := by
  unfold execRequestUnknownCode
  rw [State.takeable_none (.inl hr)]
  exact leavesDisabled_next h

/-- Before the first mark none is due (R3). -/
theorem execMark_leavesDisabled : LeavesDisabled (execMark s) := by
  unfold execMark
  rw [if_neg (by simpa [State.running] using hr)]
  exact leavesDisabled_next h

/-- Before the first mark an edge finds the state with the time passed (R6). -/
theorem execPpsEdge_leavesDisabled (n : Nat) : LeavesDisabled (execPpsEdge n s) := by
  unfold execPpsEdge
  rw [State.edgeMoment_of_not_running hr]
  simp only []
  rw [if_neg (by simpa [State.running] using hr)]
  exact leavesDisabled_of_ports h

theorem execMarkerEdge_leavesDisabled (edge : Edge) (n : Nat) : LeavesDisabled (execMarkerEdge edge n s) := by
  unfold execMarkerEdge
  rw [State.edgeMoment_of_not_running hr]
  simp only []
  split_ifs <;> exact leavesDisabled_of_ports h

/-- Before the first mark no command but START_UP_COMPLETE, which makes it, takes a port out of DISABLED (R29, R39). -/
theorem exec_leavesDisabled (c : Instr) : LeavesDisabled (exec c s) := by
  cases c with
  | powerOn => exact leavesDisabled_next s.powerOn_portsDisabled
  | startUpComplete n => exact execStartUpComplete_leavesDisabled h n
  | mark => exact execMark_leavesDisabled h hr
  | tick =>
    simp only [exec, execTick]
    split <;> exact leavesDisabled_of_ports h
  | strobeEnd =>
    simp only [exec, execStrobeEnd]
    split <;> exact leavesDisabled_of_ports h
  | missingMarkCheck =>
    simp only [exec, execMissingMarkCheck]
    split_ifs <;> exact leavesDisabled_of_ports h
  | ppsEdge n => exact execPpsEdge_leavesDisabled h hr n
  | sampleFrameArrival p b n => exact onPortByte_leavesDisabled h p b n
  | sampleFrameByte p b n => exact onPortByte_leavesDisabled h p b n
  | frameAbandon p => exact execFrameAbandon_leavesDisabled h p
  | entryTake => exact execEntryTake_leavesDisabled h
  | tickClose n => exact execTickClose_leavesDisabled h n
  | upstreamFrameArrival b n => exact onLinkByte_leavesDisabled h b n
  | upstreamLenReject b n => exact onLinkByte_leavesDisabled h b n
  | upstreamFrameByte b n => exact onLinkByte_leavesDisabled h b n
  | upstreamFramingError n =>
    simp only [exec, execUpstreamFramingError]
    split <;> exact leavesDisabled_of_ports h
  | upstreamGapAbandon =>
    simp only [exec, execUpstreamGapAbandon]
    split <;> exact leavesDisabled_of_ports h
  | requestUnknownCode => exact execRequestUnknownCode_leavesDisabled h hr
  | saveEnd verified n =>
    simp only [exec, execSaveEnd]
    split
    · exact leavesDisabled_next h
    · cases verified <;> exact leavesDisabled_of_ports h
  | frameStart =>
    simp only [exec, execFrameStart]
    split <;> exact leavesDisabled_of_ports h
  | frameSent n =>
    simp only [exec, execFrameSent]
    split
    · split <;> exact leavesDisabled_of_ports h
    · exact leavesDisabled_next h
  | holdInChange asserted n => exact leavesDisabled_of_ports h
  | linkTrialExpiry =>
    simp only [exec, execLinkTrialExpiry]
    split <;> exact leavesDisabled_of_ports h
  | markerEdge edge n => exact execMarkerEdge_leavesDisabled h hr edge n
  | secondMarkEnd =>
    simp only [exec, execSecondMarkEnd]
    split <;> exact leavesDisabled_of_ports h
  | code2IntervalEnd =>
    simp only [exec, execCode2IntervalEnd]
    split <;> exact leavesDisabled_of_ports h
  | powerLoss => exact leavesDisabled_next (State.fresh_portsDisabled _ _ _ _ _)
  | ident | status | outputSet | linkRate | timeLabel | timebaseSet | portReset | portEnable | portSet | channelSet | channelGet
  | triadSet | triadGet | filterShape | filterTaps | filterGet | discard | commit | storeWrite | storeRead | storePoison
  | conditionsClear | countersRead | countersClear | faultRead | faultRelease | alertMaskSet | captureMaskSet | lineSet
  | markerSet | save | restart | lockSession | fixPermanent => exact leavesDisabled_take h hr _ _

end EarlyCommands

/-- Settles O21: a frame that completes at a port that is not ACTIVE only brings its framing back to HUNT; before the first mark
neither port is ACTIVE. -/
theorem frameDiscardedUnlessActive : Obligations.FrameDiscardedUnlessActive := by
  refine ⟨fun c p b n s body hc hs hf hlen hm => ?_, fun s t hexec => ?_, fun c s t hexec hs ht ha hb => ?_⟩
  · rw [exec_portByte hc hs, State.portByte_of_complete (by simpa using hf) hlen,
      State.frameArrives_of_inactive (by simpa using hm), passed_port]
    rfl
  · cases hexec
    exact ⟨s.powerOn_portsDisabled .a, s.powerOn_portsDisabled .b⟩
  · have hdisabled : s.PortsDisabled := fun p => by
      cases p
      · exact ha
      · exact hb
    have hleft := exec_leavesDisabled hdisabled hs c t hexec ht
    exact ⟨hleft .a, hleft .b⟩

end Sys2Proof.Machine
end

section
/-! PROOFS. A frame at an ACTIVE port: O22 (R24, R26, R27, R28, R32, R37, R187, R188). -/

namespace Sys2Proof.Machine

open Sys2Proof.Claims

variable {s : State} {p : Port}

/-! ### The entry of a frame (R24, R26) -/

/-- The high half of a byte is its quotient by 16. -/
theorem extractLsb'_high_eq (b : Byte) : b.extractLsb' 4 4 = BitVec.ofNat 4 (b.toNat / 16) := by
  apply BitVec.eq_of_toNat_eq
  simp [BitVec.extractLsb'_toNat, Nat.shiftRight_eq_div_pow]

/-- Three bytes hold a signed 24-bit value, most significant byte first (R181). -/
theorem bytesInt_three (b0 b1 b2 : Byte) :
    bytesInt [b0, b1, b2] =
      let v : Nat := b0.toNat * 65536 + b1.toNat * 256 + b2.toNat
      if v < 8388608 then (v : Int) else (v : Int) - 16777216 := by
  have hv : bytesNat [b0, b1, b2] = b0.toNat * 65536 + b1.toNat * 256 + b2.toNat := by
    simp only [bytesNat, List.foldl_cons, List.foldl_nil]
    omega
  simp only [bytesInt, hv, List.length_cons, List.length_nil]
  split <;> split <;> omega

/-- The entry the receiver decodes is the statement's (R24, R26). -/
theorem sampleFields_eq (b0 b1 b2 b3 b4 b : Byte) (check : CheckState) :
    sampleFields [b0, b1, b2, b3, b4, b] check = decoded b0 b1 b2 b3 b4 check := by
  have hvalue : intAt [b0, b1, b2, b3, b4, b] 2 3 = bytesInt [b2, b3, b4] := rfl
  unfold sampleFields decoded
  rw [hvalue, bytesInt_three]
  simp only [byteAt, List.getElem?_cons_zero, List.getElem?_cons_succ, Option.getD_some, extractLsb'_high_eq]

/-- The check is over the five bytes before the last one (R24). -/
theorem sampleGood_iff (b0 b1 b2 b3 b4 b : Byte) :
    sampleGood [b0, b1, b2, b3, b4, b] = true ↔ crc8 [b0, b1, b2, b3, b4] = b := beq_iff_eq

theorem SensorPort.enter_eq (x : SensorPort) (e : FifoEntry) : x.enter e = entered x e := rfl

/-! ### A raised fault (R187, R188) -/

/-- A fault raised with a place for its notice is the statement's. -/
theorem State.raiseFault_eq (h : s.link.output.length < 60) (f : RaisedFault) : s.raiseFault f = raised s f := by
  unfold State.raiseFault raised
  simp only []
  split
  · rename_i hcapture
    exact (State.offerNotice_eq (by exact h) _).trans (if_pos hcapture).symm
  · rename_i hcapture
    exact (if_neg hcapture).symm

@[simp] theorem raised_port (f : RaisedFault) : (raised s f).port p = s.port p := by
  unfold raised
  simp only []
  split <;> cases p <;> rfl

@[simp] theorem raised_tb (f : RaisedFault) : (raised s f).tb = s.tb := by
  unfold raised
  simp only []
  split <;> rfl

@[simp] theorem raised_lastTick (f : RaisedFault) : (raised s f).lastTick = s.lastTick := by
  unfold raised
  simp only []
  split <;> rfl

/-- At most the FAULT notice joins the output queue. -/
theorem raised_output_length_le (f : RaisedFault) : (raised s f).link.output.length ≤ s.link.output.length + 1 := by
  unfold raised
  simp only []
  split
  · exact (admitted_output_length _).le
  · exact Nat.le_succ _

/-! ### The four outcomes (R27, R28) -/

/-- A full FIFO drops the frame (R27). -/
theorem State.frameArrives_of_full (hm : (s.port p).mode = .active) (hfull : 32 ≤ (s.port p).fifo.length) (body : List Byte) :
    s.frameArrives p body = conditionSet (counted s (.overflow p)) (overflowCondition p) := by
  unfold State.frameArrives
  rw [if_neg (not_not_intro hm), if_pos (show Config.fifoPlaces ≤ _ from hfull)]
  rfl

/-- A frame whose check agrees enters the FIFO (R26). -/
theorem State.frameArrives_of_good (hm : (s.port p).mode = .active) (hroom : (s.port p).fifo.length < 32) {body : List Byte}
    (hgood : sampleGood body = true) :
    s.frameArrives p body = s.setPort p (entered (s.port p) (sampleFields body .good)) := by
  unfold State.frameArrives
  rw [if_neg (not_not_intro hm), if_neg (show ¬Config.fifoPlaces ≤ _ from Nat.not_le_of_lt hroom), if_pos hgood]
  rfl

/-- The fault of a frame whose check fails (R27). -/
def State.frameFault (s : State) (p : Port) (e : FifoEntry) : RaisedFault :=
  ⟨.frameCheck, .port p, s.lastTick.second, s.lastTick.index, .source e.source⟩

/-- A frame whose check fails is counted and raises its fault (R27). -/
theorem State.raiseFrameCheck_eq (h : s.link.output.length < 60) (e : FifoEntry) :
    (s.count (.checkErrors p)).raiseFrameCheck p e = raised (counted s (.checkErrors p)) (s.frameFault p e) :=
  State.raiseFault_eq (s := s.count (.checkErrors p)) h _

/-- Under SKIP the frame is dropped (R27). -/
theorem State.frameArrives_of_skip (hm : (s.port p).mode = .active) (hroom : (s.port p).fifo.length < 32) {body : List Byte}
    (hbad : sampleGood body = false) (hp : (s.port p).settings.policy = .skip) (hplaces : s.link.output.length < 60) :
    s.frameArrives p body =
      raised (counted s (.checkErrors p)) (s.frameFault p (sampleFields body .bad)) := by
  unfold State.frameArrives
  simp only [hp]
  rw [if_neg (not_not_intro hm), if_neg (show ¬Config.fifoPlaces ≤ _ from Nat.not_le_of_lt hroom), if_neg (by simp [hbad])]
  exact State.raiseFrameCheck_eq hplaces _

/-- A port that halts: the entry joins as BAD, its fields are held, and the PORT notice finds its place (R28, R37). -/
theorem State.haltPort_eq (hplaces : s.link.output.length + 1 < 60) (e : FifoEntry) :
    s.haltPort p e = admitted
      (conditionSet ((raised (counted s (.checkErrors p)) (s.frameFault p e)).setPort p
        { entered (s.port p) e with mode := .halted, heldError := some (s.haltError e) }) (haltedCondition p))
      (.notice (.port p .halted .active .halted ((s.port p).fifo.length + 1) (some (s.haltError e)))) := by
  have hfailed := State.raiseFrameCheck_eq (p := p) (Nat.lt_of_succ_lt hplaces) e
  have hport : (raised (counted s (.checkErrors p)) (s.frameFault p e)).port p = s.port p := by
    rw [raised_port]
    cases p <;> rfl
  have hheld : (raised (counted s (.checkErrors p)) (s.frameFault p e)).haltError e = s.haltError e := by
    simp only [State.haltError, raised_tb, raised_lastTick]
    rfl
  have hlen : (raised (counted s (.checkErrors p)) (s.frameFault p e)).link.output.length < 60 :=
    (raised_output_length_le _).trans_lt hplaces
  unfold State.haltPort
  simp only [hfailed, hport, hheld]
  rw [State.offerNotice_eq (by simpa using hlen)]
  simp [SensorPort.enter_eq, State.setCondition_eq, entered]

/-- Under STOP the port halts (R28). -/
theorem State.frameArrives_of_stop (hm : (s.port p).mode = .active) (hroom : (s.port p).fifo.length < 32) {body : List Byte}
    (hbad : sampleGood body = false) (hp : (s.port p).settings.policy = .stop) :
    s.frameArrives p body = s.haltPort p (sampleFields body .bad) := by
  unfold State.frameArrives
  simp only [hp]
  rw [if_neg (not_not_intro hm), if_neg (show ¬Config.fifoPlaces ≤ _ from Nat.not_le_of_lt hroom), if_neg (by simp [hbad])]

/-- Settles O22: the first case of R27 that applies to the completed frame, at the port back in HUNT. -/
theorem frameArrivesInActive : Obligations.FrameArrivesInActive := by
  intro c p b0 b1 b2 b3 b4 b n s hc hs hf hm hplaces hunting u bad fault failed
  have harrives : exec c s = .next (u.frameArrives p [b0, b1, b2, b3, b4, b]) := by
    rw [exec_portByte hc hs, State.portByte_of_complete (by simpa using hf) rfl, passed_port]
    rfl
  have hport : u.port p = hunting := State.setPort_port _ _ _
  have hmode : (u.port p).mode = .active := by rw [hport]; exact hm
  have hlink : u.link = s.link := State.setPort_link _ _ _
  have hstamp : u.lastTick = s.lastTick := by simp only [State.lastTick, u, State.setPort_asm]; rfl
  have hfault : u.frameFault p bad = fault := by simp only [State.frameFault, hstamp, fault]
  have hfifo : (u.port p).fifo = (s.port p).fifo := by rw [hport]
  have hroom : (s.port p).fifo.length < 32 → (u.port p).fifo.length < 32 := fun h => by rwa [hfifo]
  have hbad : crc8 [b0, b1, b2, b3, b4] ≠ b → sampleGood [b0, b1, b2, b3, b4, b] = false := fun hcrc =>
    Bool.eq_false_iff.mpr fun hgood => hcrc ((sampleGood_iff _ _ _ _ _ _).mp hgood)
  refine ⟨fun hfull => ?_, fun hlen hcrc => ?_, fun hlen hcrc hp => ?_, fun hlen hcrc hp => ?_⟩
  · rw [harrives, State.frameArrives_of_full hmode (by rwa [hfifo])]
    cases p <;> rfl
  · rw [harrives, State.frameArrives_of_good hmode (hroom hlen) ((sampleGood_iff _ _ _ _ _ _).mpr hcrc), sampleFields_eq, hport]
  · rw [harrives, State.frameArrives_of_skip hmode (hroom hlen) (hbad hcrc) (by rw [hport]; exact hp)
      (by rw [hlink]; exact Nat.lt_of_succ_lt hplaces), sampleFields_eq, hfault]
  · intro held
    have hheld : u.haltError bad = held := by
      simp only [State.haltError, hstamp, u, State.setPort_tb]
      rfl
    rw [harrives, State.frameArrives_of_stop hmode (hroom hlen) (hbad hcrc) (by rw [hport]; exact hp), sampleFields_eq,
      State.haltPort_eq (by rw [hlink]; exact hplaces), hfault, hheld, hport]
    cases p <;> rfl

end Sys2Proof.Machine
end

section
/-! PROOFS. The requests of the sensor ports: O23 (R33 to R37, R162 to R166, R181). -/

namespace Sys2Proof.Machine

open Sys2Proof.Claims

variable {s : State} {q : Request}

/-! ### Choices (R181) -/

/-- A byte beyond the last position of a choice names none. -/
theorem choiceAt_of_le {α : Type} {values : List α} {b : Byte} (h : values.length ≤ b.toNat) : choiceAt values b = none :=
  List.getElem?_eq_none h

theorem choiceAt_port (p : Port) : choiceAt portChoice (portByte p) = some p := by cases p <;> rfl

theorem choiceAt_bool (on : Bool) : choiceAt boolChoice (if on then 0 else 1) = some on := by cases on <;> rfl

theorem choiceAt_policy (policy : Policy) :
    choiceAt policyChoice (match policy with | .skip => 0 | .stop => 1) = some policy := by cases policy <;> rfl

/-- A threshold byte is admitted exactly when it is 8, 16 or 24 (R35). -/
theorem thresholdOk_iff (b : Byte) : thresholdOk b.toNat = true ↔ b = 8 ∨ b = 16 ∨ b = 24 := by
  simp only [thresholdOk, Bool.or_eq_true, beq_iff_eq, ← BitVec.toNat_inj, or_assoc]
  rfl

theorem thresholdOk_eq_false_iff (b : Byte) : thresholdOk b.toNat = false ↔ b ≠ 8 ∧ b ≠ 16 ∧ b ≠ 24 := by
  rw [← Bool.not_eq_true, thresholdOk_iff, not_or, not_or]

@[simp] theorem taken_port (p : Port) : (taken s).port p = s.port p := by cases p <;> rfl

/-- A request's effect on a port and its departure from the request queue are independent. -/
theorem taken_setPort (p : Port) (x : SensorPort) : ((taken s).setPort p x).touchSettings = taken (unsavedSet (s.setPort p x)) := by
  cases p <;> rfl

/-- A request that is ready and refused. -/
theorem State.take_refused {name : RequestName} (h : Ready s name q) {judge : Request → State → Reply} {r : Result}
    (hj : judge q (taken s) = Reply.refuse (taken s) r) : s.take name judge = answered (taken s) q r [] := by
  rw [State.take_of_ready h, hj, Reply.finish_refuse]

/-- A request that is ready and accepted, with its effect on one port. -/
theorem State.take_accepted {name : RequestName} (h : Ready s name q) {judge : Request → State → Reply} {p : Port} {x : SensorPort}
    (hj : judge q (taken s) = Reply.ok ((taken s).setPort p x).touchSettings []) :
    s.take name judge = answered (taken (unsavedSet (s.setPort p x))) q .ok [] := by
  rw [State.take_of_ready h, hj, Reply.finish_ok, taken_setPort]

/-! ### PORT_ENABLE (R33) -/

theorem judgePortEnable_of {p : Port} {on : Bool} (hp : choiceAt portChoice (byteAt q.params 0) = some p)
    (hon : choiceAt boolChoice (byteAt q.params 1) = some on) :
    judgePortEnable q s = if (s.port p).mode = .halted then Reply.refuse s .conflict
      else Reply.ok (s.setPort p ((s.port p).enable on)).touchSettings [] := by
  unfold judgePortEnable
  rw [hp, hon]

theorem judgePortEnable_range (h : choiceAt portChoice (byteAt q.params 0) = none ∨
    choiceAt boolChoice (byteAt q.params 1) = none) : judgePortEnable q s = Reply.refuse s .range := by
  unfold judgePortEnable
  split <;> simp_all

/-! ### PORT_SET (R35) -/

theorem judgePortSet_of {p : Port} {policy : Policy} (hp : choiceAt portChoice (byteAt q.params 0) = some p)
    (hpolicy : choiceAt policyChoice (byteAt q.params 2) = some policy) :
    judgePortSet q s = if thresholdOk (natAt q.params 1 1) then
        Reply.ok (s.setPort p ((s.port p).set (natAt q.params 1 1) policy)).touchSettings []
      else Reply.refuse s .range := by
  unfold judgePortSet
  rw [hp, hpolicy]

theorem judgePortSet_range (h : choiceAt portChoice (byteAt q.params 0) = none ∨ thresholdOk (natAt q.params 1 1) = false ∨
    choiceAt policyChoice (byteAt q.params 2) = none) : judgePortSet q s = Reply.refuse s .range := by
  unfold judgePortSet
  split <;> simp_all

/-! ### PORT_RESET (R36, R37) -/

theorem judgePortReset_of {p : Port} (hp : choiceAt portChoice (byteAt q.params 0) = some p) :
    judgePortReset q s = { Reply.ok (s.setPort p (s.port p).reset).touchSettings [] with
      notices := if (s.port p).mode = .halted then [.port p .reset .halted .disabled 0 none] else [] } := by
  unfold judgePortReset
  rw [hp]

theorem judgePortReset_range (h : choiceAt portChoice (byteAt q.params 0) = none) :
    judgePortReset q s = Reply.refuse s .range := by
  unfold judgePortReset
  rw [h]

/-- The response to PORT_RESET, and after it the notice it may bring about (R36, R37, R163). -/
theorem Reply.finish_notices (t : State) (q : Request) (l : List Notice) :
    Reply.finish { Reply.ok t [] with notices := l } q = l.foldl State.offerNotice (Claims.answered t q .ok []) := by
  rw [← Reply.finish_ok]
  rfl

/-! ### The statement -/

theorem portEnable_answers {p : Port} {on : Bool} (h : Ready s .portEnable q)
    (hq : q.params = [portByte p, if on then 0 else 1]) :
    ((s.port p).mode = .halted → exec .portEnable s = .next (answered (taken s) q .conflict [])) ∧
      ((s.port p).mode ≠ .halted →
        exec .portEnable s = .next (answered (taken (unsavedSet (s.setPort p ((s.port p).enable on)))) q .ok [])) := by
  have hport : choiceAt portChoice (byteAt q.params 0) = some p := by rw [hq]; exact choiceAt_port p
  have hon : choiceAt boolChoice (byteAt q.params 1) = some on := by rw [hq]; exact choiceAt_bool on
  have hjudge := judgePortEnable_of (s := taken s) hport hon
  rw [taken_port] at hjudge
  refine ⟨fun hm => congrArg _ (State.take_refused h ?_), fun hm => congrArg _ (State.take_accepted h ?_)⟩
  · rw [hjudge, if_pos hm]
  · rw [hjudge, if_neg hm]

theorem portSet_answers {p : Port} {threshold : Byte} {policy : Policy} (h : Ready s .portSet q)
    (hport : choiceAt portChoice (byteAt q.params 0) = some p) (hthreshold : natAt q.params 1 1 = threshold.toNat)
    (hpolicy : choiceAt policyChoice (byteAt q.params 2) = some policy) :
    (threshold = 8 ∨ threshold = 16 ∨ threshold = 24 → exec .portSet s =
        .next (answered (taken (unsavedSet (s.setPort p ((s.port p).set threshold.toNat policy)))) q .ok [])) ∧
      (threshold ≠ 8 → threshold ≠ 16 → threshold ≠ 24 → exec .portSet s = .next (answered (taken s) q .range [])) := by
  have hjudge := judgePortSet_of (s := taken s) hport hpolicy
  rw [taken_port, hthreshold] at hjudge
  refine ⟨fun hok => congrArg _ (State.take_accepted h ?_), fun h8 h16 h24 => congrArg _ (State.take_refused h ?_)⟩
  · rw [hjudge, if_pos ((thresholdOk_iff _).mpr hok)]
  · rw [hjudge, if_neg (Bool.eq_false_iff.mp ((thresholdOk_eq_false_iff _).mpr ⟨h8, h16, h24⟩))]

theorem portReset_answers {p : Port} (h : Ready s .portReset q) (hq : q.params = [portByte p])
    (hroom : s.link.output.length + 1 < 60) :
    let u := answered (taken (unsavedSet (s.setPort p (s.port p).reset))) q .ok []
    ((s.port p).mode = .halted →
        exec .portReset s = .next (admitted u (.notice (.port p .reset .halted .disabled 0 none)))) ∧
      ((s.port p).mode ≠ .halted → exec .portReset s = .next u) := by
  intro u
  have hport : choiceAt portChoice (byteAt q.params 0) = some p := by rw [hq]; exact choiceAt_port p
  have hreply : s.take .portReset judgePortReset =
      (if (s.port p).mode = .halted then [Notice.port p .reset .halted .disabled 0 none] else []).foldl State.offerNotice u := by
    rw [State.take_of_ready h, judgePortReset_of hport, Reply.finish_notices, taken_port, taken_setPort]
  have hplaces : u.link.output.length < 60 := by
    have hlink : (s.setPort p (s.port p).reset).link = s.link := State.setPort_link _ _ _
    simpa [u, answered, taken, unsavedSet, hlink] using hroom
  refine ⟨fun hm => congrArg Host.Outcome.next (hreply.trans ?_), fun hm => congrArg Host.Outcome.next (hreply.trans ?_)⟩
  · rw [if_pos hm]
    exact State.offerNotice_eq hplaces _
  · rw [if_neg hm]
    rfl

/-- Settles O23: each row takes the request, reads its choices, and judges by the port's state. -/
theorem portRequests : Obligations.PortRequests := by
  refine ⟨fun p q s => ⟨fun on h hq => ?_, fun threshold policy h hq => ?_, fun h hq hroom => ?_⟩,
    fun q s => ⟨fun port setting h hq hout => ?_, fun port threshold policy h hq hout => ?_, fun port h hq hout => ?_⟩⟩
  · exact portEnable_answers h hq
  · have hpolicy : choiceAt policyChoice (byteAt q.params 2) = some policy := by
      rw [hq]
      exact choiceAt_policy policy
    exact portSet_answers h (by rw [hq]; exact choiceAt_port p) (by rw [hq]; exact natAt_single threshold) hpolicy
  · exact portReset_answers h hq hroom
  · refine congrArg _ (State.take_refused h (judgePortEnable_range ?_))
    rw [hq]
    exact hout.imp choiceAt_of_le choiceAt_of_le
  · refine congrArg _ (State.take_refused h (judgePortSet_range ?_))
    rw [hq]
    refine hout.imp choiceAt_of_le (Or.imp (fun hne => ?_) choiceAt_of_le)
    exact (congrArg thresholdOk (natAt_single threshold)).trans ((thresholdOk_eq_false_iff threshold).mpr hne)
  · refine congrArg _ (State.take_refused h (judgePortReset_range ?_))
    rw [hq]
    exact choiceAt_of_le hout

end Sys2Proof.Machine
end

section
/-! PROOFS. ENTRY_TAKE: O24 (R26, R30, R32, R45 to R48). -/

namespace Sys2Proof.Machine

open Sys2Proof.Claims

variable {s : State} {p : Port} {e : FifoEntry}

/-! ### The port served and its oldest entry (R45) -/

/-- The port served next is the statement's. -/
theorem State.nextServed_of_served (h : served s p) : s.nextServed = some p := by
  unfold State.nextServed
  cases p with
  | a =>
    obtain ⟨ha, hb⟩ := h
    cases hfa : s.portA.fifo with
    | nil => exact absurd hfa ha
    | cons x xs =>
      cases hfb : s.portB.fifo with
      | nil => rfl
      | cons y ys => simp [hb.resolve_left (by simp [hfb])]
  | b =>
    obtain ⟨hb, ha⟩ := h
    cases hfb : s.portB.fifo with
    | nil => exact absurd hfb hb
    | cons y ys =>
      cases hfa : s.portA.fifo with
      | nil => rfl
      | cons x xs => simp [ha.resolve_left (by simp [hfa])]

/-- The oldest entry leaves, and the pointer names its port (R26, R32, R45). -/
theorem entryGone_eq {rest : List FifoEntry} (hf : (s.port p).fifo = e :: rest) :
    (s.setPort p (s.port p).takeOldest).setAsm { (s.setPort p (s.port p).takeOldest).asm with lastServed := p } =
      entryGone s p rest := by
  unfold SensorPort.takeOldest entryGone
  rw [hf, State.setPort_asm]
  rfl

@[simp] theorem entryGone_staging (rest : List FifoEntry) : (entryGone s p rest).staging = s.staging := by cases p <;> rfl

@[simp] theorem entryGone_openSet (rest : List FifoEntry) : (entryGone s p rest).asm.openSet = s.asm.openSet := rfl

/-- With no close in progress or waiting ENTRY_TAKE takes the oldest entry of the port served: a BAD one is discarded, a GOOD one
matched (R30, R43, R45). -/
theorem exec_entryTake {rest : List FifoEntry} (hq : s.asm.closeQueue = []) (hs : served s p) (hf : (s.port p).fifo = e :: rest) :
    (e.check = .bad → exec .entryTake s = .next (entryGone s p rest)) ∧
      (e.check = .good → exec .entryTake s = .next ((entryGone s p rest).matchEntry p e)) := by
  have htake : exec .entryTake s = .next (s.takeEntry p) := by
    simp only [exec, execEntryTake, hq, State.nextServed_of_served hs]
  refine ⟨fun hc => htake.trans (congrArg _ ?_), fun hc => htake.trans (congrArg _ ?_)⟩
  · unfold State.takeEntry
    simp only [hf, hc]
    exact entryGone_eq hf
  · unfold State.takeEntry
    simp only [hf, hc]
    rw [← entryGone_eq hf]

/-! ### The claim of a channel (R46) -/

theorem mem_allChannels (n : Fin 16) : n ∈ allChannels := by
  revert n
  decide

/-- The test of a channel's claim. -/
theorem claim_iff (c : Configuration) (p : Port) (a : BitVec 4) (m : Fin 16) :
    ((c.channels[m]).enabled && (c.channels[m]).port == p && (c.channels[m]).source == a) = true ↔
      (c.channels[m]).enabled = true ∧ (c.channels[m]).port = p ∧ (c.channels[m]).source = a := by
  simp [and_assoc]

/-- No enabled channel claims the port and source address. -/
theorem Configuration.claimant_eq_none {c : Configuration} {a : BitVec 4}
    (h : ∀ m : Fin 16, ¬((c.channels[m]).enabled = true ∧ (c.channels[m]).port = p ∧ (c.channels[m]).source = a)) :
    c.claimant p a = none :=
  List.find?_eq_none.mpr fun m _ hm => h m ((claim_iff c p a m).mp hm)

/-- The one enabled channel that claims the port and source address. -/
theorem claimant_of_claims {n : Fin 16} {a : BitVec 4} (h : claims s n p a) : s.staging.active.claimant p a = some n := by
  cases hc : s.staging.active.claimant p a with
  | none => exact absurd ((claim_iff _ p a n).mpr ((h n).mpr rfl)) (List.find?_eq_none.mp hc n (mem_allChannels n))
  | some m =>
    unfold Configuration.claimant at hc
    have hm := List.find?_some hc
    exact congrArg some ((h m).mp ((claim_iff _ p a m).mp hm))

/-! ### The tick of an entry (R46) -/

theorem findOpenTick_eq_none {l : List OpenTick} {sequence : Byte} (h : ∀ t ∈ l, BitVec.truncate 8 t.id.count ≠ sequence) :
    findOpenTick l sequence = none := List.find?_eq_none.mpr fun t ht => by simpa using h t ht

/-- The first open tick whose count has the tick sequence as its low 8 bits. -/
theorem findOpenTick_append {old new : List OpenTick} {t : OpenTick} {sequence : Byte}
    (hold : ∀ x ∈ old, BitVec.truncate 8 x.id.count ≠ sequence) (ht : BitVec.truncate 8 t.id.count = sequence) :
    findOpenTick (old ++ t :: new) sequence = some t := by
  have hnone := findOpenTick_eq_none hold
  unfold findOpenTick at hnone ⊢
  rw [List.find?_append, hnone, Option.none_or]
  exact List.find?_cons_of_pos (by simpa using ht)

/-- A slot is filed in the first tick of its count. -/
theorem fileSlot_append {old new : List OpenTick} {t : OpenTick} (hold : ∀ x ∈ old, x.id.count ≠ t.id.count) (n : Fin 16)
    (slot : Slot) :
    fileSlot (old ++ t :: new) t.id.count n slot = old ++ { t with slots := t.slots.set n slot } :: new := by
  induction old with
  | nil => exact if_pos rfl
  | cons x xs ih =>
    rw [List.cons_append, fileSlot, if_neg (hold x List.mem_cons_self), ih fun y hy => hold y (List.mem_cons_of_mem x hy)]
    rfl

/-- What a frame fills its slot with is the statement's (R48). -/
theorem FifoEntry.slot_eq (e : FifoEntry) (p : Port) : e.slot p = slotOf e p := by
  unfold FifoEntry.slot slotOf
  cases e.overrange <;> cases e.digitizer <;> rfl

theorem Kind.oncePerSecond_iff (k : Kind) : k.oncePerSecond = true ↔ k ≠ .axis := by cases k <;> decide

/-! ### The four tests of a match (R46 to R48) -/

theorem State.matchEntry_unclaimed (h : s.staging.active.claimant p e.source = none) :
    s.matchEntry p e = counted s .unclaimed := by
  unfold State.matchEntry
  rw [h]
  rfl

section Claimed

variable {n : Fin 16} (hn : s.staging.active.claimant p e.source = some n)

include hn

theorem State.matchEntry_late (ht : findOpenTick s.asm.openSet e.sequence = none) : s.matchEntry p e = counted s .late := by
  unfold State.matchEntry
  simp only [hn, ht]
  rfl

variable {t : OpenTick} (ht : findOpenTick s.asm.openSet e.sequence = some t)

include ht

theorem State.matchEntry_unexpected (hk : (s.staging.active.channels[n]).kind ≠ .axis) (hi : t.id.index ≠ 0) :
    s.matchEntry p e = counted s .unexpected := by
  unfold State.matchEntry
  simp only [hn, ht]
  exact if_pos (Bool.and_eq_true_iff.mpr ⟨(Kind.oncePerSecond_iff _).mpr hk, bne_iff_ne.mpr hi⟩)

/-- An expected entry passes the third test (R47). -/
theorem State.matchEntry_expected (hk : (s.staging.active.channels[n]).kind = .axis ∨ t.id.index = 0) :
    s.matchEntry p e = if t.slots[n] ≠ .empty then s.count .duplicate
      else s.setAsm { s.asm with openSet := fileSlot s.asm.openSet t.id.count n (e.slot p) } := by
  have hpass : ¬(((s.staging.active.channels[n]).kind).oncePerSecond && t.id.index != 0) = true := by
    rw [Bool.and_eq_true_iff]
    rintro ⟨honce, hindex⟩
    exact hk.elim ((Kind.oncePerSecond_iff _).mp honce) (bne_iff_ne.mp hindex)
  unfold State.matchEntry
  simp only [hn, ht]
  exact if_neg hpass

end Claimed

/-- Settles O24: the entry taken leaves its FIFO; a GOOD one goes through the four tests in their order. -/
theorem entryTaken : Obligations.EntryTaken := by
  intro p e rest s hq hs hf u
  obtain ⟨hbad, hgood⟩ := exec_entryTake hq hs hf
  refine ⟨hbad, fun hc hnone => ?_, fun n hc hclaims => ?_⟩
  · rw [hgood hc, State.matchEntry_unclaimed (by rw [entryGone_staging]; exact Configuration.claimant_eq_none hnone)]
  · have hn : u.staging.active.claimant p e.source = some n := by
      rw [entryGone_staging]
      exact claimant_of_claims hclaims
    refine ⟨fun hlate => ?_, fun old new t hopen hold ht => ?_⟩
    · rw [hgood hc, State.matchEntry_late hn (findOpenTick_eq_none hlate)]
    · have hfound : findOpenTick u.asm.openSet e.sequence = some t := by
        rw [entryGone_openSet, hopen]
        exact findOpenTick_append hold ht
      have hcount : ∀ x ∈ old, x.id.count ≠ t.id.count := fun x hx heq => hold x hx (heq ▸ ht)
      refine ⟨fun hk hi => ?_, fun hk hfull => ?_, fun hk hempty => ?_⟩
      · rw [hgood hc, State.matchEntry_unexpected hn hfound (by rwa [entryGone_staging]) hi]
      · rw [hgood hc, State.matchEntry_expected hn hfound (by rwa [entryGone_staging]), if_pos hfull]
        rfl
      · rw [hgood hc, State.matchEntry_expected hn hfound (by rwa [entryGone_staging]), if_neg (not_not_intro hempty),
          entryGone_openSet, hopen, fileSlot_append hcount, FifoEntry.slot_eq]
        rfl

end Sys2Proof.Machine
end

section
/-! PROOFS. The stages of a close: O27 (R43, R44, R50, R51, R52, R80, R90, R110, R133). -/

namespace Sys2Proof.Machine

open Sys2Proof.Claims

variable {s : State}

/-! ### Counting (R185) -/

/-- A count of no events. -/
@[simp] theorem satAdd_zero (c : Count16) : satAdd c 0 = c := by
  have hc := c.isLt
  apply BitVec.eq_of_toNat_eq
  rw [satAdd, BitVec.toNat_ofNat]
  omega

/-- A count that goes on after its stop stays there. -/
theorem satAdd_satAdd (c : Count16) (m n : Nat) : satAdd (satAdd c m) n = satAdd c (m + n) := by
  unfold satAdd
  rw [BitVec.toNat_ofNat]
  congr 1
  omega

/-- The place of a counter after events of the counters of a list. -/
theorem foldl_count_counters (l : List Counter) (i : Fin 29) :
    ((l.foldl State.count s).status.counters[i]) = satAdd (s.status.counters[i]) (l.countP fun c => decide (c.index = i)) := by
  induction l generalizing s with
  | nil => exact (satAdd_zero _).symm
  | cons c l ih =>
    have hcount : (s.count c).status.counters[i] = satAdd (s.status.counters[i]) (if c.index = i then 1 else 0) := by
      change (s.status.counters.set c.index (satAdd (s.status.counters[c.index]) 1))[i] = _
      by_cases hi : c.index = i
      · simp [← hi]
      · simp [hi, Fin.val_inj]
    rw [List.foldl_cons, ih, hcount, satAdd_satAdd, List.countP_cons, Nat.add_comm]
    simp only [decide_eq_true_eq]

/-- Events of the counters of a list change the counters alone. -/
theorem foldl_count_eq (l : List Counter) :
    l.foldl State.count s = { s with status := { s.status with
      counters := Vector.ofFn fun i => satAdd (s.status.counters[i]) (l.countP fun c => decide (c.index = i)) } } := by
  have hrest : l.foldl State.count s = { s with status := { s.status with
      counters := (l.foldl State.count s).status.counters } } := by
    induction l generalizing s with
    | nil => rfl
    | cons c l ih => exact (ih (s := s.count c)).trans rfl
  have hcounters : (l.foldl State.count s).status.counters =
      Vector.ofFn fun i => satAdd (s.status.counters[i]) (l.countP fun c => decide (c.index = i)) := by
    ext i hi : 1
    rw [Vector.getElem_ofFn]
    exact foldl_count_counters l ⟨i, hi⟩
  rw [hrest, hcounters]

/-! ### Revalidation (R51) -/

/-- What revalidation does to a slot is the statement's. -/
theorem revalidateSlot_eq (d : ChannelDescriptor) (index : Nat) (slot : Slot) :
    revalidateSlot d index slot = emptied d index slot := by
  have hclaim (p : Port) (a : BitVec 4) : (!d.enabled || d.port != p || d.source != a) = true ↔
      ¬(d.enabled = true ∧ d.port = p ∧ d.source = a) := by
    simp [not_and_or, or_assoc, -not_and]
  have hexpected : (d.kind.oncePerSecond && index != 0) = true ↔ ¬(d.kind = .axis ∨ index = 0) := by
    simp [Kind.oncePerSecond_iff]
  cases slot <;> simp only [revalidateSlot, emptied, hclaim, hexpected, ite_not]

/-- An emptied slot counts UNCLAIMED or UNEXPECTED (R51). -/
theorem emptied_cases (d : ChannelDescriptor) (index : Nat) (slot : Slot) :
    emptied d index slot = none ∨ emptied d index slot = some .unclaimed ∨ emptied d index slot = some .unexpected := by
  unfold emptied
  cases slot with
  | empty => exact .inl rfl
  | filled v p a => simp only []; split_ifs <;> simp
  | missing o f p a => simp only []; split_ifs <;> simp

/-- A slot after its revalidation (R51). -/
def revalidated (d : ChannelDescriptor) (index : Nat) (slot : Slot) : Slot :=
  if (emptied d index slot).isSome then .empty else slot

theorem revalidated_revalidated (d : ChannelDescriptor) (index : Nat) (slot : Slot) :
    revalidated d index (revalidated d index slot) = revalidated d index slot := by
  by_cases h : (emptied d index slot).isSome = true
  · simp only [revalidated, if_pos h]
    exact ite_self _
  · simp only [revalidated, if_neg h]

section Steps

variable (c : Configuration) (index : Nat) (acc : State × Vector Slot 16)

/-- The revalidation of one channel revalidates its slot alone. -/
theorem revalidateStep_slot (m n : Fin 16) : (revalidateStep c index acc m).2[n] =
    if n = m then revalidated (c.channels[n]) index (acc.2[n]) else acc.2[n] := by
  unfold revalidateStep
  rw [revalidateSlot_eq]
  by_cases hn : n = m
  · subst hn
    rw [if_pos rfl, revalidated]
    cases emptied (c.channels[n]) index (acc.2[n]) with
    | none => rfl
    | some k => exact Vector.getElem_set_self n.isLt
  · rw [if_neg hn]
    cases emptied (c.channels[m]) index (acc.2[m]) with
    | none => rfl
    | some k => exact Vector.getElem_set_ne m.isLt n.isLt fun h => hn (Fin.ext h.symm)

/-- The revalidation of one channel counts what it empties. -/
theorem revalidateStep_state (m : Fin 16) : (revalidateStep c index acc m).1 =
    (emptied (c.channels[m]) index (acc.2[m])).toList.foldl State.count acc.1 := by
  unfold revalidateStep
  rw [revalidateSlot_eq]
  cases emptied (c.channels[m]) index (acc.2[m]) <;> rfl

/-- A slot after the revalidation of some channels. -/
theorem foldl_revalidateStep_slot (l : List (Fin 16)) (n : Fin 16) : (l.foldl (revalidateStep c index) acc).2[n] =
    if n ∈ l then revalidated (c.channels[n]) index (acc.2[n]) else acc.2[n] := by
  induction l generalizing acc with
  | nil => rfl
  | cons m l ih =>
    rw [List.foldl_cons, ih, revalidateStep_slot]
    by_cases hn : n = m
    · simp only [hn, if_true, List.mem_cons_self, revalidated_revalidated, ite_self]
    · simp only [hn, if_false, List.mem_cons, false_or]

/-- What the revalidation of different channels counts, by the slots as they were before it. -/
theorem foldl_revalidateStep_state {slots : Vector Slot 16} {l : List (Fin 16)} (hl : l.Nodup)
    (hslots : ∀ n ∈ l, acc.2[n] = slots[n]) : (l.foldl (revalidateStep c index) acc).1 =
      (l.flatMap fun n => (emptied (c.channels[n]) index (slots[n])).toList).foldl State.count acc.1 := by
  induction l generalizing acc with
  | nil => rfl
  | cons m l ih =>
    obtain ⟨hm, hnodup⟩ := List.nodup_cons.mp hl
    have hkeep : ∀ n ∈ l, (revalidateStep c index acc m).2[n] = slots[n] := by
      intro n hn
      rw [revalidateStep_slot, if_neg (ne_of_mem_of_not_mem hn hm)]
      exact hslots n (List.mem_cons_of_mem m hn)
    rw [List.foldl_cons, ih _ hnodup hkeep, revalidateStep_state, hslots m List.mem_cons_self, List.flatMap_cons,
      List.foldl_append]

end Steps

theorem allChannels_eq : allChannels = List.finRange 16 := by decide

/-- The slots after revalidation are the statement's. -/
theorem State.revalidate_slots (c : Configuration) (t : OpenTick) : (s.revalidate c t).2 = slotsLeft c t := by
  ext i hi : 1
  unfold slotsLeft
  rw [Vector.getElem_ofFn]
  exact (foldl_revalidateStep_slot c t.id.index (s, t.slots) allChannels ⟨i, hi⟩).trans (if_pos (mem_allChannels _))

/-- Which counter the revalidation of a slot counts. -/
theorem countP_emptied_slot (d : ChannelDescriptor) (index : Nat) (slot : Slot) (i : Fin 29) :
    (emptied d index slot).toList.countP (fun k => decide (k.index = i)) =
      if i.val = 6 then (if emptied d index slot = some .unclaimed then 1 else 0)
      else if i.val = 8 then (if emptied d index slot = some .unexpected then 1 else 0) else 0 := by
  have hunclaimed : Counter.unclaimed.index = i ↔ i.val = 6 := Fin.ext_iff.trans eq_comm
  have hunexpected : Counter.unexpected.index = i ↔ i.val = 8 := Fin.ext_iff.trans eq_comm
  obtain h | h | h := emptied_cases d index slot
  · simp [h]
  · simp [h, hunclaimed]
  · by_cases hi : i.val = 8 <;> simp [h, hunexpected, hi]

/-- How often each counter is counted when some slots are revalidated. -/
theorem countP_emptied (c : Configuration) (t : OpenTick) (l : List (Fin 16)) (i : Fin 29) :
    let number (k : Counter) : Nat := l.countP fun n => decide (emptied (c.channels[n]) t.id.index (t.slots[n]) = some k)
    (l.flatMap fun n => (emptied (c.channels[n]) t.id.index (t.slots[n])).toList).countP (fun k => decide (k.index = i)) =
      if i.val = 6 then number .unclaimed else if i.val = 8 then number .unexpected else 0 := by
  induction l with
  | nil => simp
  | cons n l ih =>
    simp only [List.flatMap_cons, List.countP_append, List.countP_cons, countP_emptied_slot, decide_eq_true_eq] at ih ⊢
    rw [ih]
    split_ifs <;> omega

/-- The counts of revalidation are the statement's. -/
theorem State.revalidate_state (c : Configuration) (t : OpenTick) : (s.revalidate c t).1 = emptiedCounted s c t := by
  have hfold : (s.revalidate c t).1 = _ := foldl_revalidateStep_state c t.id.index (s, t.slots) (by decide) fun _ _ => rfl
  rw [hfold, foldl_count_eq]
  simp only [countP_emptied, allChannels_eq]
  rfl

/-! ### The corrector's records (R80, R90) -/

theorem HeldTemperature.belongs_eq (h : HeldTemperature) (d : ChannelDescriptor) : h.belongs d =
    decide (d.enabled = true ∧ d.kind = .temperature ∧ h.descriptor.enabled = true ∧ h.descriptor.kind = .temperature ∧
      h.descriptor.port = d.port ∧ h.descriptor.source = d.source ∧ h.descriptor.scale = d.scale ∧
      h.descriptor.offset = d.offset ∧ h.descriptor.mode = d.mode) := by
  unfold HeldTemperature.belongs
  rw [Bool.eq_iff_iff]
  simp only [Bool.and_eq_true, beq_iff_eq, decide_eq_true_eq, and_assoc]
  constructor
  · rintro ⟨he, hk, he', hk', hp, ha, hx, ho, hm⟩
    exact ⟨he, hk, he' ▸ he, hk' ▸ hk, hp.symm, ha.symm, hx.symm, ho.symm, hm.symm⟩
  · rintro ⟨he, hk, he', hk', hp, ha, hx, ho, hm⟩
    exact ⟨he, hk, he.trans he'.symm, hk.trans hk'.symm, hp.symm, ha.symm, hx.symm, ho.symm, hm.symm⟩

theorem LastGood.belongs_eq (g : LastGood) (d : ChannelDescriptor) : g.belongs d =
    decide (d.enabled = true ∧ d.segment = some g.segment ∧ d.tempSource = some g.source) := by
  rw [Bool.eq_iff_iff]
  simp [LastGood.belongs, and_assoc]

theorem keepHeld_eq (d : ChannelDescriptor) (h : Option HeldTemperature) : keepHeld d h = h.filter (·.belongs d) := by
  cases h <;> rfl

theorem keepLastGood_eq (d : ChannelDescriptor) (g : Option LastGood) : keepLastGood d g = g.filter (·.belongs d) := by
  cases g <;> rfl

/-- The records that still belong are the statement's. -/
theorem Corrector.keep_eq (k : Corrector) (c : Configuration) : k.keep c = recordsKept k c := by
  simp only [Corrector.keep, recordsKept, keepHeld_eq, keepLastGood_eq, HeldTemperature.belongs_eq, LastGood.belongs_eq]

/-! ### TICK_CLOSE (R43, R44, R50) -/

/-- The test of a screen's axes is the statement's (R110, R133). -/
theorem Screen.stranger_eq (sc : Screen) (d : TriadDescriptor) : sc.stranger d = foreign sc d := rfl

/-- The end of a close of the tick at the head of the close queue is the statement's (R43, R50). -/
theorem State.endClose_eq {t : OpenTick} {rest : List OpenTick} (hq : s.asm.closeQueue = t :: rest) :
    s.endClose = closeBegun { s with asm := { s.asm with closeQueue := rest, closing := none } } := by
  rw [State.endClose, State.beginClose_eq, hq]
  rfl

/-- TICK_CLOSE with a tick in its close: the whole close, and its end. -/
theorem exec_tickClose {n : Nat} {cc : CloseContext} {t : OpenTick} {rest : List OpenTick} (hc : s.asm.closing = some cc)
    (hq : s.asm.closeQueue = t :: rest) (hp : s.phase ≠ .off) :
    exec (.tickClose n) s = .next ((passed s n).closeTick cc t).endClose := by
  simp only [exec, execTickClose, hc, hq, State.elapse_eq_passed hp]

/-- Settles O27: each stage is the statement's, and the close runs them in this order. -/
theorem closeRunsItsStages : Obligations.CloseRunsItsStages := by
  intro n cc t rest s hc hq hp
  have hclosed : ((passed s n).closeTick cc t).asm.closeQueue = t :: rest := by rw [State.closeTick_asm]; exact hq
  rw [exec_tickClose hc hq hp, State.endClose_eq hclosed, State.closeTick_asm, State.closeTick]
  simp only [State.revalidate_slots, State.revalidate_state, State.correct, allChannels_eq, Corrector.keep_eq,
    Screen.stranger_eq]
  rfl

end Sys2Proof.Machine
end

section
/-! PROOFS. What a close leaves alone: O26 (R43, R44, R50). -/

namespace Sys2Proof.Machine

open Sys2Proof.Claims

variable {s : State}

/-! ### What a close is made of

Beside the corrector, the screens and the decimator, which it writes itself, a close changes the state only by counts, raised
faults and offered data records. A property that each of these keeps is therefore kept by every stage of a close. -/

/-- A property of states that each part of a close keeps. -/
structure KeptByCloseParts (p : State → Prop) : Prop where
  setCorr : ∀ s x, p s → p (s.setCorr x)
  setScreens : ∀ s x, p s → p (s.setScreens x)
  setDec : ∀ s x, p s → p (s.setDec x)
  countBy : ∀ s c n, p s → p (s.countBy c n)
  raiseFault : ∀ s f, p s → p (s.raiseFault f)
  offerData : ∀ s b, p s → p (s.offerData b)

namespace KeptByCloseParts

variable {p : State → Prop} (kept : KeptByCloseParts p)

include kept

theorem revalidate (c : Configuration) (t : OpenTick) (h : p s) : p (s.revalidate c t).1 := by
  refine foldl_keeps (fun x : State × Vector Slot 16 => p x.1) _ (fun x n hx => ?_) _ _ h
  unfold revalidateStep
  split
  · exact hx
  · exact kept.countBy _ _ _ hx

theorem temperatureStep (cc : CloseContext) (t : OpenTick) (slots : Vector Slot 16) (x : Correcting) (n : Fin 16)
    (h : p x.state) : p (temperatureStep cc t slots x n).state := by
  unfold Machine.temperatureStep
  simp only []
  split
  · split
    · exact h
    · exact h
    · refine kept.setCorr _ _ ?_
      split
      · exact kept.raiseFault _ _ h
      · exact h
  · exact h

theorem stageB (cc : CloseContext) (tick : TickId) (n source : Fin 16) (g : Segment) (v1 : Int) (h : p s) :
    p (s.stageB cc tick n source g v1).1 := by
  unfold State.stageB
  simp only []
  split
  · exact h
  · rename_i r _
    have hclamp : p (if (g.place r.value).clamped then s.raiseTableClamp n tick r.value else s) := by
      split
      · exact kept.raiseFault _ _ h
      · exact h
    split
    · exact kept.setCorr _ _ hclamp
    · exact kept.raiseFault _ _ (kept.countBy _ _ _ hclamp)

theorem fieldStep (cc : CloseContext) (t : OpenTick) (slots : Vector Slot 16) (x : Correcting) (n : Fin 16)
    (h : p x.state) : p (fieldStep cc t slots x n).state := by
  unfold Machine.fieldStep
  simp only []
  split
  · split
    · exact h
    · exact h
    · split
      · exact kept.stageB cc t.id n _ _ _ h
      all_goals exact h
  · exact h

theorem correct (cc : CloseContext) (t : OpenTick) (slots : Vector Slot 16) (h : p s) : p (s.correct cc t slots).state :=
  foldl_keeps (fun x : Correcting => p x.state) _ (fun x n => kept.fieldStep cc t slots x n) _ _
    (foldl_keeps (fun x : Correcting => p x.state) _ (fun x n => kept.temperatureStep cc t slots x n) _ _
      (kept.setCorr _ _ h))

theorem combine (d : TriadDescriptor) (k : Fin 2) (tick : TickId) (samples : Vector CorrectedSample 16) (h : p s) :
    p (s.combine d k tick samples).1 := by
  unfold State.combine
  simp only []
  split
  · exact foldl_keeps p _ (fun u _ hu => kept.raiseFault _ _ (kept.countBy u _ _ hu)) _ _ h
  · exact h

theorem countScreened (k : Fin 2) (tick : TickId) (r : Screened) (h : p s) : p (s.countScreened k tick r) := by
  have hspikes : p (s.countBy (.spikes k) r.spikes) := kept.countBy _ _ _ h
  have hstepped : p (if r.stepped then (s.countBy (.spikes k) r.spikes).count (.fieldSteps k)
      else s.countBy (.spikes k) r.spikes) := by
    split
    · exact kept.countBy _ _ _ hspikes
    · exact hspikes
  unfold State.countScreened
  simp only []
  split
  · exact kept.raiseFault _ _ (kept.countBy _ _ _ hstepped)
  · exact hstepped

theorem prepareTriad (cc : CloseContext) (k : Fin 2) (h : p s) : p (s.prepareTriad cc k).state :=
  kept.countBy _ _ _ (kept.setScreens _ _ h)

theorem runTriad (cc : CloseContext) (k : Fin 2) (tick : TickId) (samples : Vector CorrectedSample 16) (h : p s) :
    p (s.runTriad cc k tick samples).state := by
  unfold State.runTriad
  simp only []
  split
  · exact kept.countScreened _ _ _ (kept.setScreens _ _ (kept.combine _ _ _ _ h))
  · exact h

theorem combineTriads (cc : CloseContext) (tick : TickId) (samples : Vector CorrectedSample 16) (h : p s) :
    p (s.combineTriads cc tick samples).1 :=
  kept.runTriad cc 1 tick samples (kept.runTriad cc 0 tick samples (kept.prepareTriad cc 1 (kept.prepareTriad cc 0 h)))

/-- A record that the output set lets through is offered (R136). -/
theorem offerData_if (on : Bool) (b : Body) (h : p s) : p (if on then s.offerData b else s) := by
  split
  · exact kept.offerData _ _ h
  · exact h

theorem formMinutes (c : Configuration) (second : Num32) (fuel : Nat) (h : p s) : p (s.formMinutes c second fuel) := by
  induction fuel generalizing s with
  | zero => exact h
  | succ fuel ih =>
    unfold State.formMinutes
    split
    · exact h
    · split
      · exact ih (kept.offerData_if _ _ (kept.setDec _ _ h))
      · exact h

theorem computeSecond (c : Configuration) (e : PendingSecond) (h : p s) : p (State.computeSecond c s e) := by
  unfold State.computeSecond
  simp only []
  split
  · exact kept.offerData_if _ _ (kept.setDec _ _ h)
  · exact kept.formMinutes c _ _ (kept.setDec _ _ (kept.offerData_if _ _ (kept.setDec _ _ h)))

theorem decimate (cc : CloseContext) (tick : TickId) (samples : Vector CorrectedSample 16) (strangers : Bool × Bool)
    (decisions : List Decision × List Decision) (h : p s) : p (s.decimate cc tick samples strangers decisions) :=
  foldl_keeps p _ (fun _ e hu => kept.computeSecond cc.config e hu) _ _ (kept.setDec _ _ h)

/-- Every stage of a close keeps the property (R44). -/
theorem closeTick (cc : CloseContext) (t : OpenTick) (h : p s) : p (s.closeTick cc t) := by
  simp only [State.closeTick]
  refine kept.decimate cc t.id _ _ _ ?_
  refine kept.combineTriads cc t.id _ ?_
  exact kept.correct cc t _ (kept.revalidate cc.config t h)

end KeptByCloseParts

/-! ### The conditions of a close (R168, R182, R188) -/

/-- The conditions that a close may set: FAULT_CAPTURED and RECORD_LOSS. -/
def closeConditions : ConditionSet := BitVec.ofNat 14 (2 ^ 9 + 2 ^ 10)

/-- To a set of conditions nothing was added but FAULT_CAPTURED and RECORD_LOSS, and nothing was taken from it. -/
def GrownByClose (before after : ConditionSet) : Prop :=
  after ||| closeConditions = before ||| closeConditions ∧ after &&& before = before

variable {before : ConditionSet}

theorem GrownByClose.refl (before : ConditionSet) : GrownByClose before before := ⟨rfl, BitVec.and_self⟩

theorem GrownByClose.or_mask {after : ConditionSet} (h : GrownByClose before after) {c : Condition}
    (hc : c.mask ||| closeConditions = closeConditions) : GrownByClose before (after ||| c.mask) := by
  obtain ⟨hadded, hkept⟩ := h
  refine ⟨by rw [BitVec.or_assoc, hc, hadded], ?_⟩
  rw [BitVec.and_or_distrib_right, hkept]
  ext i hi
  simp

/-- A lost record sets RECORD_LOSS (R167). -/
theorem GrownByClose.loseRecord (h : GrownByClose before s.status.conditions) (b : Body) :
    GrownByClose before (s.loseRecord b).status.conditions := by
  cases b with
  | response r => exact h
  | second r => exact h.or_mask (c := .recordLoss) (by decide)
  | minute r => exact h.or_mask (c := .recordLoss) (by decide)
  | event r => exact h.or_mask (c := .recordLoss) (by decide)
  | notice r => exact h.or_mask (c := .recordLoss) (by decide)

theorem GrownByClose.offerData (h : GrownByClose before s.status.conditions) (b : Body) :
    GrownByClose before (s.offerData b).status.conditions := by
  unfold State.offerData
  split
  · exact h
  · split
    · unfold State.displace
      split
      · rename_i r rest _
        exact GrownByClose.loseRecord (s := s.setLink { s.link with output := s.link.sendingPart ++ rest }) h (.second r)
      · exact h.loseRecord _
    all_goals exact h.loseRecord _

/-- A frozen capture record sets FAULT_CAPTURED (R188). -/
theorem GrownByClose.raiseFault (h : GrownByClose before s.status.conditions) (f : RaisedFault) :
    GrownByClose before (s.raiseFault f).status.conditions := by
  unfold State.raiseFault
  simp only []
  split
  · refine GrownByClose.offerData ?_ _
    exact h.or_mask (c := .faultCaptured) (by decide)
  · exact h

theorem grownByClose_kept (before : ConditionSet) : KeptByCloseParts fun s => GrownByClose before s.status.conditions where
  setCorr _ _ h := h
  setScreens _ _ h := h
  setDec _ _ h := h
  countBy _ _ _ h := h
  raiseFault _ f h := h.raiseFault f
  offerData _ b h := h.offerData b

/-! ### The end of a close (R43, R50) -/

/-- The closed tick leaves the close queue, and the next one there begins its close with what is then in force. -/
theorem State.endClose_asm {t : OpenTick} {rest : List OpenTick} (hq : s.asm.closeQueue = t :: rest) :
    s.endClose.asm = { s.asm with
      closeQueue := rest
      closing := if rest = [] then none else some ⟨s.staging.active, s.staging.generation, s.tb.markCount,
        #v[s.screens[0].pendingClear, s.screens[1].pendingClear], s.tb.clock⟩ } := by
  rw [State.endClose_eq hq, closeBegun]
  cases rest <;> rfl

/-- Two links that differ in the output queue and the accumulators alone. -/
theorem Link.of_rest_eq {l m : Link} (h : l.rest = m.rest) :
    { l with output := m.output, secondsLost := m.secondsLost, minutesLost := m.minutesLost } = m :=
  congrArg (fun x : Link => { x with output := m.output, secondsLost := m.secondsLost, minutesLost := m.minutesLost }) h

/-- The masks and the code-2 interval belong to what stays of a status unit. -/
theorem StatusUnit.of_rest_eq {a b : StatusUnit} (h : a.rest = b.rest) :
    a.alertMask = b.alertMask ∧ a.captureMask = b.captureMask ∧ a.code2 = b.code2 := by
  unfold StatusUnit.rest at h
  injection h with _ halert _ _ _ hcapture hcode2
  exact ⟨halert, hcapture, hcode2⟩

/-- Settles O26: the end of the close gives the close queue and the next close; of every other block the stages of the
close keep what the statement names. -/
theorem tickCloseEndsTheClose : Obligations.TickCloseEndsTheClose := by
  intro n cc t rest s hc hq hp
  have hasm : ((passed s n).closeTick cc t).asm = s.asm := State.closeTick_asm _ cc t
  have hend := State.endClose_asm ((congrArg Assembler.closeQueue hasm).trans hq)
  have hlink : ((passed s n).closeTick cc t).endClose.link.rest = s.link.rest := by simp [passed]
  have hstatus : ((passed s n).closeTick cc t).endClose.status.rest = s.status.rest := by simp [passed]
  have hconditions : GrownByClose s.status.conditions ((passed s n).closeTick cc t).endClose.status.conditions := by
    rw [State.endClose_status]
    exact (grownByClose_kept _).closeTick cc t (GrownByClose.refl _)
  rw [State.closeTick_staging, State.closeTick_tb, hasm] at hend
  refine ⟨_, exec_tickClose hc hq hp, ?_⟩
  rw [hend]
  refine ⟨rfl, fun h => if_pos h, fun h => ?_, rfl, rfl, rfl, ?_⟩
  · simp only [if_neg h, State.endClose_screens]
    rfl
  obtain ⟨hadded, hkept⟩ := hconditions
  refine ⟨?_, ?_, ?_, ?_, ?_, ?_, ?_, ?_, ?_, Link.of_rest_eq hlink, hadded, hkept, StatusUnit.of_rest_eq hstatus⟩
  all_goals simp [passed]

end Sys2Proof.Machine
end

section
/-! PROOFS. The triad combination step: O35 (R44, R97, R101 to R103, R109 to R111). -/

namespace Sys2Proof.Machine

open Sys2Proof.Claims

variable {s : State} {sc : Screen} {d : TriadDescriptor} {cc : CloseContext} {k : Fin 2}

/-! ### The axis check (R110) -/

/-- A screen built under the axes in force keeps its state, and is bound to them. -/
theorem Screen.axisCheck_of_own (h : foreign sc d = false) :
    sc.axisCheck d = { sc with binding := if d.enabled then some d.axes else none } := by
  unfold Screen.axisCheck
  rw [Screen.stranger_eq, h]
  rfl

/-- A screen built under other axes, or of a disabled triad, is cleared. -/
theorem Screen.axisCheck_of_foreign (h : foreign sc d = true) :
    sc.axisCheck d = { sc with
      reference := none, suspect := none, run := 0, binding := if d.enabled then some d.axes else none } := by
  unfold Screen.axisCheck
  rw [Screen.stranger_eq, h]
  rfl

/-! ### The pending clear (R111) -/

theorem Screen.pendingClearStep_not_waiting (sc : Screen) : sc.pendingClearStep false = ⟨sc, [], 0, false, false⟩ := rfl

theorem Screen.pendingClearStep_of_clear (h : sc.suspect = none) :
    sc.pendingClearStep true = ⟨{ sc.clear with pendingClear := false }, [], 0, false, false⟩ := by
  unfold Screen.pendingClearStep
  rw [if_pos rfl, h]

/-- A held suspect becomes a spike. -/
theorem Screen.pendingClearStep_of_suspect {p : Suspect} (h : sc.suspect = some p) :
    sc.pendingClearStep true = ⟨{ sc.clear with pendingClear := false }, [p.spike], 1, false, false⟩ := by
  unfold Screen.pendingClearStep
  rw [if_pos rfl, h]

/-! ### A triad prepared (R110, R111) -/

/-- A count of no events changes nothing. -/
theorem State.countBy_zero (s : State) (c : Counter) : s.countBy c 0 = s := by
  unfold State.countBy
  rw [satAdd_zero, Fin.getElem_fin, Vector.set_getElem_self]
  rfl

/-- A triad whose preparation counts no spike has its screen replaced alone. -/
theorem State.prepareTriad_of_quiet {x : Screen}
    (h : ((s.screens[k]).axisCheck (cc.config.triads[k])).pendingClearStep (cc.clears[k]) = ⟨x, [], 0, false, false⟩) :
    s.prepareTriad cc k = ⟨s.setScreen k x, []⟩ := by
  unfold State.prepareTriad
  simp only [h, State.countBy_zero]

/-- Without a pending clear the axis check alone prepares a triad. -/
theorem State.prepareTriad_of_no_clear (h : cc.clears[k] = false) :
    s.prepareTriad cc k = ⟨s.setScreen k ((s.screens[k]).axisCheck (cc.config.triads[k])), []⟩ := by
  apply State.prepareTriad_of_quiet
  rw [h, Screen.pendingClearStep_not_waiting]

/-- A pending clear of a triad without a suspect after its axis check. -/
theorem State.prepareTriad_of_clear (h : cc.clears[k] = true)
    (hsuspect : foreign (s.screens[k]) (cc.config.triads[k]) = true ∨ (s.screens[k]).suspect = none) :
    s.prepareTriad cc k = ⟨s.setScreen k { s.screens[k] with
      reference := none, suspect := none, run := 0, pendingClear := false
      binding := if (cc.config.triads[k]).enabled then some (cc.config.triads[k]).axes else none }, []⟩ := by
  apply State.prepareTriad_of_quiet
  rw [h]
  cases hf : foreign (s.screens[k]) (cc.config.triads[k]) with
  | true =>
    rw [Screen.axisCheck_of_foreign hf]
    exact Screen.pendingClearStep_of_clear rfl
  | false =>
    rw [Screen.axisCheck_of_own hf]
    exact Screen.pendingClearStep_of_clear (hsuspect.resolve_left (Bool.eq_false_iff.mp hf))

/-- A pending clear rejects a held suspect as a spike. -/
theorem State.prepareTriad_of_suspect {p : Suspect} (h : cc.clears[k] = true)
    (hf : foreign (s.screens[k]) (cc.config.triads[k]) = false) (hp : (s.screens[k]).suspect = some p) :
    s.prepareTriad cc k = ⟨counted (s.setScreen k { s.screens[k] with
      reference := none, suspect := none, run := 0, pendingClear := false
      binding := if (cc.config.triads[k]).enabled then some (cc.config.triads[k]).axes else none }) (.spikes k),
      [p.spike]⟩ := by
  have hstep := Screen.pendingClearStep_of_suspect (sc := (s.screens[k]).axisCheck (cc.config.triads[k])) (p := p)
    (by rw [Screen.axisCheck_of_own hf]; exact hp)
  unfold State.prepareTriad
  simp only [h, hstep]
  rw [Screen.axisCheck_of_own hf]
  rfl

/-! ### A triad run (R97, R101 to R103) -/

theorem Screen.clearStep_quiet (sc : Screen) (limit : Nat) (tick : TickId) (o : TickOutcome) :
    (sc.clearStep limit tick o).spikes = 0 ∧ (sc.clearStep limit tick o).stepped = false ∧
      (sc.clearStep limit tick o).reseeded = false := by
  unfold Screen.clearStep
  split
  · exact ⟨rfl, rfl, rfl⟩
  · simp only []
    split_ifs <;> exact ⟨rfl, rfl, rfl⟩

/-- In state CLEAR, and with the screen off, stage D counts nothing and raises nothing (R102, R103). -/
theorem Screen.stageD_quiet {limit : Nat} (h : sc.suspect = none ∨ limit = 0) (tick : TickId) (o : TickOutcome) :
    (sc.stageD limit tick o).spikes = 0 ∧ (sc.stageD limit tick o).stepped = false ∧
      (sc.stageD limit tick o).reseeded = false := by
  have hclear (x : Screen) (l : Nat) := Screen.clearStep_quiet x l tick o
  unfold Screen.stageD
  split
  · exact hclear sc limit
  · rename_i p hp
    rw [if_pos (h.resolve_left (by simp [hp]))]
    exact hclear (sc.acceptedAs p.vector) 0

theorem State.countScreened_of_quiet {r : Screened} (h : r.spikes = 0 ∧ r.stepped = false ∧ r.reseeded = false)
    (tick : TickId) : s.countScreened k tick r = s := by
  obtain ⟨hspikes, hstepped, hreseeded⟩ := h
  unfold State.countScreened
  simp only [hspikes, hstepped, hreseeded, State.countBy_zero]
  rfl

theorem State.runTriad_of_disabled (h : (cc.config.triads[k]).enabled = false) (tick : TickId)
    (samples : Vector CorrectedSample 16) : s.runTriad cc k tick samples = ⟨s, []⟩ := by
  unfold State.runTriad
  exact if_neg (Bool.eq_false_iff.mp h)

/-- An enabled triad runs stage C, then stage D on its outcome. -/
theorem State.runTriad_of_enabled (h : (cc.config.triads[k]).enabled = true) {tick : TickId}
    {samples : Vector CorrectedSample 16} {u : State} {o : TickOutcome}
    (hu : s.combine (cc.config.triads[k]) k tick samples = (u, o)) :
    let r := (u.screens[k]).stageD (cc.config.triads[k]).limit tick o
    s.runTriad cc k tick samples = ⟨(u.setScreen k r.screen).countScreened k tick r, r.decisions⟩ := by
  unfold State.runTriad
  simp only [if_pos h, hu]

/-- Settles O35: the step is the model's own order, and each triad's preparation and run is one of the cases above. -/
theorem triadsPreparedAndRun : Obligations.TriadsPreparedAndRun := by
  intro s cc tick samples
  refine ⟨rfl, fun k => ⟨fun hno hown => ?_, fun hno hforeign => ?_, fun hclear hsuspect => ?_,
    fun p hclear hown hp => ?_, fun hoff => ?_, fun u o hon hu hquiet => ?_⟩⟩
  · rw [State.prepareTriad_of_no_clear hno, Screen.axisCheck_of_own hown]
    rfl
  · rw [State.prepareTriad_of_no_clear hno, Screen.axisCheck_of_foreign hforeign]
    rfl
  · exact State.prepareTriad_of_clear hclear hsuspect
  · exact State.prepareTriad_of_suspect hclear hown hp
  · exact State.runTriad_of_disabled hoff tick samples
  · intro r
    rw [State.runTriad_of_enabled hon hu, State.countScreened_of_quiet (Screen.stageD_quiet hquiet tick o)]
    rfl

end Sys2Proof.Machine
end

section
/-! PROOFS. Stage B of a channel: O31 (R52, R76, R77, R81, R82, R85, R88 to R90). -/

namespace Sys2Proof.Machine

open Sys2Proof.Claims

variable {s : State} {cc : CloseContext} {tick : TickId} {n source : Fin 16} {g : Segment} {v1 : Int}

/-! ### The faults of a lookup (R85, R89, R187, R188) -/

/-- A fault raised with a place for its notice, or with the capture record frozen already, is the statement's. -/
theorem State.raiseFault_eq_of_room (h : s.status.capture ≠ none ∨ s.link.output.length < 60) (f : RaisedFault) :
    s.raiseFault f = raised s f := by
  obtain hfrozen | hroom := h
  · unfold State.raiseFault raised
    simp only []
    rw [if_neg fun hc => hfrozen hc.1, if_neg fun hc => hfrozen hc.1]
    rfl
  · exact State.raiseFault_eq hroom f

/-- A raised fault takes a place in the output queue only by freezing the capture record. -/
theorem raised_room (h : s.link.output.length < 60) (f : RaisedFault) :
    (raised s f).status.capture ≠ none ∨ (raised s f).link.output.length < 60 := by
  unfold raised
  simp only []
  split
  · exact .inl (Option.some_ne_none f)
  · exact .inr h

@[simp] theorem raised_corr (f : RaisedFault) : (raised s f).corr = s.corr := by
  unfold raised; simp only []; split <;> rfl

@[simp] theorem raised_store (f : RaisedFault) : (raised s f).store = s.store := by
  unfold raised; simp only []; split <;> rfl

/-- The state after the placement of a held value: TABLE_CLAMP is raised when the lookup is clamped (R85). -/
def placed (s : State) (n : Fin 16) (tick : TickId) (value : Int) (clamped : Bool) : State :=
  if clamped then raised s ⟨.tableClamp, .channel n, tick.second, tick.index, .temperature value⟩ else s

theorem placed_corr (s : State) (n : Fin 16) (tick : TickId) (value : Int) (clamped : Bool) :
    (placed s n tick value clamped).corr = s.corr := by
  cases clamped
  · rfl
  · exact raised_corr _

theorem placed_store (s : State) (n : Fin 16) (tick : TickId) (value : Int) (clamped : Bool) :
    (placed s n tick value clamped).store = s.store := by
  cases clamped
  · rfl
  · exact raised_store _

theorem placed_room (h : s.link.output.length < 60) (n : Fin 16) (tick : TickId) (value : Int) (clamped : Bool) :
    (placed s n tick value clamped).status.capture ≠ none ∨ (placed s n tick value clamped).link.output.length < 60 := by
  cases clamped
  · exact .inr h
  · exact raised_room h _

/-- The model's TABLE_CLAMP is the one of `placed`. -/
theorem State.raiseTableClamp_eq (h : s.link.output.length < 60) (n : Fin 16) (tick : TickId) (value : Int) (clamped : Bool) :
    (if clamped then s.raiseTableClamp n tick value else s) = placed s n tick value clamped := by
  cases clamped
  · rfl
  · exact State.raiseFault_eq h _

/-! ### Stage B by its cases (R82, R85, R88 to R90) -/

theorem divRound_zero (mode : Rounding) : divRound mode 0 16777216 = 0 := by cases mode <;> rfl

/-- Without a held temperature the value of stage A stands (R82). -/
theorem State.stageB_of_absent (h : s.corr.held[source] = none) :
    s.stageB cc tick n source g v1 = (s, v1, DataFlag.tempAbsent.mask) := by
  unfold State.stageB
  simp only [h, applyCorrection, Int.mul_zero, divRound_zero, Int.add_zero]

/-- The flags of a present held temperature: TEMP_STALE beyond the limit of its channel, TABLE_CLAMP for a clamped lookup. -/
def heldFlags (cc : CloseContext) (source : Fin 16) (h : HeldTemperature) (clamped : Bool) : DataFlags :=
  let stale : DataFlags :=
    match (cc.config.channels[source]).staleness with
    | some limit => if limit < (cc.markCount - h.stamp).toNat then BitVec.ofNat 15 (2 ^ 4) else 0
    | none => 0
  if clamped then stale ||| BitVec.ofNat 15 (2 ^ 3) else stale

/-- The flags of the model are the statement's (R81, R85). -/
theorem heldFlags_eq (cc : CloseContext) (source : Fin 16) (h : HeldTemperature) (clamped : Bool) :
    DataFlag.tempStale.on (h.stale cc.markCount (cc.config.channels[source]).staleness) ||| DataFlag.tableClamp.on clamped =
      heldFlags cc source h clamped := by
  have hstale : DataFlag.tempStale.on (h.stale cc.markCount (cc.config.channels[source]).staleness) =
      match (cc.config.channels[source]).staleness with
      | some limit => if limit < (cc.markCount - h.stamp).toNat then BitVec.ofNat 15 (2 ^ 4) else 0
      | none => 0 := by
    cases (cc.config.channels[source]).staleness with
    | none => rfl
    | some limit =>
      simp only [HeldTemperature.stale, DataFlag.on, decide_eq_true_eq]
      rfl
  unfold heldFlags
  rw [hstale]
  cases clamped
  · exact BitVec.or_zero
  · rfl

section Held

variable {h : HeldTemperature} (hheld : s.corr.held[source] = some h) (hroom : s.link.output.length < 60)

include hheld hroom

/-- A successful lookup corrects the value and becomes the last good correction (R88, R90). -/
theorem State.stageB_of_good {o gain : Int}
    (hlookup : s.store.lookup g (cc.config.channels[n]).mode (g.place h.value) = .good o gain) :
    s.stageB cc tick n source g v1 =
      ((placed s n tick h.value (g.place h.value).clamped).setCorr
          { s.corr with lastGood := s.corr.lastGood.set n (some ⟨o, gain, g, source⟩) },
        applyCorrection (cc.config.channels[n]).mode v1 o gain, heldFlags cc source h (g.place h.value).clamped) := by
  unfold State.stageB
  simp only [hheld, State.raiseTableClamp_eq hroom, placed_store, placed_corr, hlookup, heldFlags_eq]

/-- A lookup that uses a BAD entry is counted, raises STORE_ERROR and falls back (R89). -/
theorem State.stageB_of_bad {a : Nat} (hbad : s.store.firstBad (g.addresses (g.place h.value)) = some a) :
    s.stageB cc tick n source g v1 =
      (raised (counted (placed s n tick h.value (g.place h.value).clamped) .storeErrors)
          ⟨.storeError, .channel n, tick.second, tick.index, .address a⟩,
        applyCorrection (cc.config.channels[n]).mode v1 (fallback (s.corr.lastGood[n])).1 (fallback (s.corr.lastGood[n])).2,
        heldFlags cc source h (g.place h.value).clamped ||| DataFlag.storeError.mask) := by
  have hlookup : s.store.lookup g (cc.config.channels[n]).mode (g.place h.value) = .bad a := by
    unfold Store.lookup
    rw [hbad]
  have hraise (u : State) (hu : u.status.capture ≠ none ∨ u.link.output.length < 60) : u.raiseStoreError n tick a =
      raised (counted u .storeErrors) ⟨.storeError, .channel n, tick.second, tick.index, .address a⟩ :=
    State.raiseFault_eq_of_room (s := u.count .storeErrors) hu _
  unfold State.stageB
  simp only [hheld, State.raiseTableClamp_eq hroom, placed_store, placed_corr, hlookup, heldFlags_eq,
    hraise _ (placed_room hroom n tick h.value _)]

end Held

/-! ### A field channel in a close (R52, R76, R77) -/

variable {t : OpenTick} {slots : Vector Slot 16} {acc : Correcting}

/-- The second pass leaves a disabled channel, a TEMPERATURE channel, and one whose slot is EMPTY (R52, R76). -/
theorem fieldStep_of_idle (h : (cc.config.channels[n]).enabled = false ∨ (cc.config.channels[n]).kind = .temperature ∨
    slots[n] = .empty) : fieldStep cc t slots acc n = acc := by
  unfold fieldStep
  simp only []
  split
  · rename_i hfield
    simp only [Bool.and_eq_true, bne_iff_ne] at hfield
    obtain ⟨hon, hkind⟩ := hfield
    obtain hoff | htemperature | hempty := h
    · exact absurd (hoff.symm.trans hon) Bool.false_ne_true
    · exact absurd htemperature hkind
    · rw [hempty]
  · rfl

/-- The flags of a MISSING slot are the statement's (R48, R76). -/
theorem missingFlags_eq (o f : Bool) :
    missingFlags o f = BitVec.ofNat 15 ((if o then 2 ^ 8 else 0) + (if f then 2 ^ 9 else 0)) := by
  cases o <;> cases f <;> rfl

section Field

variable (hon : (cc.config.channels[n]).enabled = true) (hkind : (cc.config.channels[n]).kind ≠ .temperature)

include hon hkind

theorem fieldStep_of_missing {o f : Bool} {p : Port} {a : BitVec 4} (hslot : slots[n] = .missing o f p a) :
    fieldStep cc t slots acc n = ⟨acc.state, acc.samples.set n ⟨none, missingFlags o f⟩⟩ := by
  unfold fieldStep
  simp only [hon, bne_iff_ne.mpr hkind, Bool.and_self, if_true, hslot]

/-- A FILLED slot without a temperature source or a segment takes the value of stage A (R77, R82). -/
theorem fieldStep_of_uncorrected {counts : Int} {p : Port} {a : BitVec 4} (hslot : slots[n] = .filled counts p a)
    (hnone : (cc.config.channels[n]).tempSource = none ∨ (cc.config.channels[n]).segment = none) :
    fieldStep cc t slots acc n =
      ⟨acc.state, acc.samples.set n ⟨some ((cc.config.channels[n]).stageA counts), 0⟩⟩ := by
  unfold fieldStep
  simp only [hon, bne_iff_ne.mpr hkind, Bool.and_self, if_true, hslot]
  obtain hsource | hsegment := hnone
  · rw [hsource]
    cases (cc.config.channels[n]).segment <;> rfl
  · rw [hsegment]
    cases (cc.config.channels[n]).tempSource <;> rfl

/-- A FILLED slot with both goes through stage B (R77, R82). -/
theorem fieldStep_of_corrected {counts : Int} {p : Port} {a : BitVec 4} (hslot : slots[n] = .filled counts p a)
    (hsource : (cc.config.channels[n]).tempSource = some source) (hsegment : (cc.config.channels[n]).segment = some g) :
    let r := acc.state.stageB cc t.id n source g ((cc.config.channels[n]).stageA counts)
    fieldStep cc t slots acc n = ⟨r.1, acc.samples.set n ⟨some r.2.1, r.2.2⟩⟩ := by
  unfold fieldStep
  simp only [hon, bne_iff_ne.mpr hkind, Bool.and_self, if_true, hslot, hsource, hsegment]

end Field

/-- Settles O31: the three outcomes of stage B, and when a close runs it. -/
theorem stageBCorrectsOrFallsBack : Obligations.StageBCorrectsOrFallsBack := by
  refine ⟨fun s cc tick n source g v1 hroom => ⟨State.stageB_of_absent, fun h hheld => ⟨fun o gain hlookup => ?_,
    fun a hbad => ?_⟩⟩, fun cc t slots acc n => ⟨fieldStep_of_idle, fun hon hkind => ⟨fun o f p a hslot => ?_,
    fun counts p a hslot => ⟨?_, fun source g hsource hsegment => ?_⟩⟩⟩⟩
  · exact State.stageB_of_good hheld hroom hlookup
  · rw [State.stageB_of_bad hheld hroom hbad]
    cases s.corr.lastGood[n] <;> rfl
  · rw [fieldStep_of_missing hon hkind hslot, missingFlags_eq]
  · exact fieldStep_of_uncorrected hon hkind hslot
  · exact fieldStep_of_corrected hon hkind hslot hsource hsegment

end Sys2Proof.Machine
end

section
/-! PROOFS. Protection of the coefficient store: O54 (R65 to R70, R72). -/

namespace Sys2Proof.Machine

open Sys2Proof.Claims

variable {s : State}

/-! ### The protected set (R65, R70) -/

theorem ChannelDescriptor.protects_iff (d : ChannelDescriptor) (a : Nat) :
    d.protects a = true ↔ d.enabled = true ∧ ∃ g, d.segment = some g ∧ g.base ≤ a ∧ a < g.base + g.length := by
  unfold ChannelDescriptor.protects
  cases d.segment <;> simp [Segment.covers]

theorem protectedBy_iff (a : Nat) (n : Fin 16) :
    protectedBy s a n ↔ (s.staging.active.channels[n]).protects a = true :=
  (ChannelDescriptor.protects_iff _ a).symm

/-- No address of a list is protected exactly when the refusal finds none (R70). -/
theorem Configuration.firstProtected_eq_none_iff (c : Configuration) (l : List Nat) :
    c.firstProtected l = none ↔ ∀ a ∈ l, ∀ n : Fin 16, ¬(c.channels[n]).protects a = true := by
  simp [Configuration.firstProtected, Configuration.protector, mem_allChannels]

/-! ### The two commands that write the store (R67, R68, R72) -/

/-- A store write keeps every entry that is protected and every entry outside the addresses it writes. -/
theorem State.writeStore_read_of_protected {a : Nat} {n : Fin 16} (h : protectedBy s a n) {l : List Nat} {st : Store}
    (hother : a ∉ l → st.read a = s.store.read a) (data : List Byte) :
    (s.writeStore l st data).state.store.read a = s.store.read a := by
  unfold State.writeStore
  split
  · rfl
  · split
    · rfl
    · rename_i hnone
      refine hother fun ha => ?_
      exact (s.staging.active.firstProtected_eq_none_iff l).mp hnone a ha n ((protectedBy_iff a n).mp h)

theorem mem_runAddresses (start count a : Nat) : a ∈ runAddresses start count ↔ start ≤ a ∧ a < start + count := by
  simp only [runAddresses, List.mem_map, List.mem_range]
  constructor
  · rintro ⟨i, hi, rfl⟩
    omega
  · rintro ⟨hlow, hhigh⟩
    exact ⟨a - start, by omega, by omega⟩

theorem judgeStoreWrite_read_of_protected {a : Nat} {n : Fin 16} (h : protectedBy s a n) (q : Request) :
    (judgeStoreWrite q s).state.store.read a = s.store.read a := by
  unfold judgeStoreWrite
  simp only []
  split
  · refine State.writeStore_read_of_protected h (fun ha => Store.read_writeRun_other _ _ ?_) _
    rw [mem_runAddresses] at ha
    rw [storeEntriesAt_length]
    omega
  · rfl

theorem judgeStorePoison_read_of_protected {a : Nat} {n : Fin 16} (h : protectedBy s a n) (q : Request) :
    (judgeStorePoison q s).state.store.read a = s.store.read a := by
  unfold judgeStorePoison
  simp only []
  split
  · exact State.writeStore_read_of_protected h
      (fun ha => Store.read_write_other _ _ (fun heq => ha (List.mem_singleton.mpr heq))) _
  · rfl

/-- A request row keeps the entry at an address when its judgement of the state without the request does. -/
theorem State.take_store_read (a : Nat) (name : RequestName) {judge : Request → State → Reply}
    (hj : ∀ q, (judge q s.dropRequest).state.store.read a = s.store.read a) :
    (s.take name judge).store.read a = s.store.read a := by
  rcases s.take_cases name judge with heq | ⟨q, _, _, ⟨_, heq⟩ | ⟨_, heq⟩⟩
  · rw [heq]
  · rw [heq, Reply.finish_store, hj]
  · rw [heq, Reply.finish_store, Reply.refuse_state, State.dropRequest_store]

/-! ### The other commands -/

/-- An outcome whose next state has the store of s. -/
def KeepsStore (s : State) (o : Host.Outcome State Fault Refusal) : Prop := Leaves (fun t => t.store = s.store) o

theorem keepsStore_next {t : State} (h : t.store = s.store) : KeepsStore s (.next t) := (leaves_next _ _).mpr h

/-- A request row whose judgement leaves the store. -/
theorem keepsStore_take (name : RequestName) {judge : Request → State → Reply}
    (hj : ∀ q s, (judge q s).state.store = s.store) : KeepsStore s (.next (s.take name judge)) :=
  keepsStore_next (State.take_frame State.store (by simp) (by simp) (by simp) s name judge hj)

/-- A request row whose judgement only reads. -/
theorem keepsStore_read (name : RequestName) {judge : Request → State → Reply} (hj : ∀ q s, (judge q s).state = s) :
    KeepsStore s (.next (s.take name judge)) :=
  keepsStore_take name fun q s => congrArg State.store (hj q s)

theorem execStartUpComplete_keepsStore (n : Nat) : KeepsStore s (execStartUpComplete n s) := by
  unfold execStartUpComplete
  split <;> exact keepsStore_next (by simp)

theorem execMark_keepsStore : KeepsStore s (execMark s) := by
  unfold execMark
  split <;> exact keepsStore_next (by simp)

theorem execTick_keepsStore : KeepsStore s (execTick s) := by
  unfold execTick
  split <;> exact keepsStore_next (by simp)

theorem execStrobeEnd_keepsStore : KeepsStore s (execStrobeEnd s) := by
  unfold execStrobeEnd
  split <;> exact keepsStore_next (by simp)

theorem execMissingMarkCheck_keepsStore : KeepsStore s (execMissingMarkCheck s) := by
  unfold execMissingMarkCheck
  simp only []
  split_ifs <;> exact keepsStore_next (by simp)

theorem execPpsEdge_keepsStore (n : Nat) : KeepsStore s (execPpsEdge n s) := by
  unfold execPpsEdge
  simp only []
  split_ifs <;> exact keepsStore_next (by simp)

theorem execFrameAbandon_keepsStore (p : Port) : KeepsStore s (execFrameAbandon p s) := by
  unfold execFrameAbandon
  split
  · exact keepsStore_next rfl
  · split
    · exact keepsStore_next rfl
    · simp only []
      split <;> exact keepsStore_next (by simp)

theorem execEntryTake_keepsStore : KeepsStore s (execEntryTake s) := by
  unfold execEntryTake
  split <;> exact keepsStore_next (by simp)

theorem execTickClose_keepsStore (n : Nat) : KeepsStore s (execTickClose n s) := by
  unfold execTickClose
  split <;> exact keepsStore_next (by simp)

theorem execUpstreamFramingError_keepsStore (n : Nat) : KeepsStore s (execUpstreamFramingError n s) := by
  unfold execUpstreamFramingError
  simp only []
  split <;> exact keepsStore_next (by simp)

theorem execUpstreamGapAbandon_keepsStore : KeepsStore s (execUpstreamGapAbandon s) := by
  unfold execUpstreamGapAbandon
  split <;> exact keepsStore_next (by simp)

theorem execRequestUnknownCode_keepsStore : KeepsStore s (execRequestUnknownCode s) := by
  unfold execRequestUnknownCode
  split
  · exact keepsStore_next rfl
  · split <;> exact keepsStore_next (by simp)

theorem execSaveEnd_keepsStore (verified : Bool) (n : Nat) : KeepsStore s (execSaveEnd verified n s) := by
  unfold execSaveEnd
  split
  · exact keepsStore_next rfl
  · cases verified <;> exact keepsStore_next (by simp)

theorem execFrameStart_keepsStore : KeepsStore s (execFrameStart s) := by
  unfold execFrameStart
  split <;> exact keepsStore_next rfl

theorem execFrameSent_keepsStore (n : Nat) : KeepsStore s (execFrameSent n s) := by
  unfold execFrameSent
  split
  · split <;> exact keepsStore_next (by simp)
  · exact keepsStore_next rfl

theorem execLinkTrialExpiry_keepsStore : KeepsStore s (execLinkTrialExpiry s) := by
  unfold execLinkTrialExpiry
  split <;> exact keepsStore_next (by simp)

theorem execMarkerEdge_keepsStore (edge : Edge) (n : Nat) : KeepsStore s (execMarkerEdge edge n s) := by
  unfold execMarkerEdge
  simp only []
  split_ifs <;> exact keepsStore_next (by simp)

theorem execSecondMarkEnd_keepsStore : KeepsStore s (execSecondMarkEnd s) := by
  unfold execSecondMarkEnd
  split <;> exact keepsStore_next (by simp)

theorem execCode2IntervalEnd_keepsStore : KeepsStore s (execCode2IntervalEnd s) := by
  unfold execCode2IntervalEnd
  split <;> exact keepsStore_next (by simp)

/-- Every other command keeps the store. -/
theorem exec_keepsStore {c : Instr} (hon : c ≠ .powerOn) (hloss : c ≠ .powerLoss) (hwrite : c ≠ .storeWrite)
    (hpoison : c ≠ .storePoison) : KeepsStore s (exec c s) := by
  cases c with
  | powerOn => exact absurd rfl hon
  | startUpComplete n => exact execStartUpComplete_keepsStore n
  | mark => exact execMark_keepsStore
  | tick => exact execTick_keepsStore
  | strobeEnd => exact execStrobeEnd_keepsStore
  | missingMarkCheck => exact execMissingMarkCheck_keepsStore
  | ppsEdge n => exact execPpsEdge_keepsStore n
  | sampleFrameArrival p b n => exact keepsStore_next (State.onPortByte_store s p b n)
  | frameAbandon p => exact execFrameAbandon_keepsStore p
  | entryTake => exact execEntryTake_keepsStore
  | tickClose n => exact execTickClose_keepsStore n
  | upstreamFrameArrival b n => exact keepsStore_next (State.onLinkByte_store s b n)
  | upstreamLenReject b n => exact keepsStore_next (State.onLinkByte_store s b n)
  | upstreamFramingError n => exact execUpstreamFramingError_keepsStore n
  | upstreamGapAbandon => exact execUpstreamGapAbandon_keepsStore
  | requestUnknownCode => exact execRequestUnknownCode_keepsStore
  | ident => exact keepsStore_read _ judgeIdent_state
  | status => exact keepsStore_read _ judgeStatus_state
  | outputSet => exact keepsStore_take _ judgeOutputSet_store
  | linkRate => exact keepsStore_take _ judgeLinkRate_store
  | timeLabel => exact keepsStore_take _ judgeTimeLabel_store
  | timebaseSet => exact keepsStore_take _ judgeTimebaseSet_store
  | portReset => exact keepsStore_take _ judgePortReset_store
  | portEnable => exact keepsStore_take _ judgePortEnable_store
  | portSet => exact keepsStore_take _ judgePortSet_store
  | channelSet => exact keepsStore_take _ judgeChannelSet_store
  | channelGet => exact keepsStore_read _ judgeChannelGet_state
  | triadSet => exact keepsStore_take _ judgeTriadSet_store
  | triadGet => exact keepsStore_read _ judgeTriadGet_state
  | filterShape => exact keepsStore_take _ judgeFilterShape_store
  | filterTaps => exact keepsStore_take _ judgeFilterTaps_store
  | filterGet => exact keepsStore_read _ judgeFilterGet_state
  | discard => exact keepsStore_take _ judgeDiscard_store
  | commit => exact keepsStore_take _ judgeCommit_store
  | storeWrite => exact absurd rfl hwrite
  | storeRead => exact keepsStore_read _ judgeStoreRead_state
  | storePoison => exact absurd rfl hpoison
  | conditionsClear => exact keepsStore_take _ judgeConditionsClear_store
  | countersRead => exact keepsStore_read _ judgeCountersRead_state
  | countersClear => exact keepsStore_take _ judgeCountersClear_store
  | faultRead => exact keepsStore_read _ judgeFaultRead_state
  | faultRelease => exact keepsStore_take _ judgeFaultRelease_store
  | alertMaskSet => exact keepsStore_take _ judgeAlertMaskSet_store
  | captureMaskSet => exact keepsStore_take _ judgeCaptureMaskSet_store
  | lineSet => exact keepsStore_take _ judgeLineSet_store
  | markerSet => exact keepsStore_take _ judgeMarkerSet_store
  | save => exact keepsStore_take _ judgeSave_store
  | restart => exact keepsStore_take _ judgeRestart_store
  | lockSession => exact keepsStore_take _ judgeLockSession_store
  | fixPermanent => exact keepsStore_take _ judgeFixPermanent_store
  | saveEnd verified n => exact execSaveEnd_keepsStore verified n
  | frameStart => exact execFrameStart_keepsStore
  | frameSent n => exact execFrameSent_keepsStore n
  | holdInChange asserted n => exact keepsStore_next (State.elapse_store s n)
  | linkTrialExpiry => exact execLinkTrialExpiry_keepsStore
  | markerEdge edge n => exact execMarkerEdge_keepsStore edge n
  | secondMarkEnd => exact execSecondMarkEnd_keepsStore
  | code2IntervalEnd => exact execCode2IntervalEnd_keepsStore
  | sampleFrameByte p b n => exact keepsStore_next (State.onPortByte_store s p b n)
  | upstreamFrameByte b n => exact keepsStore_next (State.onLinkByte_store s b n)
  | powerLoss => exact absurd rfl hloss

/-- Settles O54: the two requests that write the store keep its protected entries, every other command keeps the store whole. -/
theorem protectedEntriesKeep : Obligations.ProtectedEntriesKeep := by
  intro c s t a n hexec hon hloss hprotected
  have hdropped : protectedBy s.dropRequest a n := hprotected
  by_cases hwrite : c = .storeWrite
  · subst hwrite
    cases hexec
    exact State.take_store_read a _ fun q => judgeStoreWrite_read_of_protected hdropped q
  · by_cases hpoison : c = .storePoison
    · subst hpoison
      cases hexec
      exact State.take_store_read a _ fun q => judgeStorePoison_read_of_protected hdropped q
    · exact congrArg (Store.read · a) (exec_keepsStore hon hloss hwrite hpoison t hexec)

end Sys2Proof.Machine
end

section
/-! PROOFS. Numbers and descriptors as bytes, written and read back: O50 (R57, R59, R60, R62, R95, R147, R181). -/

namespace Sys2Proof.Machine

open Sys2Proof.Claims

/-! ### Bytes that stand at a place (R181) -/

/-- The bytes x stand in l from byte i on. -/
def Stands (l : List Byte) (i : Nat) (x : List Byte) : Prop := x <+: l.drop i

section Places

variable {l x y : List Byte} {i n : Nat}

/-- Items one after the other each stand at their place; the second place is a fact of the lengths at hand. -/
theorem Stands.split {j : Nat} (h : Stands l i (x ++ y)) (hj : i + x.length = j := by simp [natBytes_length]) :
    Stands l i x ∧ Stands l j y := by
  obtain ⟨post, hpost⟩ := h
  refine ⟨⟨y ++ post, by rw [← hpost, List.append_assoc]⟩, post, ?_⟩
  rw [← hj, ← List.drop_drop, ← hpost, List.append_assoc, List.drop_left]

theorem Stands.byteAt {b : Byte} (h : Stands l i (b :: x)) : byteAt l i = b := by
  obtain ⟨post, hpost⟩ := h
  have hhead : (l.drop i)[0]? = some b := by rw [← hpost]; rfl
  rw [List.getElem?_drop, Nat.add_zero] at hhead
  rw [Machine.byteAt, hhead, Option.getD_some]

theorem Stands.bytesAt (h : Stands l i x) (hx : x.length = n) : bytesAt l i n = x := by
  obtain ⟨post, hpost⟩ := h
  rw [Machine.bytesAt, ← hpost, ← hx, List.take_left]

/-- A choice, or a number of one byte. -/
theorem Stands.position {v : Nat} (h : Stands l i (natBytes 1 v)) : Machine.byteAt l i = BitVec.ofNat 8 v :=
  h.byteAt.trans (congrArg _ (Nat.div_one v))

theorem Stands.natAt {v : Nat} (h : Stands l i (natBytes n v)) (hv : v < 256 ^ n) : natAt l i n = v := by
  rw [Machine.natAt, h.bytesAt (natBytes_length n v), bytesNat_natBytes hv]

/-- A signed number written in enough bytes is read back (R181). -/
theorem bytesInt_intBytes {v : Int} (hlow : -(256 ^ n : Nat) ≤ 2 * v) (hhigh : 2 * v < (256 ^ n : Nat)) :
    bytesInt (intBytes n v) = v := by
  have hpos : 0 < 256 ^ n := Nat.pow_pos (by decide)
  have hnat : bytesNat (intBytes n v) = (v % (256 ^ n : Nat)).toNat := bytesNat_natBytes (by omega)
  unfold bytesInt
  simp only [hnat, intBytes_length]
  generalize 256 ^ n = m at *
  by_cases hneg : v < 0
  · have hmod : v % m = v + m := by rw [← Int.add_emod_right, Int.emod_eq_of_lt (by omega) (by omega)]
    rw [hmod, if_neg (by omega)]
    omega
  · have hmod : v % m = v := Int.emod_eq_of_lt (by omega) (by omega)
    rw [hmod, if_pos (by omega)]
    omega

theorem Stands.intAt {v : Int} (h : Stands l i (intBytes n v)) (hlow : -(256 ^ n : Nat) ≤ 2 * v)
    (hhigh : 2 * v < (256 ^ n : Nat)) : intAt l i n = v := by
  rw [Machine.intAt, h.bytesAt (intBytes_length n v), bytesInt_intBytes hlow hhigh]

end Places

/-! ### Choices and numbers of one byte (R181) -/

theorem choiceAt_kind (k : Kind) : choiceAt kindChoice (BitVec.ofNat 8 k.position) = some k := by cases k <;> rfl

theorem choiceAt_portPosition (p : Port) : choiceAt portChoice (BitVec.ofNat 8 (portPosition p)) = some p := by cases p <;> rfl

theorem choiceAt_rounding (m : Rounding) : choiceAt roundingChoice (BitVec.ofNat 8 m.position) = some m := by cases m <;> rfl

theorem choiceAt_direction (d : Direction) : choiceAt directionChoice (BitVec.ofNat 8 d.position) = some d := by cases d <;> rfl

theorem choiceAt_first (b : Bool) : choiceAt boolChoice (BitVec.ofNat 8 (if b then 0 else 1)) = some b := by cases b <;> rfl

theorem channelAt_ofNat (n : Fin 16) : channelAt (BitVec.ofNat 8 n.val) = some n := by revert n; decide

theorem sourceAt_ofNat (a : BitVec 4) : sourceAt (BitVec.ofNat 8 a.toNat) = some a := by revert a; decide

/-! ### Segments and optional numbers (R57, R60) -/

section Items

variable {l : List Byte} {i : Nat}

/-- The bounds of R60, with a start temperature that two bytes hold. -/
def Segment.Fits (g : Segment) : Prop :=
  (2 ≤ g.length ∧ g.length ≤ 256) ∧ (1 ≤ g.step ∧ g.step ≤ 2000) ∧ (-32768 ≤ g.start ∧ g.start ≤ 32767) ∧ g.base ≤ 2047 ∧
    g.base + g.length ≤ 2048

theorem Segment.Fits.inRange {g : Segment} (h : g.Fits) : g.inRange = true := by
  obtain ⟨⟨hl2, hl256⟩, ⟨hs1, hs2000⟩, _, hbase, hend⟩ := h
  simp [Segment.inRange, *]

/-- A segment record is read back from its bytes. -/
theorem segmentAt_of_stands {g : Option Segment} (h : ∀ x, g = some x → x.Fits) (hl : Stands l i (segmentBytes g)) :
    segmentAt l i = some g := by
  unfold segmentAt
  cases g with
  | none => rw [show byteAt l i = 0 from hl.byteAt]; rfl
  | some x =>
    obtain ⟨⟨hl2, hl256⟩, ⟨hs1, hs2000⟩, ⟨hlow, hhigh⟩, hbase, hend⟩ := h x rfl
    obtain ⟨hl, hdirection⟩ := Stands.split (j := i + 9) hl
    obtain ⟨hl, hstep⟩ := hl.split (j := i + 7)
    obtain ⟨hl, hstart⟩ := hl.split (j := i + 5)
    obtain ⟨hl, hlength⟩ := hl.split (j := i + 3)
    obtain ⟨hl, hbase⟩ := hl.split (j := i + 1)
    simp only [show presence (byteAt l i) = some true from congrArg presence hl.byteAt, hdirection.position, choiceAt_direction,
      hbase.natAt (show x.base < 65536 by omega), hlength.natAt (show x.length < 65536 by omega),
      hstart.intAt (show -65536 ≤ 2 * x.start by omega) (show 2 * x.start < 65536 by omega),
      hstep.natAt (show x.step < 65536 by omega), (h x rfl).inRange, if_true]

/-- An optional channel number is read back from its bytes. -/
theorem optChannelAt_of_stands {c : Option (Fin 16)} (hl : Stands l i (optNatBytes 1 (c.map Fin.val))) :
    optChannelAt l i = some c := by
  unfold optChannelAt
  cases c with
  | none => rw [show byteAt l i = 0 from hl.byteAt]; rfl
  | some n =>
    obtain ⟨hl, hn⟩ := Stands.split (j := i + 1) hl
    simp only [show presence (byteAt l i) = some true from congrArg presence hl.byteAt, hn.position, channelAt_ofNat,
      Option.map_some]

/-- An optional number of two bytes is read back from its bytes. -/
theorem optNatAt_of_stands {v : Option Nat} (h : ∀ n, v = some n → n < 65536) (hl : Stands l i (optNatBytes 2 v)) :
    optNatAt l i = some v := by
  unfold optNatAt
  cases v with
  | none => rw [show byteAt l i = 0 from hl.byteAt]; rfl
  | some n =>
    obtain ⟨hl, hn⟩ := Stands.split (j := i + 1) hl
    simp only [show presence (byteAt l i) = some true from congrArg presence hl.byteAt, hn.natAt (h n rfl)]

end Items

/-! ### Descriptors (R57, R59, R62, R95, R147) -/

theorem stalenessOk_of {k : Kind} {v : Option Nat} (hpresent : k = .temperature → ∃ n, v = some n ∧ 1 ≤ n ∧ n ≤ 600)
    (habsent : k ≠ .temperature → v = none) : stalenessOk k v = true := by
  by_cases hk : k = .temperature
  · obtain ⟨n, rfl, h1, h600⟩ := hpresent hk
    simp [hk, stalenessOk, h1, h600]
  · rw [habsent hk]
    cases k
    · rfl
    · rfl
    · exact absurd rfl hk

theorem channelDescriptorAt_of_stands {d : ChannelDescriptor} (h : channelInRange d) {l : List Byte} (hl : Stands l 1 d.bytes) :
    channelDescriptorAt l 1 = some d := by
  obtain ⟨⟨hscale, hscale'⟩, ⟨hoffset, hoffset'⟩, hfits, hpresent, habsent⟩ := h
  have hlimit : ∀ n, d.staleness = some n → n < 65536 := by
    intro n hn
    by_cases hk : d.kind = .temperature
    · obtain ⟨m, hm, _, h600⟩ := hpresent hk
      rw [hn] at hm
      cases hm
      omega
    · simp [habsent hk] at hn
  obtain ⟨hl, hstaleness⟩ := hl.split (j := 24)
  obtain ⟨hl, hsegment⟩ := hl.split (j := 14)
  obtain ⟨hl, hsource⟩ := hl.split (j := 12)
  obtain ⟨hl, hmode⟩ := hl.split (j := 11)
  obtain ⟨hl, hoff⟩ := hl.split (j := 8)
  obtain ⟨hl, hsc⟩ := hl.split (j := 5)
  obtain ⟨hl, haddress⟩ := hl.split (j := 4)
  obtain ⟨hl, hport⟩ := hl.split (j := 3)
  obtain ⟨henabled, hkind⟩ := hl.split (j := 2)
  simp only [channelDescriptorAt, Nat.reduceAdd, henabled.position, choiceAt_first, hkind.position, choiceAt_kind, hport.position,
    choiceAt_portPosition, haddress.position, sourceAt_ofNat, hmode.position, choiceAt_rounding, optChannelAt_of_stands hsource,
    segmentAt_of_stands hfits hsegment, optNatAt_of_stands hlimit hstaleness, stalenessOk_of hpresent habsent,
    hsc.intAt (show -16777216 ≤ 2 * d.scale by omega) (show 2 * d.scale < 16777216 by omega),
    hoff.intAt (show -16777216 ≤ 2 * d.offset by omega) (show 2 * d.offset < 16777216 by omega), Option.bind_eq_bind,
    Option.bind_some, if_true]

/-- A vector is read back component by component. -/
theorem Stands.vector {l : List Byte} {i n : Nat} {v : Vec3} (h : Stands l i (v.bytes n)) :
    Stands l i (intBytes n v.x) ∧ Stands l (i + n) (intBytes n v.y) ∧ Stands l (i + 2 * n) (intBytes n v.z) := by
  obtain ⟨h, hz⟩ := Stands.split (j := i + 2 * n) h (by simp; omega)
  obtain ⟨hx, hy⟩ := h.split (j := i + n)
  exact ⟨hx, hy, hz⟩

theorem triadOffsetOk_of {v : Int} (hlow : -134217728 ≤ v) (hhigh : v ≤ 134217727) : triadOffsetOk v = true := by
  simp [triadOffsetOk, outside, hlow, hhigh]

/-- A matrix row is read back from its bytes. -/
theorem row_of_stands {l : List Byte} {i : Nat} {v : Vec3} (h : Stands l i (v.bytes 3))
    (hv : (-8388608 ≤ v.x ∧ v.x ≤ 8388607) ∧ (-8388608 ≤ v.y ∧ v.y ≤ 8388607) ∧ (-8388608 ≤ v.z ∧ v.z ≤ 8388607)) :
    (⟨intAt l i 3, intAt l (i + 3) 3, intAt l (i + 6) 3⟩ : Vec3) = v := by
  obtain ⟨hx, hy, hz⟩ := h.vector
  obtain ⟨⟨hx1, hx2⟩, ⟨hy1, hy2⟩, hz1, hz2⟩ := hv
  rw [hx.intAt (by omega) (by omega), hy.intAt (by omega) (by omega), hz.intAt (by omega) (by omega)]

theorem triadDescriptorAt_of_stands {d : TriadDescriptor} (h : triadInRange d) {l : List Byte} (hl : Stands l 1 d.bytes) :
    triadDescriptorAt l 1 = some d := by
  obtain ⟨hrowX, hrowY, hrowZ, ⟨⟨hx1, hx2⟩, ⟨hy1, hy2⟩, hz1, hz2⟩, hlimit⟩ := h
  obtain ⟨hl, hmode⟩ := hl.split (j := 47)
  obtain ⟨hl, hlim⟩ := hl.split (j := 44)
  obtain ⟨hl, hoffset⟩ := hl.split (j := 32)
  obtain ⟨hl, hz⟩ := hl.split (j := 23)
  obtain ⟨hl, hy⟩ := hl.split (j := 14)
  obtain ⟨hl, hx⟩ := hl.split (j := 5)
  obtain ⟨hl, haxisZ⟩ := hl.split (j := 4)
  obtain ⟨hl, haxisY⟩ := hl.split (j := 3)
  obtain ⟨henabled, haxisX⟩ := hl.split (j := 2)
  obtain ⟨hox, hoy, hoz⟩ := hoffset.vector
  have hvx := hox.intAt (by omega) (by omega)
  have hvy := hoy.intAt (by omega) (by omega)
  have hvz := hoz.intAt (by omega) (by omega)
  have hrx := row_of_stands hx hrowX
  have hry := row_of_stands hy hrowY
  have hrz := row_of_stands hz hrowZ
  simp only [Nat.reduceAdd, Nat.reduceMul] at hvx hvy hvz hrx hry hrz
  simp only [triadDescriptorAt, Nat.reduceAdd, henabled.position, choiceAt_first, haxisX.position, haxisY.position,
    haxisZ.position, channelAt_ofNat, hmode.position, choiceAt_rounding, hvx, hvy, hvz, hrx, hry, hrz, hlim.natAt hlimit,
    triadOffsetOk_of hx1 hx2, triadOffsetOk_of hy1 hy2, triadOffsetOk_of hz1 hz2, Bool.and_self, Option.bind_eq_bind,
    Option.bind_some, if_true]

/-- A list stands behind its first byte. -/
theorem stands_cons (b : Byte) (x : List Byte) : Stands (b :: x) 1 x := ⟨[], List.append_nil x⟩

/-- Settles O50: each field of a descriptor stands at its place and is read back from there. -/
theorem descriptorsSurviveTheWire : Obligations.DescriptorsSurviveTheWire :=
  ⟨fun d b h => ⟨d.bytes_length, channelDescriptorAt_of_stands h (stands_cons b d.bytes)⟩,
    fun d b h => ⟨d.bytes_length, triadDescriptorAt_of_stands h (stands_cons b d.bytes)⟩⟩

end Sys2Proof.Machine
end

section
/-! PROOFS. The staging requests: O51 (R57, R59, R60, R95, R142 to R146, R154, R181). -/

namespace Sys2Proof.Machine

open Sys2Proof.Claims

/-! ### Parameters as the statement reads them (R181) -/

section Parameters

variable {l : List Byte} {i n : Nat}

theorem bytesAt_succ (h : i < l.length) : bytesAt l i (n + 1) = byteAt l i :: bytesAt l (i + 1) n := by
  rw [bytesAt, List.drop_eq_getElem_cons h, List.take_succ_cons, byteAt, List.getElem?_eq_getElem h]
  rfl

theorem bytesAt_zero : bytesAt l i 0 = [] := rfl

theorem natAt_two (h : i + 2 ≤ l.length) : natAt l i 2 = two l i := by
  rw [natAt, bytesAt_succ (by omega), bytesAt_succ (by omega), bytesAt_zero]
  simp only [bytesNat, List.foldl_cons, List.foldl_nil, two, one, byteAt]
  omega

theorem natAt_four (h : i + 4 ≤ l.length) : natAt l i 4 = 65536 * two l i + two l (i + 2) := by
  rw [natAt, bytesAt_succ (by omega), bytesAt_succ (by omega), bytesAt_succ (by omega), bytesAt_succ (by omega), bytesAt_zero]
  simp only [bytesNat, List.foldl_cons, List.foldl_nil, two, one, byteAt, Nat.add_assoc, Nat.reduceAdd]
  omega

theorem intAt_four (h : i + 4 ≤ l.length) :
    intAt l i 4 = if natAt l i 4 < 2147483648 then (natAt l i 4 : Int) else (natAt l i 4 : Int) - 4294967296 := by
  have hlen : (bytesAt l i 4).length = 4 := by
    rw [bytesAt, List.length_take, List.length_drop]
    omega
  have hnat : bytesNat (bytesAt l i 4) = natAt l i 4 := rfl
  simp only [intAt, bytesInt, hlen, hnat]
  split_ifs <;> omega

end Parameters

/-! ### Values outside their range, field by field (R57, R59, R60, R95) -/

theorem choiceAt_eq_none_iff {α : Type} {values : List α} {b : Byte} : choiceAt values b = none ↔ values.length ≤ b.toNat :=
  List.getElem?_eq_none_iff

theorem channelAt_eq_none_iff {b : Byte} : channelAt b = none ↔ 16 ≤ b.toNat := List.getElem?_eq_none_iff

theorem sourceAt_eq_none_iff {b : Byte} : sourceAt b = none ↔ 16 ≤ b.toNat := by
  unfold sourceAt
  split <;> simp <;> omega

/-- A presence byte says absent, present, or nothing (R181). -/
theorem presence_cases (b : Byte) : (b.toNat = 0 ∧ presence b = some false) ∨ (b.toNat = 1 ∧ presence b = some true) ∨
    (2 ≤ b.toNat ∧ presence b = none) := by
  unfold presence
  by_cases h0 : b = 0
  · subst h0
    exact .inl ⟨rfl, rfl⟩
  · by_cases h1 : b = 1
    · subst h1
      exact .inr (.inl ⟨rfl, rfl⟩)
    · have hn0 : b.toNat ≠ 0 := fun h => h0 (BitVec.eq_of_toNat_eq h)
      have hn1 : b.toNat ≠ 1 := fun h => h1 (BitVec.eq_of_toNat_eq h)
      exact .inr (.inr ⟨by omega, by rw [if_neg h0, if_neg h1]⟩)

section Fields

variable {l : List Byte} {i : Nat}

theorem optChannelAt_eq_none_iff :
    optChannelAt l i = none ↔ 2 ≤ one l i ∨ (one l i = 1 ∧ 16 ≤ one l (i + 1)) := by
  have hone : one l i = (byteAt l i).toNat := rfl
  unfold optChannelAt
  obtain ⟨hb, hp⟩ | ⟨hb, hp⟩ | ⟨hb, hp⟩ := presence_cases (byteAt l i)
  · simp [hp, hone, hb]
  · simp only [hp, Option.map_eq_none_iff, channelAt_eq_none_iff, hone, hb]
    simp [one, byteAt]
  · simp [hp, hone, hb]

/-- A segment's bounds, as the statement numbers them (R60). -/
theorem Segment.inRange_eq_false_iff (g : Segment) : g.inRange = false ↔ 2047 < g.base ∨ g.length < 2 ∨ 256 < g.length ∨
    g.step < 1 ∨ 2000 < g.step ∨ 2048 < g.base + g.length := by
  simp only [Segment.inRange, Bool.and_eq_false_iff, decide_eq_false_iff_not]
  omega

theorem segmentAt_eq_none_iff (h : i + 10 ≤ l.length) : segmentAt l i = none ↔ 2 ≤ one l i ∨ (one l i = 1 ∧
    (2047 < two l (i + 1) ∨ two l (i + 3) < 2 ∨ 256 < two l (i + 3) ∨ two l (i + 7) < 1 ∨ 2000 < two l (i + 7) ∨
      2048 < two l (i + 1) + two l (i + 3) ∨ 2 ≤ one l (i + 9))) := by
  have hone : one l i = (byteAt l i).toNat := rfl
  unfold segmentAt
  obtain ⟨hb, hp⟩ | ⟨hb, hp⟩ | ⟨hb, hp⟩ := presence_cases (byteAt l i)
  · simp [hp, hone, hb]
  · simp only [hp, hone, hb]
    cases hdir : choiceAt directionChoice (byteAt l (i + 9)) with
    | none =>
      have h2 : 2 ≤ one l (i + 9) := choiceAt_eq_none_iff.mp hdir
      simp [h2]
    | some dir =>
      have h2 : ¬2 ≤ one l (i + 9) := fun hle => by
        cases (choiceAt_eq_none_iff (values := directionChoice).mpr hle).symm.trans hdir
      have hbase := natAt_two (show i + 1 + 2 ≤ l.length by omega)
      have hlength := natAt_two (show i + 3 + 2 ≤ l.length by omega)
      have hstep := natAt_two (show i + 7 + 2 ≤ l.length by omega)
      simp only [ite_eq_right_iff, reduceCtorEq, imp_false, Bool.not_eq_true, Segment.inRange_eq_false_iff, hbase, hlength,
        hstep]
      simp [h2]
  · simp [hp, hone, hb]

/-- The byte of a kind is the kind's position. -/
theorem toNat_of_choiceAt_kind {b : Byte} {k : Kind} (h : choiceAt kindChoice b = some k) : b.toNat = k.position := by
  obtain ⟨hlt, hget⟩ := List.getElem?_eq_some_iff.mp h
  have hlt' : b.toNat < 3 := hlt
  generalize b.toNat = n at *
  interval_cases n <;> (rw [← hget]; rfl)

/-- The staleness limit of a channel whose kind is in range: out of range itself, or against the kind (R57, R59). -/
theorem limit_outside_iff {b : Byte} {k : Kind} (hk : choiceAt kindChoice b = some k) (h : i + 3 ≤ l.length) :
    (∀ v, optNatAt l i = some v → stalenessOk k v = false) ↔ 2 ≤ one l i ∨ (b.toNat < 2 ∧ one l i = 1) ∨
      (b.toNat = 2 ∧ one l i = 0) ∨ (one l i = 1 ∧ (two l (i + 1) < 1 ∨ 600 < two l (i + 1))) := by
  have hone : one l i = (byteAt l i).toNat := rfl
  have hnat := natAt_two (show i + 1 + 2 ≤ l.length by omega)
  rw [toNat_of_choiceAt_kind hk]
  unfold optNatAt
  obtain ⟨hb, hp⟩ | ⟨hb, hp⟩ | ⟨hb, hp⟩ := presence_cases (byteAt l i)
  · cases k <;> simp [hp, hone, hb, stalenessOk, Kind.position]
  · cases k <;> simp [hp, hone, hb, hnat, stalenessOk, Kind.position]
    omega
  · simp [hp, hone, hb]

/-- A channel descriptor is refused exactly for one of its fields. -/
theorem channelDescriptorAt_eq_none_iff : channelDescriptorAt l i = none ↔
    choiceAt boolChoice (byteAt l i) = none ∨ choiceAt portChoice (byteAt l (i + 2)) = none ∨
      sourceAt (byteAt l (i + 3)) = none ∨ choiceAt roundingChoice (byteAt l (i + 10)) = none ∨
      optChannelAt l (i + 11) = none ∨ segmentAt l (i + 13) = none ∨
      (∀ k, choiceAt kindChoice (byteAt l (i + 1)) = some k → ∀ v, optNatAt l (i + 23) = some v → stalenessOk k v = false) := by
  simp only [channelDescriptorAt, Option.bind_eq_bind, Option.bind_eq_none_iff, ite_eq_right_iff, reduceCtorEq, imp_false,
    Bool.not_eq_true]
  constructor
  · intro h
    by_contra hall
    simp only [not_or, Option.ne_none_iff_exists'] at hall
    obtain ⟨⟨enabled, he⟩, ⟨port, hp⟩, ⟨source, hs⟩, ⟨mode, hm⟩, ⟨channel, hc⟩, ⟨segment, hg⟩, hlimit⟩ := hall
    exact hlimit fun k hk v hv => h enabled he k hk port hp source hs mode hm channel hc segment hg v hv
  · rintro h enabled he k hk port hp source hs mode hm channel hc segment hg v hv
    simp only [he, hp, hs, hm, hc, hg, reduceCtorEq, false_or] at h
    exact h k hk v hv

end Fields

/-- CHANNEL_SET's parameters hold a field outside its values exactly when the channel or the descriptor is refused (R142). -/
theorem channelOutside_iff {p : List Byte} (h : p.length = 27) :
    channelOutside p ↔ channelAt (byteAt p 0) = none ∨ channelDescriptorAt p 1 = none := by
  rw [channelDescriptorAt_eq_none_iff, channelAt_eq_none_iff, choiceAt_eq_none_iff, choiceAt_eq_none_iff, choiceAt_eq_none_iff,
    sourceAt_eq_none_iff, optChannelAt_eq_none_iff, segmentAt_eq_none_iff (by omega)]
  have hbyte : ∀ i, (byteAt p i).toNat = one p i := fun _ => rfl
  have hbool : boolChoice.length = 2 := rfl
  have hport : portChoice.length = 2 := rfl
  have hmode : roundingChoice.length = 2 := rfl
  simp only [hbyte, hbool, hport, hmode, Nat.reduceAdd]
  cases hk : choiceAt kindChoice (byteAt p 2) with
  | none =>
    have hkind : 3 ≤ one p 2 := choiceAt_eq_none_iff.mp hk
    simp [channelOutside, hkind]
  | some k =>
    have hlimit := limit_outside_iff (l := p) (i := 24) hk (by omega)
    rw [hbyte] at hlimit
    have hkind : ¬3 ≤ one p 2 := fun hle => by
      cases (choiceAt_eq_none_iff (values := kindChoice).mpr hle).symm.trans hk
    simp only [Option.some.injEq, forall_eq', hlimit, Nat.reduceAdd, channelOutside, hkind, false_or, or_assoc]

/-- A component of a triad's offset beyond its range (R95). -/
theorem triadOffsetOk_eq_false_iff {l : List Byte} {i : Nat} (h : i + 4 ≤ l.length) :
    triadOffsetOk (intAt l i 4) = false ↔ beyondOffset l i := by
  have hnat := natAt_four h
  have hbound : ∀ j, one l j < 256 := fun j => ((l[j]?).getD 0).isLt
  have h0 := hbound i
  have h1 := hbound (i + 1)
  have h2 := hbound (i + 2)
  have h3 := hbound (i + 3)
  rw [intAt_four h, hnat]
  simp only [triadOffsetOk, outside, Bool.not_eq_false', Bool.or_eq_true, decide_eq_true_eq, beyondOffset, two, Nat.add_assoc,
    Nat.reduceAdd]
  split_ifs <;> omega

/-- A triad descriptor is refused exactly for one of its fields. -/
theorem triadDescriptorAt_eq_none_iff {l : List Byte} {i : Nat} : triadDescriptorAt l i = none ↔
    choiceAt boolChoice (byteAt l i) = none ∨ channelAt (byteAt l (i + 1)) = none ∨ channelAt (byteAt l (i + 2)) = none ∨
      channelAt (byteAt l (i + 3)) = none ∨ triadOffsetOk (intAt l (i + 31) 4) = false ∨
      triadOffsetOk (intAt l (i + 35) 4) = false ∨ triadOffsetOk (intAt l (i + 39) 4) = false ∨
      choiceAt roundingChoice (byteAt l (i + 46)) = none := by
  simp only [triadDescriptorAt, Option.bind_eq_bind, Option.bind_eq_none_iff, ite_eq_right_iff, reduceCtorEq, imp_false,
    Bool.not_eq_true, Bool.and_eq_false_iff]
  constructor
  · intro h
    by_contra hall
    simp only [not_or, Option.ne_none_iff_exists'] at hall
    obtain ⟨⟨enabled, he⟩, ⟨x, hx⟩, ⟨y, hy⟩, ⟨z, hz⟩, hox, hoy, hoz, mode, hm⟩ := hall
    obtain (hf | hf) | hf := h enabled he x hx y hy z hz mode hm
    · exact hox hf
    · exact hoy hf
    · exact hoz hf
  · rintro h enabled he x hx y hy z hz mode hm
    simpa only [he, hx, hy, hz, hm, reduceCtorEq, false_or, or_false, or_assoc] using h

/-- TRIAD_SET's parameters hold a field outside its values exactly when the triad or the descriptor is refused (R143). -/
theorem triadOutside_iff {p : List Byte} (h : p.length = 48) :
    triadOutside p ↔ choiceAt triadChoice (byteAt p 0) = none ∨ triadDescriptorAt p 1 = none := by
  rw [triadDescriptorAt_eq_none_iff, choiceAt_eq_none_iff, choiceAt_eq_none_iff, choiceAt_eq_none_iff, channelAt_eq_none_iff,
    channelAt_eq_none_iff, channelAt_eq_none_iff, triadOffsetOk_eq_false_iff (by omega), triadOffsetOk_eq_false_iff (by omega),
    triadOffsetOk_eq_false_iff (by omega)]
  exact Iff.rfl

/-! ### A staging request that is taken (R154, R163) -/

section Answers

variable {s : State} {q : Request} {name : RequestName} {judge : Request → State → Reply} {c : Configuration} {data : List Byte}

/-- A write of the pending copy that is taken: BUSY while a commit is scheduled, else the pending copy and an answer. -/
theorem next_take_of_writePending (h : Ready s name q) (hj : judge q (taken s) = (taken s).writePending c data)
    (hdata : data.length ≤ 246) : (.next (s.take name judge) : Host.Outcome State Fault Refusal) =
      if s.staging.commitScheduled = true then .next (answered (taken s) q .busy [])
      else .next { answered (taken s) q .ok data with staging := { s.staging with pendingConfig := c } } := by
  have hsame : (taken s).staging = s.staging := rfl
  rw [State.take_of_ready h, hj, State.writePending, hsame]
  split
  · rw [Reply.finish_refuse]
  · rw [Reply.ok, Reply.finish_of _ _ _ _ hdata]
    rfl

/-- What a request is answered shows in the output queue. -/
theorem answered_result_inj {t u : State} {r r' : Result} {data' : List Byte}
    (h : (answered t q r data).link.output = (answered u q r' data').link.output) (hout : t.link.output = u.link.output) :
    r = r' := by
  simp only [answered, hout, List.append_cancel_left_eq] at h
  cases h
  rfl

/-- A write of the pending copy that is taken is not refused with RANGE. -/
theorem next_take_ne_range (h : Ready s name q) (hj : judge q (taken s) = (taken s).writePending c data)
    (hdata : data.length ≤ 246) :
    (.next (s.take name judge) : Host.Outcome State Fault Refusal) ≠ .next (answered (taken s) q .range []) := by
  rw [next_take_of_writePending h hj hdata]
  intro heq
  split at heq
  · cases answered_result_inj (congrArg (fun t : State => t.link.output) (Host.Outcome.next.inj heq)) rfl
  · have hout := congrArg (fun t : State => t.link.output) (Host.Outcome.next.inj heq)
    cases answered_result_inj (t := taken s) (u := taken s) hout rfl

end Answers

/-! ### CHANNEL_SET and TRIAD_SET (R142, R143) -/

theorem natBytes_one (v : Nat) : natBytes 1 v = [BitVec.ofNat 8 v] := by simp [natBytes]

section Descriptors

variable {s : State} {q : Request}

theorem judgeChannelSet_of {n : Fin 16} {d : ChannelDescriptor} (hn : channelAt (byteAt q.params 0) = some n)
    (hd : channelDescriptorAt q.params 1 = some d) : judgeChannelSet q s = s.writePending
      { s.staging.pendingConfig with channels := s.staging.pendingConfig.channels.set n d } [BitVec.ofNat 8 n.val] := by
  rw [← natBytes_one]
  unfold judgeChannelSet
  rw [hn, hd]

theorem judgeChannelSet_range (h : channelAt (byteAt q.params 0) = none ∨ channelDescriptorAt q.params 1 = none) :
    judgeChannelSet q s = Reply.refuse s .range := by
  unfold judgeChannelSet
  split <;> simp_all

theorem judgeTriadSet_of {k : Fin 2} {d : TriadDescriptor} (hk : choiceAt triadChoice (byteAt q.params 0) = some k)
    (hd : triadDescriptorAt q.params 1 = some d) : judgeTriadSet q s = s.writePending
      { s.staging.pendingConfig with triads := s.staging.pendingConfig.triads.set k d } [BitVec.ofNat 8 k.val] := by
  rw [← natBytes_one]
  unfold judgeTriadSet
  rw [hk, hd]

theorem judgeTriadSet_range (h : choiceAt triadChoice (byteAt q.params 0) = none ∨ triadDescriptorAt q.params 1 = none) :
    judgeTriadSet q s = Reply.refuse s .range := by
  unfold judgeTriadSet
  split <;> simp_all

theorem choiceAt_triad (k : Fin 2) : choiceAt triadChoice (BitVec.ofNat 8 k.val) = some k := by revert k; decide

/-- The number of parameter bytes of a request that is taken (R163). -/
theorem paramLength_of_ready {name : RequestName} (h : Ready s name q) : name.paramLength q.params = some q.params.length := by
  obtain ⟨_, _, _, _, _, hlength⟩ := h
  simpa [RequestName.lengthOk] using hlength

end Descriptors

/-! ### FILTER_SHAPE and FILTER_TAPS (R144, R145) -/

section Filters

variable {s : State} {q : Request}

theorem choiceAt_filterByte (name : FilterName) : choiceAt filterChoice (filterByte name) = some name := by cases name <;> rfl

/-- FILTER_TAPS answers its filter, first place and count as they came (R145). -/
theorem filterTaps_echo (name : FilterName) (first : Byte) (count : Nat) :
    posByte name.position ++ natBytes 1 first.toNat ++ natBytes 1 count = [filterByte name, first, BitVec.ofNat 8 count] := by
  rw [posByte, natBytes_one, natBytes_one, natBytes_one, BitVec.ofNat_toNat, BitVec.setWidth_eq]
  cases name <;> rfl

theorem shapeOk_iff (w f : Nat) : shapeOk w f = true ↔ (1 ≤ w ∧ w ≤ 127) ∧ 1 ≤ f ∧ f ≤ 1024 := by
  simp [shapeOk, and_assoc]

theorem tapsOk_iff (first count : Nat) :
    tapsOk first count = true ↔ first ≤ 126 ∧ (1 ≤ count ∧ count ≤ 64) ∧ first + count ≤ 127 := by
  simp [tapsOk, and_assoc]

/-- Weights are read back from their bytes. -/
theorem weightsAt_of_stands {l : List Byte} {i : Nat} {weights : List Count16}
    (h : Stands l i (weights.flatMap fun x => natBytes 2 x.toNat)) : weightsAt l i weights.length = weights := by
  induction weights generalizing i with
  | nil => rfl
  | cons w rest ih =>
    rw [List.flatMap_cons] at h
    obtain ⟨hw, hrest⟩ := h.split (j := i + 2)
    rw [List.length_cons, weightsAt, hw.natAt w.isLt, ih hrest, BitVec.ofNat_toNat, BitVec.setWidth_eq]

/-- A place after a run of weights is written: the run's weight within the run, its own weight elsewhere. -/
theorem writeWeights_getElem (weights : List Count16) {places : Vector Count16 127} {first : Nat}
    (h : first + weights.length ≤ 127) (i : Nat) (hi : i < 127) : (writeWeights places first weights)[i] =
      if first ≤ i ∧ i < first + weights.length then (weights[i - first]?).getD 0 else places[i] := by
  induction weights generalizing places first with
  | nil => rw [writeWeights, if_neg (by simp only [List.length_nil]; omega)]
  | cons w rest ih =>
    simp only [List.length_cons] at h ⊢
    rw [writeWeights, ih (by omega), dif_pos (show first < 127 by omega)]
    by_cases hfirst : i = first
    · subst hfirst
      simp
    · by_cases hrun : first + 1 ≤ i ∧ i < first + 1 + rest.length
      · rw [if_pos hrun, if_pos (by omega), show i - first = (i - (first + 1)) + 1 by omega, List.getElem?_cons_succ]
      · rw [if_neg hrun, if_neg (by omega), Vector.getElem_set_ne _ _ (by omega)]

theorem writeWeights_eq (places : Vector Count16 127) {first : Nat} {weights : List Count16}
    (h : first + weights.length ≤ 127) : writeWeights places first weights = Vector.ofFn fun i =>
      if first ≤ i.val ∧ i.val < first + weights.length then (weights[i.val - first]?).getD 0 else places[i] := by
  ext i hi
  rw [writeWeights_getElem weights h i hi, Vector.getElem_ofFn]
  rfl

theorem judgeFilterShape_of {name : FilterName} {w f : Nat} (hname : choiceAt filterChoice (byteAt q.params 0) = some name)
    (hw : natAt q.params 1 1 = w) (hf : natAt q.params 2 2 = f) (hlegal : (1 ≤ w ∧ w ≤ 127) ∧ 1 ≤ f ∧ f ≤ 1024) :
    judgeFilterShape q s = s.writePending (s.staging.pendingConfig.setFilter name
      { s.staging.pendingConfig.filter name with length := w, fraction := f }) [] := by
  unfold judgeFilterShape
  simp only [hname, hw, hf, (shapeOk_iff w f).mpr hlegal, if_true]

theorem judgeFilterShape_range (h : choiceAt filterChoice (byteAt q.params 0) = none ∨
    ¬((1 ≤ natAt q.params 1 1 ∧ natAt q.params 1 1 ≤ 127) ∧ 1 ≤ natAt q.params 2 2 ∧ natAt q.params 2 2 ≤ 1024)) :
    judgeFilterShape q s = Reply.refuse s .range := by
  rw [← shapeOk_iff] at h
  unfold judgeFilterShape
  split <;> simp_all

theorem judgeFilterTaps_of {name : FilterName} {first : Nat} {weights : List Count16}
    (hname : choiceAt filterChoice (byteAt q.params 0) = some name) (hfirst : natAt q.params 1 1 = first)
    (hcount : natAt q.params 2 1 = weights.length) (hweights : weightsAt q.params 3 weights.length = weights)
    (hlegal : first ≤ 126 ∧ (1 ≤ weights.length ∧ weights.length ≤ 64) ∧ first + weights.length ≤ 127) :
    judgeFilterTaps q s = s.writePending (s.staging.pendingConfig.setFilter name
        { s.staging.pendingConfig.filter name with
          places := writeWeights (s.staging.pendingConfig.filter name).places first weights })
      (posByte name.position ++ natBytes 1 first ++ natBytes 1 weights.length) := by
  unfold judgeFilterTaps
  simp only [hname, hfirst, hcount, hweights, (tapsOk_iff first weights.length).mpr hlegal, if_true]

theorem judgeFilterTaps_range (h : choiceAt filterChoice (byteAt q.params 0) = none ∨ ¬(natAt q.params 1 1 ≤ 126 ∧
    (1 ≤ natAt q.params 2 1 ∧ natAt q.params 2 1 ≤ 64) ∧ natAt q.params 1 1 + natAt q.params 2 1 ≤ 127)) :
    judgeFilterTaps q s = Reply.refuse s .range := by
  rw [← tapsOk_iff] at h
  unfold judgeFilterTaps
  split <;> simp_all

end Filters

/-! ### The statement -/

section Statement

variable {s : State} {q : Request}

/-- A staging request that is refused. -/
theorem next_take_range {name : RequestName} (h : Ready s name q) {judge : Request → State → Reply}
    (hj : judge q (taken s) = Reply.refuse (taken s) .range) :
    (.next (s.take name judge) : Host.Outcome State Fault Refusal) = .next (answered (taken s) q .range []) :=
  congrArg _ (State.take_refused h hj)

/-- CHANNEL_SET that is not refused writes one descriptor. -/
theorem judgeChannelSet_writes (h : ¬(channelAt (byteAt q.params 0) = none ∨ channelDescriptorAt q.params 1 = none)) :
    ∃ c data, judgeChannelSet q s = s.writePending c data ∧ data.length ≤ 246 := by
  simp only [not_or, Option.ne_none_iff_exists'] at h
  obtain ⟨⟨n, hn⟩, d, hd⟩ := h
  exact ⟨_, _, judgeChannelSet_of hn hd, by simp⟩

/-- TRIAD_SET that is not refused writes one descriptor. -/
theorem judgeTriadSet_writes (h : ¬(choiceAt triadChoice (byteAt q.params 0) = none ∨ triadDescriptorAt q.params 1 = none)) :
    ∃ c data, judgeTriadSet q s = s.writePending c data ∧ data.length ≤ 246 := by
  simp only [not_or, Option.ne_none_iff_exists'] at h
  obtain ⟨⟨k, hk⟩, d, hd⟩ := h
  exact ⟨_, _, judgeTriadSet_of hk hd, by simp⟩

end Statement

/-- Settles O51: each row reads its parameters, refuses those out of range, and else writes the pending copy. -/
theorem stagingWrites : Obligations.StagingWrites := by
  intro q s old refused wrote setFilter
  refine ⟨fun h => ?_, fun h => ?_, fun b w f h hq => ?_, fun b first weights h hlen hq => ?_, fun h => ?_⟩
  · have hiff := channelOutside_iff (Option.some.inj (paramLength_of_ready h)).symm
    refine ⟨fun n d hq hd => ?_, fun hout => ?_, fun hin => ?_, fun b rest hq hout => ?_⟩
    · have hn : channelAt (byteAt q.params 0) = some n := by rw [hq]; exact channelAt_ofNat n
      have hdesc : channelDescriptorAt q.params 1 = some d := by rw [hq]; exact channelDescriptorAt_of_stands hd (stands_cons _ _)
      exact next_take_of_writePending h (judgeChannelSet_of hn hdesc) (by simp)
    · exact next_take_range h (judgeChannelSet_range (hiff.mp hout))
    · obtain ⟨c, data, hj, hdata⟩ := judgeChannelSet_writes (s := taken s) (fun hnone => hin (hiff.mpr hnone))
      exact next_take_ne_range h hj hdata
    · refine next_take_range h (judgeChannelSet_range (hout.imp_left fun hb => channelAt_eq_none_iff.mpr ?_))
      rwa [hq]
  · have hiff := triadOutside_iff (Option.some.inj (paramLength_of_ready h)).symm
    refine ⟨fun k d hq hd => ?_, fun hout => ?_, fun hin => ?_, fun b rest hq hout => ?_⟩
    · have hk : choiceAt triadChoice (byteAt q.params 0) = some k := by rw [hq]; exact choiceAt_triad k
      have hdesc : triadDescriptorAt q.params 1 = some d := by rw [hq]; exact triadDescriptorAt_of_stands hd (stands_cons _ _)
      exact next_take_of_writePending h (judgeTriadSet_of hk hdesc) (by simp)
    · exact next_take_range h (judgeTriadSet_range (hiff.mp hout))
    · obtain ⟨c, data, hj, hdata⟩ := judgeTriadSet_writes (s := taken s) (fun hnone => hin (hiff.mpr hnone))
      exact next_take_ne_range h hj hdata
    · refine next_take_range h (judgeTriadSet_range (hout.imp_left fun hb => choiceAt_eq_none_iff.mpr ?_))
      rwa [hq]
  · have hw : natAt q.params 1 1 = w.toNat := by rw [hq]; exact natAt_single w
    have hf : natAt q.params 2 2 = f.toNat := by rw [hq]; exact natAt_natBytes f.isLt
    refine ⟨fun name hb hlegal => ?_, fun hout => ?_⟩
    · have hname : choiceAt filterChoice (byteAt q.params 0) = some name := by rw [hq, hb]; exact choiceAt_filterByte name
      have hanswer := next_take_of_writePending h (judgeFilterShape_of hname hw hf hlegal) (by simp)
      cases name <;> exact hanswer
    · refine next_take_range h (judgeFilterShape_range (hout.imp (fun hb => choiceAt_eq_none_iff.mpr ?_) fun hillegal => ?_))
      · rwa [hq]
      · rwa [hw, hf]
  · have hfirst : natAt q.params 1 1 = first.toNat := by rw [hq]; exact natAt_single first
    have hcount : natAt q.params 2 1 = weights.length := by
      rw [hq]
      exact (natAt_single _).trans (Nat.mod_eq_of_lt hlen)
    refine ⟨fun name hb hlegal => ?_, fun hout => ?_⟩
    · have hname : choiceAt filterChoice (byteAt q.params 0) = some name := by rw [hq, hb]; exact choiceAt_filterByte name
      have hweights : weightsAt q.params 3 weights.length = weights := by
        rw [hq]
        exact weightsAt_of_stands ⟨[], List.append_nil _⟩
      have hanswer := next_take_of_writePending h (judgeFilterTaps_of hname hfirst hcount hweights hlegal)
        (by simp [natBytes_length])
      obtain ⟨_, _, hend⟩ := hlegal
      rw [writeWeights_eq _ hend, filterTaps_echo, ← hb] at hanswer
      cases name <;> exact hanswer
    · refine next_take_range h (judgeFilterTaps_range (hout.imp (fun hb => choiceAt_eq_none_iff.mpr ?_) fun hillegal => ?_))
      · rwa [hq]
      · rwa [hfirst, hcount]
  · exact next_take_of_writePending h (judge := judgeDiscard) rfl (Nat.zero_le _)

end Sys2Proof.Machine
end

section
/-! PROOFS. The requests that write the coefficient store: O53 (R60, R65 to R70, R72, R181, R199). -/

namespace Sys2Proof.Machine

open Sys2Proof.Claims

variable {s : State} {q : Request}

/-! ### The lowest protected address and its lowest channel (R70) -/

/-- The first find in an ascending list is at its lowest member that gives any. -/
theorem findSome?_of_lowest {α β : Type} [LinearOrder α] {l : List α} (hsorted : l.Pairwise (· < ·)) {f : α → Option β}
    {x : α} {y : β} (hx : x ∈ l) (hf : f x = some y) (hlow : ∀ z ∈ l, z < x → f z = none) : l.findSome? f = some y := by
  induction l with
  | nil => cases hx
  | cons a rest ih =>
    obtain ⟨hfirst, hlater⟩ := List.pairwise_cons.mp hsorted
    rcases List.mem_cons.mp hx with rfl | hrest
    · rw [List.findSome?_cons, hf]
    · rw [List.findSome?_cons, hlow a List.mem_cons_self (hfirst x hrest)]
      exact ih hlater hrest fun z hz => hlow z (List.mem_cons_of_mem a hz)

theorem allChannels_ascending : allChannels.Pairwise (· < ·) := by decide

theorem runAddresses_ascending (start count : Nat) : (runAddresses start count).Pairwise (· < ·) :=
  List.pairwise_map.mpr (List.pairwise_lt_range.imp fun h => Nat.add_lt_add_left h start)

/-- The protector of an address is the lowest channel that covers it (R70). -/
theorem Configuration.protector_of_lowest {c : Configuration} {a : Nat} {n : Fin 16} (hn : (c.channels[n]).protects a = true)
    (hlow : ∀ m : Fin 16, (c.channels[m]).protects a = true → n ≤ m) : c.protector a = some n := by
  rw [Configuration.protector, List.find?_eq_findSome?_guard]
  refine findSome?_of_lowest allChannels_ascending (mem_allChannels n) (by simpa using hn) fun m _ hm => ?_
  rw [Option.guard_eq_none_iff]
  exact Bool.eq_false_iff.mpr fun hp => absurd (hlow m hp) (not_le_of_gt hm)

theorem Configuration.protector_eq_none {c : Configuration} {a : Nat}
    (h : ∀ n : Fin 16, ¬(c.channels[n]).protects a = true) : c.protector a = none :=
  List.find?_eq_none.mpr fun n _ => h n

/-- A refusal names the lowest protected address of the run and the lowest channel that covers it (R70). -/
theorem firstProtected_of_lowest {l : List Nat} (hsorted : l.Pairwise (· < ·)) {a : Nat} {n : Fin 16} (ha : a ∈ l)
    (hn : protectedBy s a n) (hlow : ∀ b m, b ∈ l → protectedBy s b m → a ≤ b) (hchannel : ∀ m, protectedBy s a m → n ≤ m) :
    s.staging.active.firstProtected l = some (a, n) := by
  have hprotector : s.staging.active.protector a = some n :=
    Configuration.protector_of_lowest ((protectedBy_iff a n).mp hn) fun m hm => hchannel m ((protectedBy_iff a m).mpr hm)
  refine findSome?_of_lowest hsorted ha (by rw [hprotector]; rfl) fun b hb hba => ?_
  rw [Configuration.protector_eq_none fun m hm => ?_, Option.map_none]
  exact absurd (hlow b m hb ((protectedBy_iff b m).mpr hm)) (not_le_of_gt hba)

theorem firstProtected_none {l : List Nat} (h : ∀ a n, a ∈ l → ¬protectedBy s a n) :
    s.staging.active.firstProtected l = none :=
  (Configuration.firstProtected_eq_none_iff _ l).mpr fun a ha n hn => h a n ha ((protectedBy_iff a n).mpr hn)

/-! ### A store write that is taken (R67, R70, R163) -/

section Answers

variable {name : RequestName} {judge : Request → State → Reply} {l : List Nat} {st : Store} {data : List Byte}

/-- BUSY while a commit is scheduled. -/
theorem next_take_store_busy (h : Ready s name q) (hj : judge q (taken s) = (taken s).writeStore l st data)
    (hc : s.staging.commitScheduled = true) :
    (.next (s.take name judge) : Host.Outcome State Fault Refusal) = .next (answered (taken s) q .busy []) := by
  refine congrArg _ (State.take_refused h (hj.trans ?_))
  exact if_pos hc

/-- ACCESS for a protected address. -/
theorem next_take_store_access (h : Ready s name q) (hj : judge q (taken s) = (taken s).writeStore l st data)
    (hc : s.staging.commitScheduled = false) {a : Nat} {n : Fin 16} (hp : s.staging.active.firstProtected l = some (a, n)) :
    (.next (s.take name judge) : Host.Outcome State Fault Refusal) =
      .next (answered (taken s) q .access (natBytes 2 a ++ natBytes 1 n.val)) := by
  have hwrite : (taken s).writeStore l st data = Reply.of (taken s) .access (natBytes 2 a ++ natBytes 1 n.val) := by
    simp [State.writeStore, taken, hc, hp, accessData]
  rw [State.take_of_ready h, hj, hwrite, Reply.finish_of _ _ _ _ (by simp [natBytes_length])]
  rfl

/-- The write, with the unsaved-changes flag. -/
theorem next_take_store_written (h : Ready s name q) (hj : judge q (taken s) = (taken s).writeStore l st data)
    (hdata : data.length ≤ 246) (hc : s.staging.commitScheduled = false) (hp : s.staging.active.firstProtected l = none) :
    (.next (s.take name judge) : Host.Outcome State Fault Refusal) =
      .next (answered (taken (unsavedSet { s with store := st })) q .ok data) := by
  have hwrite : (taken s).writeStore l st data = Reply.ok (taken (unsavedSet { s with store := st })) data := by
    have hcommit : ¬(taken s).staging.commitScheduled = true := by simp [taken, hc]
    have hfirst : (taken s).staging.active.firstProtected l = none := hp
    rw [State.writeStore, if_neg hcommit, hfirst]
    rfl
  rw [State.take_of_ready h, hj, hwrite, Reply.ok, Reply.finish_of _ _ _ _ hdata]
  rfl

end Answers

/-! ### STORE_WRITE (R68, R69) -/

/-- The entries a run carries, stored as GOOD (R69). -/
def goodEntries (entries : List (Int × Int)) : List StoreEntry := entries.map fun e => ⟨e.1, e.2, .good⟩

/-- The entries of a run are read back from their bytes. -/
theorem storeEntriesAt_of_stands {l : List Byte} {i : Nat} {entries : List (Int × Int)}
    (hrange : ∀ e ∈ entries, -8388608 ≤ e.1 ∧ e.1 ≤ 8388607 ∧ -32768 ≤ e.2 ∧ e.2 ≤ 32767)
    (h : Stands l i (entries.flatMap fun e => intBytes 3 e.1 ++ intBytes 2 e.2)) :
    storeEntriesAt l i entries.length = goodEntries entries := by
  induction entries generalizing i with
  | nil => rfl
  | cons e rest ih =>
    obtain ⟨hoff, hoff', hgain, hgain'⟩ := hrange e List.mem_cons_self
    rw [List.flatMap_cons] at h
    obtain ⟨he, hrest⟩ := h.split (j := i + 5)
    obtain ⟨hoffset, hg⟩ := he.split (j := i + 3)
    rw [List.length_cons, storeEntriesAt, hoffset.intAt (by omega) (by omega), hg.intAt (by omega) (by omega),
      ih (fun x hx => hrange x (List.mem_cons_of_mem e hx)) hrest]
    rfl

theorem judgeStoreWrite_of {start : Nat} {entries : List (Int × Int)} (hstart : natAt q.params 0 2 = start)
    (hcount : natAt q.params 2 1 = entries.length) (hentries : storeEntriesAt q.params 3 entries.length = goodEntries entries)
    (hlegal : start ≤ 2047 ∧ (1 ≤ entries.length ∧ entries.length ≤ 16) ∧ start + entries.length ≤ 2048) :
    judgeStoreWrite q s = s.writeStore (runAddresses start entries.length) (s.store.writeRun start (goodEntries entries))
      (natBytes 2 start ++ natBytes 1 entries.length) := by
  have hok : runOk start entries.length = true := (runOk_iff _ _).mpr (by simpa only [and_assoc] using hlegal)
  unfold judgeStoreWrite
  simp only [hstart, hcount, hentries, hok, if_true]

theorem judgeStoreWrite_range (h : ¬(natAt q.params 0 2 ≤ 2047 ∧ (1 ≤ natAt q.params 2 1 ∧ natAt q.params 2 1 ≤ 16) ∧
    natAt q.params 0 2 + natAt q.params 2 1 ≤ 2048)) : judgeStoreWrite q s = Reply.refuse s .range := by
  simp only [and_assoc, ← runOk_iff] at h
  unfold judgeStoreWrite
  exact if_neg h

/-- What a written run reads as: the entries carried within it, what stood there elsewhere (R69). -/
theorem read_writeRun_goodEntries {st : Store} (h : st.wf = true) {start : Nat} {entries : List (Int × Int)}
    (hend : start + entries.length ≤ 2048) (a : Nat) : (st.writeRun start (goodEntries entries)).read a =
      if start ≤ a then
        match entries[a - start]? with
        | some e => ⟨e.1, e.2, .good⟩
        | none => st.read a
      else st.read a := by
  rw [Store.read_writeRun h _ (by simpa [goodEntries] using hend), goodEntries, List.getElem?_map]
  cases entries[a - start]? <;> rfl

/-! ### STORE_POISON (R72) -/

theorem judgeStorePoison_of {a : Nat} (hparam : natAt q.params 0 2 = a) (ha : a ≤ 2047) :
    judgeStorePoison q s = s.writeStore [a] (s.store.poison a) (natBytes 2 a) := by
  unfold judgeStorePoison
  simp only [hparam, ha, if_true]

theorem judgeStorePoison_range (h : 2047 < natAt q.params 0 2) : judgeStorePoison q s = Reply.refuse s .range :=
  if_neg (Nat.not_le_of_lt h)

/-- A poisoned entry turns BAD and keeps its values, and every other entry stays. -/
theorem read_poison {st : Store} (h : st.wf = true) (a b : Nat) :
    (st.poison a).read b = if b = a then { st.read a with check := .bad } else st.read b := by
  unfold Store.poison
  split
  · rename_i heq
    rw [heq, Store.read_write_same h]
  · rename_i hne
    rw [Store.read_write_other _ _ hne]

/-! ### The statement -/

/-- Settles O53: each row reads its run, and its write meets RANGE, BUSY and ACCESS before the store. -/
theorem storeRequests : Obligations.StoreRequests := by
  intro q s hwf refused wrote
  refine ⟨fun start entries h hstart hlen hrange hq => ?_, fun a h ha hq => ?_⟩
  · intro legal run
    have hs : natAt q.params 0 2 = start := by rw [hq]; exact natAt_natBytes (n := 2) hstart
    have hc : natAt q.params 2 1 = entries.length := by rw [hq]; exact natAt_natBytes (n := 1) hlen
    have he : storeEntriesAt q.params 3 entries.length = goodEntries entries := by
      rw [hq]
      exact storeEntriesAt_of_stands hrange ⟨[], List.append_nil _⟩
    have hjudge (hlegal : legal) := judgeStoreWrite_of (s := taken s) hs hc he hlegal
    have hrun : ∀ a, a ∈ runAddresses start entries.length ↔ run a := mem_runAddresses start entries.length
    refine ⟨fun hillegal => ?_, fun hlegal hcommit => ?_, fun a n hlegal hcommit ha hn hlow hchannel => ?_,
      fun hlegal hcommit hfree => ?_⟩
    · exact next_take_range h (judgeStoreWrite_range (by rwa [hs, hc]))
    · exact next_take_store_busy h (hjudge hlegal) hcommit
    · refine next_take_store_access h (hjudge hlegal) hcommit ?_
      exact firstProtected_of_lowest (runAddresses_ascending _ _) ((hrun a).mpr ha) hn
        (fun b m hb => hlow b m ((hrun b).mp hb)) hchannel
    · obtain ⟨_, _, hend⟩ := id hlegal
      refine ⟨_, next_take_store_written h (hjudge hlegal) (by simp [natBytes_length]) hcommit
        (firstProtected_none fun a n ha => hfree a n ((hrun a).mp ha)), ?_, read_writeRun_goodEntries hwf hend⟩
      exact Store.wf_writeRun hwf _ (by simpa [goodEntries] using hend)
  · have hparam : natAt q.params 0 2 = a := by rw [hq]; exact natAt_natBytes (n := 2) ha
    have hjudge (hlegal : a ≤ 2047) := judgeStorePoison_of (s := taken s) hparam hlegal
    refine ⟨fun hillegal => ?_, fun hlegal hcommit => ?_, fun n hlegal hcommit hn hchannel => ?_, fun hlegal hcommit hfree => ?_⟩
    · exact next_take_range h (judgeStorePoison_range (by rwa [hparam]))
    · exact next_take_store_busy h (hjudge hlegal) hcommit
    · refine next_take_store_access h (hjudge hlegal) hcommit ?_
      exact firstProtected_of_lowest (List.pairwise_singleton _ a) List.mem_cons_self hn
        (fun b m hb _ => (List.mem_singleton.mp hb).ge) hchannel
    · refine ⟨_, next_take_store_written h (hjudge hlegal) (by simp [natBytes_length]) hcommit
        (firstProtected_none fun b n hb => ?_), Store.wf_poison hwf (Nat.lt_succ_of_le hlegal), read_poison hwf a⟩
      rw [List.mem_singleton.mp hb]
      exact hfree n

end Sys2Proof.Machine
end

section
/-! PROOFS. What IDENT and STATUS answer: the sections of R176 in the words of the statements (R92, R113, R176, R177). -/

namespace Sys2Proof.Machine

open Sys2Proof.Claims

/-! ### Items of one byte, and absent items (R181) -/

theorem natBytes_zero (n : Nat) : natBytes n 0 = List.replicate n 0 := by
  induction n with
  | zero => rfl
  | succ n ih => rw [natBytes, ih, Nat.zero_div, List.replicate_succ]; rfl

theorem posByte_eq (n : Nat) : posByte n = [BitVec.ofNat 8 n] := natBytes_one n

theorem firstByte_eq (b : Bool) : firstByte b = [firstOf b] := by cases b <;> rfl

theorem bitByte_eq (b : Bool) : bitByte b = [bit b] := by cases b <;> rfl

/-- A byte carried as a number. -/
theorem natBytes_one_toNat (b : Byte) : natBytes 1 b.toNat = [b] := by rw [natBytes_one, BitVec.ofNat_toNat, BitVec.setWidth_eq]

/-! ### Choices as the statement writes them (R181) -/

theorem Discipline.position_byte (d : Discipline) :
    BitVec.ofNat 8 d.position = match d with | .freeRun => 0 | .acquire => 1 | .locked => 2 | .holdover => 3 := by
  cases d <;> rfl

theorem PortMode.position_byte (m : PortMode) :
    BitVec.ofNat 8 m.position = match m with | .disabled => 0 | .active => 1 | .halted => 2 := by
  cases m <;> rfl

theorem Policy.position_byte (p : Policy) : BitVec.ofNat 8 p.position = match p with | .skip => 0 | .stop => 1 := by
  cases p <;> rfl

theorem Protection.position_byte (p : Protection) :
    BitVec.ofNat 8 p.position = match p with | .opened => 0 | .sessionLocked => 1 | .fixed => 2 := by
  cases p <;> rfl

theorem ResetCause.position_byte (c : ResetCause) :
    BitVec.ofNat 8 c.position = match c with | .powerOn => 0 | .commanded => 1 := by
  cases c <;> rfl

theorem RateState.position_byte (r : RateState) :
    BitVec.ofNat 8 r.position = match r with | .idle => 0 | .waiting => 1 | .trial => 2 := by
  cases r <;> rfl

/-! ### Optional items (R181, 9.12) -/

/-- A presence byte before an optional number (R181). -/
theorem optNatBytes_eq (n : Nat) (v : Option Nat) : optNatBytes n v =
    match v with
    | none => List.replicate (n + 1) 0
    | some x => 1 :: natBytes n x := by
  cases v with
  | none => exact natBytes_zero (n + 1)
  | some x => rfl

theorem optVectorBytes_eq (v : Option Vec3) : optVectorBytes v =
    match v with
    | none => List.replicate 13 0
    | some r => 1 :: r.bytes 4 := by
  cases v with
  | none => exact natBytes_zero 13
  | some r => rfl

/-! ### Sections (R92, R113, R176) -/

theorem timebaseSection_eq (s : State) : s.tb.statusData = sectionBytes s .timebase := by
  unfold Timebase.statusData sectionBytes
  simp only [posByte_eq, natBytes_one, bitByte_eq, optNatBytes_eq, Discipline.position_byte, List.append_assoc, List.cons_append,
    List.nil_append] <;> cases s.tb.label <;> rfl

theorem heldErrorBytes_eq (p : Option HeldError) : heldErrorBytes p =
    match p with
    | none => List.replicate 9 0
    | some h => [1, BitVec.ofNat 8 h.source.toNat, h.sequence,
      (if h.overrange then 1 else 0) + (if h.digitizer then 2 else 0)] ++ natBytes 4 h.second.toNat ++ natBytes 1 h.tickIndex := by
  cases p with
  | none => exact natBytes_zero 9
  | some h =>
    have hflags : natBytes 1 (heldFlagsByte h) = [(if h.overrange then 1 else 0) + (if h.digitizer then 2 else 0)] := by
      unfold heldFlagsByte
      cases h.overrange <;> cases h.digitizer <;> rfl
    rw [heldErrorBytes, hflags, natBytes_one_toNat, natBytes_one h.source.toNat]
    rfl

theorem portSection_eq (p : SensorPort) : p.statusData = portBytes p := by
  simp only [SensorPort.statusData, portBytes, posByte_eq, firstByte_eq, natBytes_one, heldErrorBytes_eq, PortMode.position_byte,
    Policy.position_byte, List.cons_append, List.nil_append, SensorPort.paceLine] <;> rfl

theorem screenSection_eq (sc : Screen) : sc.statusData = screenBytes sc := by
  simp only [Screen.statusData, screenBytes, bitByte_eq, optVectorBytes_eq]
  cases sc.suspect <;> cases sc.reference <;> simp [suspectBytes, natBytes_zero, Vec3.bytes, natBytes_one]

theorem correctorSection_eq (s : State) : s.correctorData = correctorBytes s := by
  have hkind : ∀ k : Kind, (k == .temperature) = decide (k = .temperature) := fun k => by cases k <;> rfl
  have hheld : s.heldData = fun n => BitVec.ofNat 8 n.val ::
      match s.corr.held[n] with
      | none => List.replicate 7 0
      | some h => 1 :: (intBytes 2 h.value ++ natBytes 4 (s.tb.markCount - h.stamp).toNat) := by
    funext n
    rw [State.heldData, natBytes_one]
    cases s.corr.held[n] <;> rfl
  have hgood : s.lastGoodData = fun n => BitVec.ofNat 8 n.val ::
      match s.corr.lastGood[n] with
      | none => List.replicate 6 0
      | some g => 1 :: (intBytes 3 g.offset ++ intBytes 2 g.gain) := by
    funext n
    rw [State.lastGoodData, natBytes_one]
    cases s.corr.lastGood[n] <;> rfl
  rw [State.correctorData, countedBytes, countedBytes, Configuration.temperatureKind, Configuration.segmentHolders, hheld, hgood,
    natBytes_one, natBytes_one, allChannels_eq]
  simp only [hkind] <;> rfl

theorem deviceSection_eq (s : State) : s.deviceData = sectionBytes s .device := by
  have hresponses : (fun f : Frame => !f.body.isData) = isResponse := by
    funext f
    obtain ⟨body, tied⟩ := f
    cases body <;> rfl
  have hdata : (fun f : Frame => f.body.isData) = fun f => !isResponse f := by rw [← hresponses]; simp
  unfold State.deviceData sectionBytes
  rw [hresponses, hdata]
  simp only [posByte_eq, bitByte_eq, firstByte_eq, natBytes_one, Protection.position_byte, ResetCause.position_byte,
    RateState.position_byte, List.append_assoc, List.cons_append, List.nil_append] <;> rfl

/-- Every section is what the statement says. -/
theorem sectionData_eq (s : State) (x : Section) : s.sectionData x = sectionBytes s x := by
  cases x with
  | timebase => exact timebaseSection_eq s
  | ports => exact congrArg₂ (· ++ ·) (portSection_eq s.portA) (portSection_eq s.portB)
  | corrector => exact correctorSection_eq s
  | triads => exact congrArg₂ (· ++ ·) (screenSection_eq s.screens[0]) (screenSection_eq s.screens[1])
  | device => exact deviceSection_eq s

end Sys2Proof.Machine
end

section
/-! PROOFS. The reading requests: O47 (R62, R71, R92, R113, R147, R148, R163, R164, R176, R177, R181, R186, R190). -/

namespace Sys2Proof.Machine

open Sys2Proof.Claims

variable {s : State} {q : Request}

/-! ### A reading request that is taken (R163, R164) -/

/-- Data that fit one frame. -/
theorem next_take_read {name : RequestName} (h : Ready s name q) {judge : Request → State → Reply} {data : List Byte}
    (hj : judge q (taken s) = Reply.ok (taken s) data) (hdata : data.length ≤ 246) :
    (.next (s.take name judge) : Host.Outcome State Fault Refusal) = .next (answered (taken s) q .ok data) := by
  rw [State.take_of_ready h, hj, Reply.ok, Reply.finish_of _ _ _ _ hdata]
  rfl

/-- Data that need two frames. -/
theorem next_take_read_long {name : RequestName} (h : Ready s name q) {judge : Request → State → Reply} {data : List Byte}
    (hj : judge q (taken s) = Reply.ok (taken s) data) (hdata : 246 < data.length) :
    (.next (s.take name judge) : Host.Outcome State Fault Refusal) = .next { s with link := { s.link with
      requests := s.link.requests.tail
      output := s.link.output ++ [⟨.response ⟨q.tag, q.code, .ok, 1, data.take 246⟩, false⟩,
        ⟨.response ⟨q.tag, q.code, .ok, 0, data.drop 246⟩, false⟩] } } := by
  have hframes : responseFrames q.tag q.code .ok data false = [⟨.response ⟨q.tag, q.code, .ok, 1, data.take 246⟩, false⟩,
      ⟨.response ⟨q.tag, q.code, .ok, 0, data.drop 246⟩, false⟩] := if_neg (Nat.not_le_of_lt hdata)
  rw [State.take_of_ready h, hj]
  simp only [Reply.finish, Reply.ok, Reply.of, hframes]
  rfl

/-! ### IDENT (R177) -/

theorem identData_eq (x : SettingsStore) : x.identData = [1, 0x01, 0xA0, x.identity.revision] ++
    natBytes 4 x.identity.serial.toNat ++ x.identity.station.toList ++
    [(match x.level with | .opened => 0 | .sessionLocked => 1 | .fixed => 2 : Byte)] := by
  rw [SettingsStore.identData, posByte_eq, Protection.position_byte]
  rfl

/-! ### STATUS (R176) -/

theorem judgeStatus_of {x : Section} (hx : choiceAt sectionChoice (byteAt q.params 0) = some x) :
    judgeStatus q s = Reply.ok s (sectionBytes s x) := by
  unfold judgeStatus
  rw [hx, ← sectionData_eq]

theorem judgeStatus_range (h : choiceAt sectionChoice (byteAt q.params 0) = none) : judgeStatus q s = Reply.refuse s .range := by
  unfold judgeStatus
  rw [h]

/-! ### CHANNEL_GET, TRIAD_GET and FILTER_GET (R62, R147, R148) -/

/-- The indication compares the two copies, whichever is read. -/
theorem indication_of_copies {α : Type} [DecidableEq α] (f : Configuration → α) (g : Staging) (copy : Copy) :
    indication (f (g.copy copy) == f (g.copy copy.other)) = [if decide (f g.active = f g.pendingConfig) then 0 else 1] := by
  have hbeq : ∀ a b : α, (a == b) = decide (a = b) := fun _ _ => rfl
  rw [indication, firstByte_eq, hbeq]
  cases copy
  · rfl
  · rw [decide_eq_decide.mpr (eq_comm (a := f (g.copy .pending)))]
    rfl

theorem judgeChannelGet_of {n : Fin 16} {copy : Copy} (hn : channelAt (byteAt q.params 0) = some n)
    (hc : choiceAt copyChoice (byteAt q.params 1) = some copy) :
    judgeChannelGet q s = Reply.ok s (((s.staging.copy copy).channels[n]).bytes ++
      [if decide (s.staging.active.channels[n] = s.staging.pendingConfig.channels[n]) then 0 else 1]) := by
  unfold judgeChannelGet
  rw [hn, hc, ← indication_of_copies (fun c => c.channels[n]) s.staging copy]
  rfl

theorem judgeChannelGet_range (h : channelAt (byteAt q.params 0) = none ∨ choiceAt copyChoice (byteAt q.params 1) = none) :
    judgeChannelGet q s = Reply.refuse s .range := by
  unfold judgeChannelGet
  split <;> simp_all

theorem judgeTriadGet_of {k : Fin 2} {copy : Copy} (hk : choiceAt triadChoice (byteAt q.params 0) = some k)
    (hc : choiceAt copyChoice (byteAt q.params 1) = some copy) :
    judgeTriadGet q s = Reply.ok s (((s.staging.copy copy).triads[k]).bytes ++
      [if decide (s.staging.active.triads[k] = s.staging.pendingConfig.triads[k]) then 0 else 1]) := by
  unfold judgeTriadGet
  rw [hk, hc, ← indication_of_copies (fun c => c.triads[k]) s.staging copy]
  rfl

theorem judgeTriadGet_range (h : choiceAt triadChoice (byteAt q.params 0) = none ∨
    choiceAt copyChoice (byteAt q.params 1) = none) : judgeTriadGet q s = Reply.refuse s .range := by
  unfold judgeTriadGet
  split <;> simp_all

theorem filterData_length (g : Staging) (name : FilterName) (copy : Copy) :
    (g.filterData name copy).length = 4 + 2 * ((g.copy copy).filter name).length := by
  have hweights : (((g.copy copy).filter name).weightBytes).length = 2 * ((g.copy copy).filter name).length := by
    rw [Filter.weightBytes, flatMap_length_of (n := 2) fun i => natBytes_length 2 _, List.length_range]
  simp only [Staging.filterData, List.length_append, natBytes_length, indication, firstByte_length, hweights]

theorem filterData_eq (g : Staging) (name : FilterName) (copy : Copy) : g.filterData name copy =
    natBytes 1 ((g.copy copy).filter name).length ++ natBytes 2 ((g.copy copy).filter name).fraction ++
      [if decide (g.active.filter name = g.pendingConfig.filter name) then 0 else 1] ++
      (List.range ((g.copy copy).filter name).length).flatMap fun i => natBytes 2 (weight ((g.copy copy).filter name) i) := by
  rw [← indication_of_copies (fun c => c.filter name) g copy]
  rfl

theorem judgeFilterGet_of {name : FilterName} {copy : Copy} (hname : choiceAt filterChoice (byteAt q.params 0) = some name)
    (hc : choiceAt copyChoice (byteAt q.params 1) = some copy) :
    judgeFilterGet q s = Reply.ok s (s.staging.filterData name copy) := by
  unfold judgeFilterGet
  rw [hname, hc]

theorem judgeFilterGet_range (h : choiceAt filterChoice (byteAt q.params 0) = none ∨
    choiceAt copyChoice (byteAt q.params 1) = none) : judgeFilterGet q s = Reply.refuse s .range := by
  unfold judgeFilterGet
  split <;> simp_all

/-! ### STORE_READ (R71) -/

theorem judgeStoreRead_of {start count : Nat} (hs : natAt q.params 0 2 = start) (hc : natAt q.params 2 1 = count)
    (hlegal : start ≤ 2047 ∧ 1 ≤ count ∧ count ≤ 16 ∧ start + count ≤ 2048) :
    judgeStoreRead q s = Reply.ok s ((List.range count).flatMap fun i => (s.store.read (start + i)).bytes) := by
  unfold judgeStoreRead
  simp only [hs, hc, (runOk_iff start count).mpr hlegal, if_true, runAddresses, List.flatMap_map]

theorem judgeStoreRead_range (h : ¬(natAt q.params 0 2 ≤ 2047 ∧ 1 ≤ natAt q.params 2 1 ∧ natAt q.params 2 1 ≤ 16 ∧
    natAt q.params 0 2 + natAt q.params 2 1 ≤ 2048)) : judgeStoreRead q s = Reply.refuse s .range := by
  rw [← runOk_iff] at h
  exact if_neg h

theorem StoreEntry.bytes_eq (e : StoreEntry) : e.bytes =
    intBytes 3 e.offset ++ intBytes 2 e.gain ++ [(match e.check with | .good => 0 | .bad => 1 : Byte)] := by
  rw [StoreEntry.bytes, posByte_eq]
  cases e.check <;> rfl

/-! ### COUNTERS_READ and FAULT_READ (R186, R190) -/

theorem judgeCountersRead_of {g : Nat} (hg : natAt q.params 0 1 = g) (hlegal : g ≤ 6) :
    judgeCountersRead q s = Reply.ok s (s.groupData g) := by
  unfold judgeCountersRead
  simp only [hg, groupOk, hlegal, decide_true, if_true]

theorem judgeCountersRead_range (h : 7 ≤ natAt q.params 0 1) : judgeCountersRead q s = Reply.refuse s .range := by
  have hno : groupOk (natAt q.params 0 1) = false := decide_eq_false (by omega)
  unfold judgeCountersRead
  simp [hno]

/-- The capture record and the fault counts, as the statement writes them. -/
theorem captureData_eq (u : StatusUnit) : u.captureData = (match u.capture with
    | none => List.replicate 14 0
    | some f => 1 :: f.bytes) ++ u.faultCounts.toList.flatMap fun x => natBytes 2 x.toNat := by
  have hcounts : u.faultCounts.toList = ([0, 1, 2, 3, 4] : List (Fin 5)).map fun i => u.faultCounts[i] := by
    apply List.ext_getElem
    · simp
    · intro i hi _
      have hlt : i < 5 := by simpa using hi
      interval_cases i <;> rfl
  rw [hcounts, List.flatMap_map]
  unfold StatusUnit.captureData
  cases u.capture <;> rfl

/-! ### The statement -/

/-- Settles O47: each row reads its parameters and answers what its judgement reads, or refuses with RANGE. -/
theorem readsChangeNothing : Obligations.ReadsChangeNothing := by
  intro q s same copyByte
  have hcopy : ∀ copy, choiceAt copyChoice (copyByte copy) = some copy := fun copy => by cases copy <;> rfl
  refine ⟨fun h => ?_, fun x h hq => ?_, fun n copy h hq => ?_, fun k copy h hq => ?_, fun name copy h hq => ?_,
    fun start count h hq hstart hpos hcount hend => ?_, fun g h hq => ?_, fun h => ?_, ?_⟩
  · have hanswer := next_take_read h (judge := judgeIdent) rfl ((SettingsStore.identData_length _).le.trans (by decide))
    rwa [identData_eq] at hanswer
  · have hx : choiceAt sectionChoice (byteAt q.params 0) = some x := by
      rw [hq]
      cases x <;> rfl
    exact next_take_read h (judgeStatus_of hx) (sectionData_eq (taken s) x ▸ State.sectionData_length_le _ x)
  · have hn : channelAt (byteAt q.params 0) = some n := by rw [hq]; exact channelAt_ofNat n
    have hc : choiceAt copyChoice (byteAt q.params 1) = some copy := by rw [hq]; exact hcopy copy
    exact next_take_read h (judgeChannelGet_of hn hc) (by simp)
  · have hk : choiceAt triadChoice (byteAt q.params 0) = some k := by rw [hq]; exact choiceAt_triad k
    have hc : choiceAt copyChoice (byteAt q.params 1) = some copy := by rw [hq]; exact hcopy copy
    exact next_take_read h (judgeTriadGet_of hk hc) (by simp)
  · intro f data frame
    have hname : choiceAt filterChoice (byteAt q.params 0) = some name := by
      rw [hq]
      cases name <;> rfl
    have hc : choiceAt copyChoice (byteAt q.params 1) = some copy := by rw [hq]; exact hcopy copy
    have hdata : s.staging.filterData name copy = data := filterData_eq s.staging name copy
    have hlength : data.length = 4 + 2 * f.length := hdata ▸ filterData_length s.staging name copy
    have hjudge : judgeFilterGet q (taken s) = Reply.ok (taken s) data := hdata ▸ judgeFilterGet_of hname hc
    exact ⟨fun hf => next_take_read h hjudge (by omega), fun hf => next_take_read_long h hjudge (by omega)⟩
  · have hs : natAt q.params 0 2 = start := by rw [hq]; exact natAt_natBytes (n := 2) (by omega)
    have hc : natAt q.params 2 1 = count := by rw [hq]; exact natAt_natBytes (n := 1) (by omega)
    have hanswer := next_take_read h (judgeStoreRead_of hs hc ⟨hstart, hpos, hcount, hend⟩) (by
      rw [flatMap_length_of fun i => StoreEntry.bytes_length _, List.length_range]
      omega)
    simp only [StoreEntry.bytes_eq] at hanswer
    exact hanswer
  · have hg : natAt q.params 0 1 = g.val := by
      rw [hq, natAt_single]
      exact Nat.mod_eq_of_lt (by omega)
    exact next_take_read h (judgeCountersRead_of hg (by omega)) ((State.groupData_length_le _ _).trans (by decide))
  · have hanswer := next_take_read h (judge := judgeFaultRead) rfl ((StatusUnit.captureData_length _).le.trans (by decide))
    rwa [captureData_eq] at hanswer
  · refine ⟨fun b h hq hb => ?_, fun b copy hq => ⟨fun h hout => ?_, fun h hout => ?_, fun h hout => ?_⟩,
      fun start count h hs hc hq hout => ?_, fun b h hq hb => ?_⟩
    · exact next_take_range h (judgeStatus_range (by rw [hq]; exact choiceAt_of_le hb))
    · refine next_take_range h (judgeChannelGet_range ?_)
      rw [hq]
      exact hout.imp channelAt_eq_none_iff.mpr choiceAt_of_le
    · refine next_take_range h (judgeTriadGet_range ?_)
      rw [hq]
      exact hout.imp choiceAt_of_le choiceAt_of_le
    · refine next_take_range h (judgeFilterGet_range ?_)
      rw [hq]
      exact hout.imp choiceAt_of_le choiceAt_of_le
    · have hstart : natAt q.params 0 2 = start := by rw [hq]; exact natAt_natBytes (n := 2) hs
      have hcount : natAt q.params 2 1 = count := by rw [hq]; exact natAt_natBytes (n := 1) hc
      refine next_take_range h (judgeStoreRead_range ?_)
      rw [hstart, hcount]
      omega
    · refine next_take_range h (judgeCountersRead_range ?_)
      rwa [hq, natAt_single]

end Sys2Proof.Machine
end

section
/-! PROOFS. Division with rounding and the bounds of stage A and stage B: O25 (00_scope.md 3.3, R77, R88). -/

namespace Sys2Proof.Machine

/-! ### The size of a rounded quotient (00_scope.md 3.3) -/

/-- The size of a rounded quotient, from the size of the dividend: both modes treat the two signs alike. -/
def quotientSize (mode : Rounding) (m d : Nat) : Nat :=
  match mode with
  | .round => (2 * m + d) / (2 * d)
  | .truncate => m / d

theorem divRound_natCast (mode : Rounding) (m d : Nat) : divRound mode m d = quotientSize mode m d := by
  have hnonneg : ¬ (m : Int) < 0 := by omega
  unfold divRound
  simp only [if_neg hnonneg, Int.natAbs_natCast]
  cases mode <;> rfl

/-- A dividend of size 0 has a quotient of size 0, whatever the divisor. -/
theorem quotientSize_zero (mode : Rounding) (d : Nat) : quotientSize mode 0 d = 0 := by
  cases mode with
  | round =>
    have hsmall : d = 0 ∨ d < 2 * d := by omega
    simpa [quotientSize] using hsmall
  | truncate => exact Nat.zero_div d

theorem divRound_neg_natCast (mode : Rounding) (m d : Nat) : divRound mode (-m) d = -(quotientSize mode m d : Int) := by
  obtain rfl | hpos := Nat.eq_zero_or_pos m
  · rw [Nat.cast_zero, Int.neg_zero, quotientSize_zero]
    exact (divRound_natCast mode 0 d).trans (by rw [quotientSize_zero]; rfl)
  · have hneg : -(m : Int) < 0 := by omega
    unfold divRound
    simp only [if_pos hneg, Int.natAbs_neg, Int.natAbs_natCast]
    cases mode <;> rfl

/-- Both modes are odd functions of the dividend. -/
theorem divRound_neg (mode : Rounding) (n : Int) (d : Nat) : divRound mode (-n) d = -divRound mode n d := by
  obtain ⟨m, rfl | rfl⟩ := n.eq_nat_or_neg
  · rw [divRound_neg_natCast, divRound_natCast]
  · rw [Int.neg_neg, divRound_neg_natCast, divRound_natCast, Int.neg_neg]

theorem divRound_natAbs (mode : Rounding) (n : Int) (d : Nat) :
    (divRound mode n d).natAbs = quotientSize mode n.natAbs d := by
  obtain ⟨m, rfl | rfl⟩ := n.eq_nat_or_neg
  · rw [divRound_natCast, Int.natAbs_natCast, Int.natAbs_natCast]
  · rw [divRound_neg_natCast, Int.natAbs_neg, Int.natAbs_neg, Int.natAbs_natCast, Int.natAbs_natCast]

/-! ### Signs and sizes -/

theorem divRound_nonneg {n : Int} (h : 0 ≤ n) (mode : Rounding) (d : Nat) : 0 ≤ divRound mode n d := by
  obtain ⟨m, rfl⟩ := Int.eq_ofNat_of_zero_le h
  rw [divRound_natCast]
  exact Int.natCast_nonneg _

theorem divRound_nonpos {n : Int} (h : n ≤ 0) (mode : Rounding) (d : Nat) : divRound mode n d ≤ 0 := by
  have hneg := divRound_nonneg (Int.neg_nonneg.mpr h) mode d
  rwa [divRound_neg, Int.neg_nonneg] at hneg

theorem quotientSize_le {m k d : Nat} (hd : 0 < d) (h : m ≤ k * d) (mode : Rounding) : quotientSize mode m d ≤ k := by
  cases mode with
  | round =>
    have hlt : 2 * m + d < 2 * d * (k + 1) := by
      calc 2 * m + d ≤ 2 * (k * d) + d := by omega
        _ < 2 * (k * d) + 2 * d := by omega
        _ = 2 * d * (k + 1) := by ring
    exact Nat.le_of_lt_succ (Nat.div_lt_of_lt_mul hlt)
  | truncate => exact Nat.div_le_of_le_mul (Nat.mul_comm k d ▸ h)

/-- A dividend within k divisors has a quotient within k, in either mode. -/
theorem divRound_natAbs_le {n : Int} {k d : Nat} (hd : 0 < d) (h : n.natAbs ≤ k * d) (mode : Rounding) :
    (divRound mode n d).natAbs ≤ k := by
  rw [divRound_natAbs]
  exact quotientSize_le hd h mode

/-- A product of factors within a and b has a quotient within k when a b is within k divisors. -/
theorem divRound_mul_natAbs_le {x y : Int} {a b k d : Nat} (hd : 0 < d) (hx : x.natAbs ≤ a) (hy : y.natAbs ≤ b)
    (h : a * b ≤ k * d) (mode : Rounding) : (divRound mode (x * y) d).natAbs ≤ k :=
  divRound_natAbs_le hd (Int.natAbs_mul x y ▸ (Nat.mul_le_mul hx hy).trans h) mode

/-! ### The two modes (00_scope.md 3.3) -/

/-- TRUNCATE is the division toward zero. -/
theorem divRound_truncate (n : Int) (d : Nat) : divRound .truncate n d = Int.tdiv n d := by
  obtain ⟨m, rfl | rfl⟩ := n.eq_nat_or_neg
  · rw [divRound_natCast]
    rfl
  · rw [divRound_neg_natCast, Int.neg_tdiv]
    rfl

/-- The product of quotient and divisor is at most half a divisor above the dividend, and less than half a divisor below it. -/
theorem quotientSize_round_bounds (m : Nat) {d : Nat} (hd : 0 < d) :
    2 * (quotientSize .round m d * d) ≤ 2 * m + d ∧ 2 * m < 2 * (quotientSize .round m d * d) + d := by
  have hdivision : 2 * (quotientSize .round m d * d) + (2 * m + d) % (2 * d) = 2 * m + d := by
    calc 2 * (quotientSize .round m d * d) + (2 * m + d) % (2 * d)
        = 2 * d * ((2 * m + d) / (2 * d)) + (2 * m + d) % (2 * d) := by rw [quotientSize]; ring
      _ = 2 * m + d := Nat.div_add_mod _ _
  have hrem : (2 * m + d) % (2 * d) < 2 * d := Nat.mod_lt _ (by omega)
  omega

/-- ROUND of a dividend of either sign: within half a divisor, and at a tie farther from zero than the dividend. -/
theorem divRound_round_nearest (n : Int) {d : Nat} (hd : 0 < d) :
    2 * (divRound .round n d * d - n).natAbs ≤ d ∧
      (2 * (divRound .round n d * d - n).natAbs = d → n.natAbs < (divRound .round n d * d).natAbs) := by
  obtain ⟨m, rfl | rfl⟩ := n.eq_nat_or_neg
  · have hbounds := quotientSize_round_bounds m hd
    rw [divRound_natCast, ← Nat.cast_mul]
    omega
  · have hbounds := quotientSize_round_bounds m hd
    rw [divRound_neg_natCast, Int.neg_mul, ← Nat.cast_mul]
    omega

/-! ### Stage A and stage B (R77, R88) -/

/-- Stage A of counts, scale and offset within 24 bits. -/
theorem ChannelDescriptor.stageA_natAbs_le {d : ChannelDescriptor} {counts : Int} (hcounts : counts.natAbs ≤ 8388608)
    (hscale : d.scale.natAbs ≤ 8388608) (hoffset : d.offset.natAbs ≤ 8388608) : (d.stageA counts).natAbs ≤ 1082130432 := by
  have hquotient : (divRound d.mode (counts * d.scale) 65536).natAbs ≤ 1073741824 :=
    divRound_mul_natAbs_le (by decide) hcounts hscale (by decide) d.mode
  unfold ChannelDescriptor.stageA
  omega

/-- Settles O25: the two modes by the size of the quotient, and each bound by the sizes of the factors. -/
theorem divisionRoundsWithinBounds : Obligations.DivisionRoundsWithinBounds := by
  refine ⟨fun n d hd => ⟨divRound_truncate n d, divRound_round_nearest n hd⟩, ?_⟩
  intro d mode counts gain offset hcounts hscale hoffset hgain hcorrection v1
  have hv1 : v1.natAbs ≤ 1082130432 := ChannelDescriptor.stageA_natAbs_le hcounts hscale hoffset
  have hterm : (divRound mode (v1 * gain) 16777216).natAbs ≤ 2113536 :=
    divRound_mul_natAbs_le (by decide) hv1 hgain (by decide) mode
  refine ⟨hv1, hterm, ?_⟩
  unfold applyCorrection
  omega

end Sys2Proof.Machine
end

section
/-! PROOFS. The first pass of the correction: O28 (R52, R76, R78, R79). -/

namespace Sys2Proof.Machine

open Sys2Proof.Claims

variable {cc : CloseContext} {t : OpenTick} {slots : Vector Slot 16} {acc : Correcting} {n : Fin 16}

/-! ### Saturation (00_scope.md 3.3, R78) -/

theorem outside_iff {lo hi v : Int} : outside lo hi v = true ↔ v < lo ∨ hi < v := by
  simp [outside]

theorem clampInt_of_mem {lo hi v : Int} (hlo : lo ≤ v) (hhi : v ≤ hi) : clampInt lo hi v = v := by
  rw [clampInt, if_neg (Int.not_lt.mpr hlo), if_neg (Int.not_lt.mpr hhi)]

/-- A value outside a range around 0 is held to the end on its own side. -/
theorem clampInt_of_outside {lo hi v : Int} (hlo : lo ≤ 0) (hhi : 0 ≤ hi) (h : v < lo ∨ hi < v) :
    clampInt lo hi v = if v < 0 then lo else hi := by
  unfold clampInt
  split_ifs <;> omega

theorem ChannelDescriptor.stageATemperature_of_mem {d : ChannelDescriptor} {counts : Int} (hlo : -32768 ≤ d.stageA counts)
    (hhi : d.stageA counts ≤ 32767) : d.stageATemperature counts = (d.stageA counts, false) := by
  have hin : outside (-32768) 32767 (d.stageA counts) = false := by
    rw [← Bool.not_eq_true, outside_iff]
    omega
  rw [ChannelDescriptor.stageATemperature, clampInt_of_mem hlo hhi, hin]

theorem ChannelDescriptor.stageATemperature_of_outside {d : ChannelDescriptor} {counts : Int}
    (h : d.stageA counts < -32768 ∨ 32767 < d.stageA counts) :
    d.stageATemperature counts = (if d.stageA counts < 0 then -32768 else 32767, true) := by
  rw [ChannelDescriptor.stageATemperature, clampInt_of_outside (by decide) (by decide) h, outside_iff.mpr h]

/-! ### A TEMPERATURE channel in a close (R52, R76, R79) -/

/-- The first pass leaves a disabled channel, a channel of another kind, and one whose slot is EMPTY (R52, R76). -/
theorem temperatureStep_of_idle (h : (cc.config.channels[n]).enabled = false ∨ (cc.config.channels[n]).kind ≠ .temperature ∨
    slots[n] = .empty) : temperatureStep cc t slots acc n = acc := by
  unfold temperatureStep
  simp only []
  split
  · rename_i htemperature
    simp only [Bool.and_eq_true, beq_iff_eq] at htemperature
    obtain ⟨hon, hkind⟩ := htemperature
    obtain hoff | hother | hempty := h
    · exact absurd (hoff.symm.trans hon) Bool.false_ne_true
    · exact absurd hkind hother
    · rw [hempty]
  · rfl

/-- The state once a channel's held temperature is stamped at a close (R79). -/
def heldStamped (cc : CloseContext) (n : Fin 16) (s : State) (value : Int) : State :=
  s.setCorr { s.corr with held := s.corr.held.set n (some ⟨value, cc.markCount, cc.config.channels[n]⟩) }

section Temperature

variable (hon : (cc.config.channels[n]).enabled = true) (hkind : (cc.config.channels[n]).kind = .temperature)

include hon hkind

theorem temperatureStep_of_missing {o f : Bool} {p : Port} {a : BitVec 4} (hslot : slots[n] = .missing o f p a) :
    temperatureStep cc t slots acc n = ⟨acc.state, acc.samples.set n ⟨none, missingFlags o f⟩⟩ := by
  unfold temperatureStep
  simp only [hon, hkind, beq_self_eq_true, Bool.and_self, if_true, hslot]

/-- A FILLED slot whose value of stage A is within the range (R78, R79). -/
theorem temperatureStep_of_kept {counts : Int} {p : Port} {a : BitVec 4} (hslot : slots[n] = .filled counts p a)
    {v : Int} (hv : (cc.config.channels[n]).stageATemperature counts = (v, false)) :
    temperatureStep cc t slots acc n = ⟨heldStamped cc n acc.state v, acc.samples.set n ⟨some v, 0⟩⟩ := by
  unfold temperatureStep
  simp only [hon, hkind, beq_self_eq_true, Bool.and_self, if_true, hslot, hv]
  rfl

/-- A FILLED slot whose value is saturated (R78, R79). -/
theorem temperatureStep_of_saturated {counts : Int} {p : Port} {a : BitVec 4} (hslot : slots[n] = .filled counts p a)
    (hroom : acc.state.link.output.length < 60) {v : Int}
    (hv : (cc.config.channels[n]).stageATemperature counts = (v, true)) :
    temperatureStep cc t slots acc n =
      ⟨heldStamped cc n (raised acc.state ⟨.saturation, .channel n, t.id.second, t.id.index, .none⟩) v,
        acc.samples.set n ⟨some v, DataFlag.saturated.mask⟩⟩ := by
  unfold temperatureStep
  simp only [hon, hkind, beq_self_eq_true, Bool.and_self, if_true, hslot, hv, State.raiseFault_eq hroom]
  rfl

end Temperature

/-- Settles O28: the outcomes of a TEMPERATURE channel by its slot, and of a FILLED slot by its value's range. -/
theorem stageATemperature : Obligations.StageATemperature := by
  refine ⟨fun cc t slots acc n counts p a hon hkind hslot hroom => ⟨fun hlo hhi => ?_, fun houtside => ?_⟩,
    fun cc t slots acc n => ⟨temperatureStep_of_idle, fun o f p a hon hkind hslot => ?_⟩⟩
  · exact temperatureStep_of_kept hon hkind hslot (ChannelDescriptor.stageATemperature_of_mem hlo hhi)
  · exact temperatureStep_of_saturated hon hkind hslot hroom (ChannelDescriptor.stageATemperature_of_outside houtside)
  · rw [temperatureStep_of_missing hon hkind hslot, missingFlags_eq]

end Sys2Proof.Machine
end

section
/-! PROOFS. Placement in a segment, and the lookup: O29 and O30 (R83, R84, R86, R87). -/

namespace Sys2Proof.Machine

variable {g : Segment} {t : Int}

/-! ### Placement by the distance from the start (R83, R84) -/

theorem Segment.distance_ascending (h : g.direction = .ascending) (t : Int) : g.distance t = t - g.start := by
  rw [distance, h]

theorem Segment.distance_descending (h : g.direction = .descending) (t : Int) : g.distance t = g.start - t := by
  rw [distance, h]

/-- A value before the start takes the first entry alone, clamped. -/
theorem Segment.place_of_before (h : g.distance t < 0) : g.place t = ⟨0, 0, true⟩ := if_pos h

/-- A value beyond the last entry takes the last entry alone, clamped. -/
theorem Segment.place_of_beyond (h : (((g.length - 1) * g.step : Nat) : Int) < g.distance t) :
    g.place t = ⟨g.length - 1, 0, true⟩ := by
  have hfrom : ¬ g.distance t < 0 := by omega
  unfold place
  simp only [if_neg hfrom, if_pos h]

/-- A value at the distance x from the start, within the segment, is not clamped. -/
theorem Segment.place_of_covered {x : Nat} (hx : g.distance t = x) (h : x ≤ (g.length - 1) * g.step) :
    g.place t = ⟨x / g.step, x % g.step, false⟩ := by
  have hfrom : ¬ (x : Int) < 0 := by omega
  have hto : ¬ (((g.length - 1) * g.step : Nat) : Int) < x := by omega
  unfold place
  simp only [hx, if_neg hfrom, if_neg hto, Int.toNat_natCast]

/-- A covered value is placed by the quotient and the remainder of its distance by the step. -/
theorem Segment.place_covered (h0 : 0 ≤ g.distance t) (h : g.distance t ≤ (((g.length - 1) * g.step : Nat) : Int)) :
    (g.place t).clamped = false ∧ ((g.place t).index : Int) = g.distance t / g.step ∧
      ((g.place t).rem : Int) = g.distance t % g.step := by
  obtain ⟨x, hx⟩ := Int.eq_ofNat_of_zero_le h0
  rw [hx] at h
  rw [place_of_covered hx (Int.ofNat_le.mp h), hx]
  exact ⟨rfl, Int.natCast_ediv x g.step, Int.natCast_emod x g.step⟩

/-- The entry of a covered value is one of the segment's, and its remainder is less than a step. -/
theorem Segment.place_covered_bounds (hstep : 1 ≤ g.step) (h0 : 0 ≤ g.distance t)
    (h : g.distance t ≤ (((g.length - 1) * g.step : Nat) : Int)) :
    (g.place t).index ≤ g.length - 1 ∧ (g.place t).rem < g.step := by
  obtain ⟨x, hx⟩ := Int.eq_ofNat_of_zero_le h0
  rw [hx] at h
  rw [place_of_covered hx (Int.ofNat_le.mp h)]
  exact ⟨Nat.div_le_of_le_mul (Nat.mul_comm _ g.step ▸ Int.ofNat_le.mp h), Nat.mod_lt x hstep⟩

/-- The start of a segment is its first entry. -/
theorem Segment.place_first (h : g.distance t = 0) : g.place t = ⟨0, 0, false⟩ := by
  rw [place_of_covered (x := 0) h (Nat.zero_le _), Nat.zero_div, Nat.zero_mod]

/-- The end of a segment is its last entry. -/
theorem Segment.place_last (hstep : 1 ≤ g.step) (h : g.distance t = (((g.length - 1) * g.step : Nat) : Int)) :
    g.place t = ⟨g.length - 1, 0, false⟩ := by
  rw [place_of_covered h (Nat.le_refl _), Nat.mul_div_cancel _ hstep, Nat.mul_mod_left]

/-- Settles O29: each direction by the distance that it measures. -/
theorem placementInASegment : Obligations.PlacementInASegment := by
  refine ⟨?_, by decide⟩
  intro g t _ hstep far
  refine ⟨fun hdir => ?_, fun hdir => ?_⟩
  · have hdist := Segment.distance_ascending hdir
    refine ⟨fun hfrom hto => ?_, fun hbefore => ?_, fun hbeyond => ?_, ?_, ?_, by omega⟩
    · have h0 : 0 ≤ g.distance t := by rw [hdist]; omega
      have hfar : g.distance t ≤ far := by rw [hdist]; omega
      obtain ⟨hclamped, hindex, hrem⟩ := Segment.place_covered h0 hfar
      rw [hdist] at hindex hrem
      exact ⟨hclamped, hindex, hrem, Segment.place_covered_bounds hstep h0 hfar⟩
    · exact Segment.place_of_before (by rw [hdist]; omega)
    · exact Segment.place_of_beyond (by rw [hdist]; omega)
    · exact Segment.place_first (by rw [hdist]; omega)
    · exact Segment.place_last hstep (by rw [hdist]; omega)
  · have hdist := Segment.distance_descending hdir
    refine ⟨fun hfrom hto => ?_, fun hbefore => ?_, fun hbeyond => ?_⟩
    · have h0 : 0 ≤ g.distance t := by rw [hdist]; omega
      have hfar : g.distance t ≤ far := by rw [hdist]; omega
      exact hdist t ▸ Segment.place_covered h0 hfar
    · exact Segment.place_of_before (by rw [hdist]; omega)
    · exact Segment.place_of_beyond (by rw [hdist]; omega)

/-! ### The entries of a lookup (R86) -/

variable {p : Placement} {st : Store} {mode : Rounding}

theorem Segment.addresses_single (h : p.clamped = true ∨ g.length ≤ p.index + 1) : g.addresses p = [g.base + p.index] :=
  if_pos (by simpa using h)

theorem Segment.addresses_pair (hclamped : p.clamped = false) (h : p.index + 1 < g.length) :
    g.addresses p = [g.base + p.index, g.base + p.index + 1] :=
  if_neg (by simpa [hclamped] using h)

/-- One GOOD entry gives its own offset and gain. -/
theorem Store.lookup_single (hgood : st.firstBad (g.addresses p) = none)
    (h : p.clamped = true ∨ g.length ≤ p.index + 1) :
    st.lookup g mode p = .good (st.read (g.base + p.index)).offset (st.read (g.base + p.index)).gain := by
  unfold Store.lookup
  rw [hgood, Segment.addresses_single h]

/-- Two GOOD entries give the straight line between them. -/
theorem Store.lookup_pair (hgood : st.firstBad (g.addresses p) = none) (hclamped : p.clamped = false)
    (h : p.index + 1 < g.length) :
    let e := st.read (g.base + p.index)
    let f := st.read (g.base + p.index + 1)
    st.lookup g mode p =
      .good (interpolate mode e.offset f.offset p.rem g.step) (interpolate mode e.gain f.gain p.rem g.step) := by
  unfold Store.lookup
  rw [hgood, Segment.addresses_pair hclamped h]

/-! ### The straight line between two entries (R87) -/

variable {r step : Nat}

/-- The quotient is no greater than the difference of the two ends. -/
theorem divRound_rise_natAbs_le (h : r < step) (mode : Rounding) (x y : Int) :
    (divRound mode ((y - x) * r) step).natAbs ≤ (y - x).natAbs :=
  divRound_mul_natAbs_le (Nat.zero_lt_of_lt h) (Nat.le_refl _) (Int.natAbs_natCast r ▸ h.le) (Nat.le_refl _) mode

/-- The line lies between its two ends: its rise has the sign of their difference, and no more than its size. -/
theorem interpolate_mem (h : r < step) (mode : Rounding) (x y : Int) :
    min x y ≤ interpolate mode x y r step ∧ interpolate mode x y r step ≤ max x y := by
  have hsize := divRound_rise_natAbs_le h mode x y
  unfold interpolate
  obtain hrising | hfalling := Int.le_total x y
  · have hsign := divRound_nonneg (Int.mul_nonneg (Int.sub_nonneg.mpr hrising) (Int.natCast_nonneg r)) mode step
    omega
  · have hsign := divRound_nonpos
      (Int.mul_nonpos_of_nonpos_of_nonneg (sub_nonpos.mpr hfalling) (Int.natCast_nonneg r)) mode step
    omega

/-- Settles O30: the entries used by the placement, and the line between two of them. -/
theorem lookupInterpolates : Obligations.LookupInterpolates := by
  refine ⟨fun st g mode p hgood => ⟨Store.lookup_single hgood, Store.lookup_pair hgood⟩,
    fun mode x y r step h => ?_, by decide, by decide⟩
  obtain ⟨hmin, hmax⟩ := interpolate_mem h mode x y
  exact ⟨divRound_rise_natAbs_le h mode x y, hmin, hmax, fun lo hi hxlo hxhi hylo hyhi =>
    ⟨(le_min hxlo hylo).trans hmin, hmax.trans (max_le hxhi hyhi)⟩⟩

end Sys2Proof.Machine
end

section
/-! PROOFS. Stage C of a triad: O32 (R97 to R100, R187, R188). -/

namespace Sys2Proof.Machine

open Sys2Proof.Claims

variable {s : State} {d : TriadDescriptor} {k : Fin 2} {tick : TickId} {samples : Vector CorrectedSample 16}

/-! ### The places of the faults of one vector (R187, R188) -/

/-- A fault raised next needs no place in the output queue, or finds one. -/
def FaultRoom (s : State) : Prop := s.status.capture ≠ none ∨ s.link.output.length < 60

/-- The fault that takes the place for a notice freezes the capture record, so a fault after it needs none. -/
theorem FaultRoom.raised (h : FaultRoom s) (f : RaisedFault) : FaultRoom (raised s f) := by
  obtain hfrozen | hroom := h
  · left
    unfold Claims.raised
    simp only []
    rw [if_neg fun hc => hfrozen hc.1]
    exact hfrozen
  · exact raised_room hroom f

/-! ### One component (R99) -/

theorem saturate32_eq (v : Int) : saturate32 v = max (-2147483648) (min 2147483647 v) := by
  unfold saturate32 clampInt
  split_ifs <;> omega

/-- The state after one component of a vector is judged. -/
def componentJudged (tick : TickId) (k : Fin 2) (component : Fin 3) (v : Int) (s : State) : State :=
  if outside32 v then
    raised (counted s (.saturations k)) ⟨.saturation, .triad k, tick.second, tick.index, .component component⟩
  else s

theorem FaultRoom.componentJudged (h : FaultRoom s) (tick : TickId) (k : Fin 2) (component : Fin 3) (v : Int) :
    FaultRoom (componentJudged tick k component v s) := by
  unfold Machine.componentJudged
  split
  · exact FaultRoom.raised (s := counted s (.saturations k)) h _
  · exact h

/-- The model's list of a component, with the component when it saturates, raises what the judgement of the component raises. -/
theorem foldl_component (h : FaultRoom s) (component : Fin 3) (v : Int) :
    (if outside32 v then [component] else []).foldl (State.raiseSaturation tick k) s =
      componentJudged tick k component v s := by
  unfold componentJudged
  split
  · exact State.raiseFault_eq_of_room (s := s.count (.saturations k)) h _
  · rfl

/-! ### The three components, in the order X, Y, Z (R99, R100) -/

theorem Vec3.foldl_saturated (h : FaultRoom s) (v : Vec3) :
    v.saturated.foldl (State.raiseSaturation tick k) s =
      componentJudged tick k 2 v.z (componentJudged tick k 1 v.y (componentJudged tick k 0 v.x s)) := by
  have hx : FaultRoom (componentJudged tick k 0 v.x s) := h.componentJudged tick k 0 v.x
  have hy : FaultRoom (componentJudged tick k 1 v.y (componentJudged tick k 0 v.x s)) := hx.componentJudged tick k 1 v.y
  unfold Vec3.saturated
  rw [List.foldl_append, List.foldl_append, foldl_component h, foldl_component hx, foldl_component hy]

theorem Vec3.saturated_nonempty (v : Vec3) :
    (!v.saturated.isEmpty) = (outside32 v.x || outside32 v.y || outside32 v.z) := by
  unfold Vec3.saturated
  cases outside32 v.x <;> cases outside32 v.y <;> cases outside32 v.z <;> rfl

/-! ### Stage C -/

/-- Three present axis samples form a vector (R98 to R100). -/
theorem State.combine_of_present (h : FaultRoom s) {vx vy vz : Int} (hx : samples[d.axes.x].value = some vx)
    (hy : samples[d.axes.y].value = some vy) (hz : samples[d.axes.z].value = some vz) :
    let v := d.stageC ⟨vx, vy, vz⟩
    s.combine d k tick samples =
      (componentJudged tick k 2 v.z (componentJudged tick k 1 v.y (componentJudged tick k 0 v.x s)),
        ⟨some v.saturate, samples[d.axes.x].flags ||| samples[d.axes.y].flags ||| samples[d.axes.z].flags |||
          DataFlag.saturated.on (outside32 v.x || outside32 v.y || outside32 v.z)⟩) := by
  unfold State.combine
  simp only [hx, hy, hz, Vec3.foldl_saturated h, Vec3.saturated_nonempty]

/-- A missing axis makes the tick a gap, and leaves the state (R97). -/
theorem State.combine_of_absent (h : samples[d.axes.x].value = none ∨ samples[d.axes.y].value = none ∨
    samples[d.axes.z].value = none) : s.combine d k tick samples =
      (s, ⟨none, axisGapFlags samples[d.axes.x] samples[d.axes.y] samples[d.axes.z]⟩) := by
  unfold State.combine
  simp only []
  split
  · rename_i hx hy hz
    simp only [hx, hy, hz, reduceCtorEq, or_self] at h
  · rfl

/-- What an axis sample adds to the flags of a gap (R97). -/
theorem absentFlags_eq (c : CorrectedSample) : (if c.value.isNone then c.flags &&& DataFlags.missing else 0) =
    match c.value with
    | some _ => 0
    | none => c.flags &&& BitVec.ofNat 15 (2 ^ 8 + 2 ^ 9) := by
  cases c.value <;> rfl

/-- Settles O32: a vector's components are judged one after the other, and a missing axis makes a gap. -/
theorem stageCSaturates : Obligations.StageCSaturates := by
  intro s d k tick samples
  refine ⟨fun vx vy vz hx hy hz hroom => ?_, fun habsent => ?_⟩
  · rw [State.combine_of_present (.inr hroom) hx hy hz]
    simp only [Vec3.saturate, saturate32_eq]
    rfl
  · rw [State.combine_of_absent habsent]
    simp only [axisGapFlags, absentFlags_eq]
    rfl

end Sys2Proof.Machine
end

section
/-! PROOFS. The spike screen off and in state CLEAR: O33 (R101 to R103). -/

namespace Sys2Proof.Machine

variable {sc : Screen} {limit : Nat} {p : Suspect} {v r : Vec3}

theorem beyond_eq_true_iff {a b : Vec3} : beyond limit a b = true ↔ limit < a.distance b := decide_eq_true_iff

theorem beyond_eq_false_iff {a b : Vec3} : beyond limit a b = false ↔ a.distance b ≤ limit :=
  decide_eq_false_iff_not.trans Nat.not_lt

/-! ### State CLEAR (R102, R103) -/

theorem Screen.clearStep_gap (sc : Screen) (limit : Nat) (tick : TickId) (flags : DataFlags) :
    sc.clearStep limit tick ⟨none, flags⟩ = ⟨sc, [⟨tick, ⟨none, flags⟩⟩], 0, false, false⟩ := rfl

/-- With the screen off, without a reference, and within L of it, a vector is accepted. -/
theorem Screen.clearStep_of_near (h : limit = 0 ∨ sc.reference = none ∨ ∃ r, sc.reference = some r ∧ v.distance r ≤ limit)
    (tick : TickId) (flags : DataFlags) :
    sc.clearStep limit tick ⟨some v, flags⟩ = ⟨sc.acceptedAs v, [accepted tick v flags], 0, false, false⟩ := by
  unfold Screen.clearStep
  obtain rfl | hnone | ⟨r, hr, hnear⟩ := h
  · cases hr : sc.reference <;> rfl
  · simp [hnone]
  · simp [hr, beyond_eq_false_iff.mpr hnear]

/-- A vector beyond L of the reference is held. -/
theorem Screen.clearStep_of_far (hlimit : 0 < limit) (hr : sc.reference = some r) (hfar : limit < v.distance r)
    (tick : TickId) (flags : DataFlags) :
    sc.clearStep limit tick ⟨some v, flags⟩ = ⟨{ sc with suspect := some ⟨v, flags, tick⟩ }, [], 0, false, false⟩ := by
  unfold Screen.clearStep
  simp [hr, beyond_eq_true_iff.mpr hfar, hlimit.ne']

/-! ### Stage D without a suspect, and with the screen off -/

theorem Screen.stageD_of_clear (h : sc.suspect = none) (limit : Nat) (tick : TickId) (o : TickOutcome) :
    sc.stageD limit tick o = sc.clearStep limit tick o := by
  unfold Screen.stageD
  rw [h]

/-- With the screen off a suspect is released: accepted without STEP before the tick's own outcome (R102). -/
theorem Screen.stageD_of_off (h : sc.suspect = some p) (tick : TickId) (o : TickOutcome) :
    sc.stageD 0 tick o = sc.releaseStep p tick o := by
  unfold Screen.stageD
  rw [h]
  exact if_pos rfl

/-- Settles O33: state CLEAR by the distance to the reference, and the release by state CLEAR with L = 0. -/
theorem screenInClear : Obligations.ScreenInClear := by
  intro sc limit tick v flags
  refine ⟨fun hclear hnear => ?_, fun r hclear hlimit hr hfar => ?_, fun hclear => ?_, fun p hp hoff => ?_⟩
  · rw [Screen.stageD_of_clear hclear, Screen.clearStep_of_near hnear]
    rfl
  · rw [Screen.stageD_of_clear hclear, Screen.clearStep_of_far hlimit hr hfar]
  · rw [Screen.stageD_of_clear hclear, Screen.clearStep_gap]
  · subst hoff
    rw [Screen.stageD_of_off hp, Screen.stageD_of_off hp]
    unfold Screen.releaseStep
    rw [Screen.clearStep_of_near (.inl rfl), Screen.clearStep_gap]
    exact ⟨rfl, rfl⟩

end Sys2Proof.Machine
end

section
/-! PROOFS. The spike screen in state SUSPECT: O34 (R101, R104 to R108, R112). -/

namespace Sys2Proof.Machine

open Sys2Proof.Claims

variable {s u : State} {sc : Screen} {limit : Nat} {p : Suspect} {v r : Vec3} {tick : TickId} {k : Fin 2}

/-! ### A vector against the reference and the suspect (R104 to R107) -/

/-- Within L of the reference: a return (R105). -/
theorem Screen.suspectVector_of_return (hr : sc.reference = some r) (hnear : v.distance r ≤ limit) (tick : TickId)
    (flags : DataFlags) :
    sc.suspectVector p limit tick v flags = ⟨sc.acceptedAs v, [p.spike, accepted tick v flags], 1, false, false⟩ := by
  unfold Screen.suspectVector
  simp [hr, beyond_eq_false_iff.mpr hnear]

/-- Beyond L of the reference and within L of the suspect: a field step (R104). -/
theorem Screen.suspectVector_of_step (hr : sc.reference = some r) (hfar : limit < v.distance r)
    (hnear : v.distance p.vector ≤ limit) (tick : TickId) (flags : DataFlags) :
    sc.suspectVector p limit tick v flags =
      ⟨sc.acceptedAs v, [accepted p.tick p.vector (p.flags ||| DataFlag.step.mask),
        accepted tick v (flags ||| DataFlag.step.mask)], 0, true, false⟩ := by
  unfold Screen.suspectVector
  simp [hr, beyond_eq_true_iff.mpr hfar, beyond_eq_false_iff.mpr hnear]

/-- Beyond L of both, with n below 3: the vector is the new suspect (R106). -/
theorem Screen.suspectVector_of_neither (hr : sc.reference = some r) (hfar : limit < v.distance r)
    (hsuspect : limit < v.distance p.vector) (hrun : sc.run + 1 < 3) (tick : TickId) (flags : DataFlags) :
    sc.suspectVector p limit tick v flags =
      ⟨{ sc with suspect := some ⟨v, flags, tick⟩, run := sc.run + 1 }, [p.spike], 1, false, false⟩ := by
  have hmin : min 3 (sc.run + 1) = sc.run + 1 := Nat.min_eq_right hrun.le
  unfold Screen.suspectVector
  simp [hr, beyond_eq_true_iff.mpr hfar, beyond_eq_true_iff.mpr hsuspect, hmin, hrun]

/-- Beyond L of both, when n reaches 3: the screen reseeds (R107). -/
theorem Screen.suspectVector_of_reseed (hr : sc.reference = some r) (hfar : limit < v.distance r)
    (hsuspect : limit < v.distance p.vector) (hrun : 3 ≤ sc.run + 1) (tick : TickId) (flags : DataFlags) :
    sc.suspectVector p limit tick v flags =
      ⟨sc.acceptedAs v, [p.spike, accepted tick v (flags ||| DataFlag.reseed.mask)], 1, false, true⟩ := by
  have hmin : min 3 (sc.run + 1) = 3 := Nat.min_eq_left hrun
  unfold Screen.suspectVector
  simp [hr, beyond_eq_true_iff.mpr hfar, beyond_eq_true_iff.mpr hsuspect, hmin]

/-! ### Stage D with a suspect -/

theorem Screen.stageD_of_suspect_gap (hp : sc.suspect = some p) (hlimit : 0 < limit) {o : TickOutcome}
    (ho : o.vector = none) (tick : TickId) : sc.stageD limit tick o = sc.suspectGap p tick o := by
  unfold Screen.stageD
  simp only [hp, if_neg hlimit.ne', ho]

theorem Screen.stageD_of_suspect_vector (hp : sc.suspect = some p) (hlimit : 0 < limit) {o : TickOutcome}
    (ho : o.vector = some v) (tick : TickId) : sc.stageD limit tick o = sc.suspectVector p limit tick v o.flags := by
  unfold Screen.stageD
  simp only [hp, if_neg hlimit.ne', ho]

/-! ### What a decision counts and raises (R104 to R107, R112) -/

theorem State.countScreened_of_spike (s : State) (k : Fin 2) (tick : TickId) (x : Screen) (l : List Decision) :
    s.countScreened k tick ⟨x, l, 1, false, false⟩ = counted s (.spikes k) := rfl

theorem State.countScreened_of_step (s : State) (k : Fin 2) (tick : TickId) (x : Screen) (l : List Decision) :
    s.countScreened k tick ⟨x, l, 0, true, false⟩ = counted s (.fieldSteps k) := by
  unfold State.countScreened
  simp only [State.countBy_zero]
  rfl

theorem State.countScreened_of_reseed (h : s.link.output.length < 60) (k : Fin 2) (tick : TickId) (x : Screen)
    (l : List Decision) : s.countScreened k tick ⟨x, l, 1, false, true⟩ =
      raised (counted (counted s (.spikes k)) (.reseeds k)) ⟨.reseed, .triad k, tick.second, tick.index, .none⟩ :=
  State.raiseFault_eq (s := counted (counted s (.spikes k)) (.reseeds k)) h _

/-- Settles O34: the run of an enabled triad is the decision of stage D, with what the decision counts and raises. -/
theorem screenInSuspect : Obligations.ScreenInSuspect := by
  intro s cc k tick samples u o p r d limit hon hlimit hu hp hr _ hroom sc with_ clear spike
  have hrun := State.runTriad_of_enabled hon hu
  refine ⟨fun v ho hnear => ?_, fun v ho hfar hnear => ?_, fun v ho hfar hsuspect hlow => ?_,
    fun v ho hfar hsuspect hthird => ?_, fun ho => ?_⟩
  · rw [hrun, Screen.stageD_of_suspect_vector hp hlimit ho, Screen.suspectVector_of_return hr hnear,
      State.countScreened_of_spike, accepted, ← ho]
    rfl
  · rw [hrun, Screen.stageD_of_suspect_vector hp hlimit ho, Screen.suspectVector_of_step hr hfar hnear,
      State.countScreened_of_step]
    rfl
  · rw [hrun, Screen.stageD_of_suspect_vector hp hlimit ho, Screen.suspectVector_of_neither hr hfar hsuspect hlow,
      State.countScreened_of_spike]
    rfl
  · rw [hrun, Screen.stageD_of_suspect_vector hp hlimit ho, Screen.suspectVector_of_reseed hr hfar hsuspect hthird,
      State.countScreened_of_reseed (s := u.setScreen k _) hroom]
    rfl
  · rw [hrun, Screen.stageD_of_suspect_gap hp hlimit ho]
    rfl

end Sys2Proof.Machine
end

section
/-! PROOFS. Values over a window: O36 (R120 to R123). -/

namespace Sys2Proof.Machine

open Sys2Proof.Claims

/-! ### Bits of data flags (R181) -/

@[simp] theorem DataFlag.getLsbD_mask (x : DataFlag) (i : Nat) : x.mask.getLsbD i = decide (x.index = i) := by
  have hindex : x.index < 15 := by cases x <;> decide
  rw [DataFlag.mask, BitVec.getLsbD_ofNat, Nat.testBit_two_pow, Bool.eq_iff_iff]
  simp only [Bool.and_eq_true, decide_eq_true_eq]
  omega

@[simp] theorem DataFlag.getLsbD_on (x : DataFlag) (b : Bool) (i : Nat) :
    (x.on b).getLsbD i = (b && decide (x.index = i)) := by
  cases b
  · simp [DataFlag.on]
  · simp [DataFlag.on]

@[simp] theorem DataFlags.getLsbD_windowed (i : Nat) : DataFlags.windowed.getLsbD i = decide (i < 11) := by
  have hones : DataFlags.windowed = BitVec.ofNat 15 (2 ^ 11 - 1) := rfl
  rw [hones, BitVec.getLsbD_ofNat, Nat.testBit_two_pow_sub_one, Bool.eq_iff_iff]
  simp only [Bool.and_eq_true, decide_eq_true_eq]
  omega

/-- A bit of a union of sets is a bit of one of them (R121). -/
theorem getLsbD_unionFlags (l : List DataFlags) (i : Nat) : (unionFlags l).getLsbD i = l.any fun x => x.getLsbD i := by
  have hfold (acc : DataFlags) : (l.foldl (· ||| ·) acc).getLsbD i = (acc.getLsbD i || l.any fun x => x.getLsbD i) := by
    induction l generalizing acc with
    | nil => simp
    | cons x l ih => rw [List.foldl_cons, ih, BitVec.getLsbD_or, List.any_cons, Bool.or_assoc]
  rw [unionFlags, hfold, show (0 : DataFlags).getLsbD i = false from BitVec.getLsbD_zero, Bool.false_or]

/-- Two different generations occur exactly when one differs from the first (R122). -/
theorem differ_iff (l : List Num32) : differ l = true ↔ Straddle l := by
  cases l with
  | nil => simp [differ, Straddle]
  | cons g l =>
    simp only [differ, List.any_eq_true, bne_iff_ne]
    constructor
    · rintro ⟨x, hx, hne⟩
      exact ⟨x, g, List.mem_cons_of_mem g hx, List.mem_cons_self, hne⟩
    · rintro ⟨x, y, hx, hy, hne⟩
      by_cases hxg : x = g
      · exact ⟨y, List.mem_of_ne_of_mem (hxg ▸ hne.symm) hy, hxg ▸ hne.symm⟩
      · exact ⟨x, List.mem_of_ne_of_mem hxg hx, hxg⟩

/-- The test against a step point is the statements' (R117, R123). -/
theorem beforeStep_eq (point : Option Num32) (x : Num32) : beforeStep point x = beforePoint point x := by
  cases point <;> rfl

/-! ### Windows (R120) -/

section Windows

variable {α β : Type} (f : Filter)

theorem Filter.windowOf_bind (find : Nat → Option α) (g : α → Option β) :
    ((f.windowOf find).map fun p => (p.1, p.2.bind g)) = f.windowOf fun i => (find i).bind g := by
  simp [Filter.windowOf]

theorem entriesOf_windowOf (find : Nat → Option α) : entriesOf (f.windowOf find) = (List.range f.length).filterMap find := by
  simp [entriesOf, Filter.windowOf]

theorem Window.full_windowOf (find : Nat → Option α) :
    Window.full (f.windowOf find) = ((List.range f.length).map (weight f)).sum := by
  simp only [Window.full, Filter.windowOf, List.map_map]
  rfl

theorem Window.presentWeight_windowOf (find : Nat → Option α) : Window.presentWeight (f.windowOf find) =
    ((List.range f.length).map fun i => if (find i).isSome then weight f i else 0).sum := by
  unfold Filter.windowOf
  induction List.range f.length with
  | nil => rfl
  | cons i l ih =>
    rw [List.map_cons, List.map_cons, List.sum_cons, ← ih]
    cases find i with
    | none => exact (Nat.zero_add _).symm
    | some x => rfl

theorem Window.used_windowOf (find : Nat → Option α) : Window.used (f.windowOf find) =
    (List.range f.length).countP fun i => (find i).isSome := by
  unfold Filter.windowOf
  induction List.range f.length with
  | nil => rfl
  | cons i l ih =>
    rw [List.map_cons, List.countP_cons, ← ih]
    cases find i <;> rfl

theorem Window.weighted_windowOf (find : Nat → Option α) (g : α → Int) : Window.weighted g (f.windowOf find) =
    ((List.range f.length).map fun i => (find i).elim 0 fun x => (weight f i : Int) * g x).sum := by
  unfold Filter.windowOf
  induction List.range f.length with
  | nil => rfl
  | cons i l ih =>
    rw [List.map_cons, List.map_cons, List.sum_cons, ← ih]
    cases find i with
    | none => exact (Int.zero_add _).symm
    | some x => rfl

/-! ### The flags of a value (R121 to R123, R129) -/

/-- The flags of a value over a window: the union of the entries' flags `u`, GAP and PARTIAL, COMMIT_STRADDLE, TIME_STEP. -/
def Window.flags (w : Window α) (q : Nat) (u : DataFlags) (straddle step : Bool) : DataFlags :=
  (u &&& DataFlags.windowed) ||| w.shapeFlags q ||| DataFlag.commitStraddle.on straddle ||| DataFlag.timeStep.on step

section Flags

variable (w : Window α) (q : Nat) (u : DataFlags) (straddle step : Bool)

theorem Window.getLsbD_flags (i : Nat) : (w.flags q u straddle step).getLsbD i = (u.getLsbD i && decide (i < 11) ||
    (if w.passes q then decide (w.presentWeight < w.full) && decide (DataFlag.partialValue.index = i)
      else decide (DataFlag.gap.index = i)) ||
    (straddle && decide (DataFlag.commitStraddle.index = i)) || (step && decide (DataFlag.timeStep.index = i))) := by
  have hshape : (w.shapeFlags q).getLsbD i =
      if w.passes q then decide (w.presentWeight < w.full) && decide (DataFlag.partialValue.index = i)
      else decide (DataFlag.gap.index = i) := by
    unfold Window.shapeFlags
    split
    · exact DataFlag.getLsbD_on _ _ i
    · exact DataFlag.getLsbD_mask _ i
  simp only [Window.flags, BitVec.getLsbD_or, BitVec.getLsbD_and, DataFlags.getLsbD_windowed, DataFlag.getLsbD_on, hshape]

theorem Window.flags_windowed {i : Nat} (hi : i < 11) : (w.flags q u straddle step).getLsbD i = u.getLsbD i := by
  have hgap : DataFlag.gap.index ≠ i := hi.ne'
  have hpartial : DataFlag.partialValue.index ≠ i := (hi.trans (by decide)).ne'
  have hstraddle : DataFlag.commitStraddle.index ≠ i := (hi.trans (by decide)).ne'
  have hstep : DataFlag.timeStep.index ≠ i := (hi.trans (by decide)).ne'
  simp [Window.getLsbD_flags, hi, hgap, hpartial, hstraddle, hstep]

theorem Window.flags_gap : (w.flags q u straddle step).getLsbD 11 = !w.passes q := by
  rw [Window.getLsbD_flags]
  cases w.passes q <;> simp [DataFlag.index]

theorem Window.flags_partial :
    (w.flags q u straddle step).getLsbD 12 = (w.passes q && decide (w.presentWeight < w.full)) := by
  rw [Window.getLsbD_flags]
  cases w.passes q <;> simp [DataFlag.index]

theorem Window.flags_straddle : (w.flags q u straddle step).getLsbD 13 = straddle := by
  rw [Window.getLsbD_flags]
  simp [DataFlag.index]

theorem Window.flags_timeStep : (w.flags q u straddle step).getLsbD 14 = step := by
  rw [Window.getLsbD_flags]
  simp [DataFlag.index]

end Flags

/-! ### Weighted means (R120, R121) -/

/-- A component that is present by the test of its window is the statements' mean, with GAP and PARTIAL. -/
theorem mean_windowOf (mode : Rounding) (find : Nat → Option α) (g : α → Int) (u : DataFlags) (straddle step : Bool) :
    let w : Window α := f.windowOf find
    Mean f mode (fun i => (find i).map g) (if w.passes f.fraction then some (w.mean mode g) else none)
      (w.flags f.fraction u straddle step) := by
  intro w
  have hterm : (fun i => (find i).elim 0 fun x => (weight f i : Int) * g x) = fun i =>
      match (find i).map g with
      | some v => (weight f i : Int) * v
      | none => 0 := by
    funext i
    cases find i <;> rfl
  unfold Mean
  simp only [Option.isSome_map, ← Window.full_windowOf f find, ← Window.presentWeight_windowOf f find]
  constructor
  · intro hpass
    have hpasses : w.passes f.fraction = true := decide_eq_true hpass
    rw [if_pos hpasses, Window.flags_gap, Window.flags_partial, hpasses, Window.mean, Window.weighted_windowOf, hterm]
    exact ⟨rfl, rfl, Bool.true_and _⟩
  · intro hfail
    have hpasses : w.passes f.fraction = false := decide_eq_false (Nat.not_le.mpr hfail)
    rw [Window.flags_gap, Window.flags_partial, hpasses]
    exact ⟨rfl, rfl, rfl⟩

/-- A vector value over a window is the statements'. -/
theorem vectorMean_windowOf (mode : Rounding) (find : Nat → Option Vec3) (u : DataFlags) (straddle step : Bool)
    (generation : Option Num32) :
    let w : Window Vec3 := f.windowOf find
    VectorMean f mode find
      ⟨w.vector mode f.fraction, w.flags f.fraction u straddle step, w.used, generation⟩ := by
  intro w
  have hcomponent (g : Vec3 → Int) (hg : g ⟨w.mean mode Vec3.x, w.mean mode Vec3.y, w.mean mode Vec3.z⟩ = w.mean mode g) :
      Mean f mode (fun i => (find i).map g) ((w.vector mode f.fraction).map g) (w.flags f.fraction u straddle step) := by
    rw [Window.vector, apply_ite (Option.map g), Option.map_some, hg]
    exact mean_windowOf f mode find g u straddle step
  exact ⟨hcomponent Vec3.x rfl, hcomponent Vec3.y rfl, hcomponent Vec3.z rfl, Window.used_windowOf f find⟩

/-- The eleven flags that windows union, over the entries of the window (R121). -/
theorem unioned_flags (w : Window α) (q : Nat) (l : List DataFlags) (straddle step : Bool) :
    Unioned l (w.flags q (unionFlags l) straddle step) := by
  intro i hi
  rw [Window.flags_windowed w q _ straddle step hi, getLsbD_unionFlags]

end Windows

/-! ### Triad second values (R120 to R123) -/

theorem windowTick_zero (t0 : Num32) (h : Nat) : windowTick t0 h 0 = t0 - BitVec.ofNat 32 h := BitVec.add_zero _

/-- A second value by its window: the flags are the four parts of `Window.flags`. -/
theorem secondValue_eq (f : Filter) (mode : Rounding) (history : List TickEntry) (t0 : Num32) (step : Option Num32) :
    let entry (i : Nat) : Option TickEntry := findTick history (windowTick t0 f.half i)
    let entries := (List.range f.length).filterMap entry
    let w : Window Vec3 := f.windowOf fun i => (entry i).bind fun e => e.outcome.vector
    secondValue f mode history t0 step =
      ⟨w.vector mode f.fraction,
        w.flags f.fraction (unionFlags (entries.map fun e => e.outcome.flags)) (differ (entries.map TickEntry.generation))
          (beforePoint step (t0 - BitVec.ofNat 32 f.half)),
        w.used, entries.getLast?.map TickEntry.generation⟩ := by
  simp only [secondValue, Filter.windowOf_bind, entriesOf_windowOf, beforeStep_eq, windowTick_zero]
  rfl

/-- Settles O36: the parts of a value over a window, for the window of a second. -/
theorem secondValueIsTheWeightedMean : Obligations.SecondValueIsTheWeightedMean := by
  intro f mode history t0 step first entry entries value
  have hvalue : value = _ := secondValue_eq f mode history t0 step
  rw [hvalue]
  exact ⟨vectorMean_windowOf f mode _ _ _ _ _, unioned_flags _ _ _ _ _, (Window.flags_straddle _ _ _ _ _ ▸ differ_iff _),
    Window.flags_timeStep _ _ _ _ _, rfl⟩

end Sys2Proof.Machine
end

section
/-! PROOFS. Delta F: O37 (R126). -/

namespace Sys2Proof.Machine

open Sys2Proof.Claims

/-! ### The nearest square root (R126) -/

/-- The bits found so far leave the root between r and r + 2^bits, and the last one leaves it between r and r + 1. -/
theorem sqrtBits_spec (n bits r : Nat) (hlow : r * r ≤ n) (hhigh : n < (r + 2 ^ bits) * (r + 2 ^ bits)) :
    sqrtBits n bits r * sqrtBits n bits r ≤ n ∧ n < (sqrtBits n bits r + 1) * (sqrtBits n bits r + 1) := by
  induction bits generalizing r with
  | zero => exact ⟨hlow, hhigh⟩
  | succ bits ih =>
    have hhalves : r + 2 ^ (bits + 1) = r + 2 ^ bits + 2 ^ bits := by rw [pow_succ]; omega
    rw [hhalves] at hhigh
    unfold sqrtBits
    split
    case isTrue hbit => exact ih _ hbit hhigh
    case isFalse hbit => exact ih r hlow (Nat.lt_of_not_le hbit)

/-- The nearest root is the floor of the root, or one more when the rest exceeds it; so it lies less than a half from the root. -/
theorem nearestSqrt_spec {n : Nat} (hn : n < 2 ^ 64) :
    n ≤ nearestSqrt n * nearestSqrt n + nearestSqrt n ∧ (1 ≤ n → nearestSqrt n * nearestSqrt n < n + nearestSqrt n) ∧
      (n = 0 → nearestSqrt n = 0) := by
  obtain ⟨hlow, hhigh⟩ := sqrtBits_spec n 33 0 (Nat.zero_le n) (hn.trans (by norm_num))
  unfold nearestSqrt
  generalize sqrtBits n 33 0 = r at hlow hhigh
  have hsquare : (r + 1) * (r + 1) = r * r + r + r + 1 := by ring
  rw [hsquare] at hhigh
  simp only []
  split
  case isTrue hrest => exact ⟨by omega, by omega, by omega⟩
  case isFalse hrest =>
    refine ⟨by omega, fun hpos => ?_, fun hzero => ?_⟩
    · have hroot : 0 < r := by
        rcases Nat.eq_zero_or_pos r with rfl | hr
        · omega
        · exact hr
      omega
    · rw [hzero, Nat.le_zero] at hlow
      exact eq_zero_of_mul_self_eq_zero hlow

/-- The nearest root lies less than a half from the root: both bounds, four times over, in the integers. -/
theorem nearestSqrt_bounds {n : Nat} (hn : n < 2 ^ 64) (hpos : 1 ≤ n) :
    (2 * (nearestSqrt n : Int) - 1) ^ 2 < 4 * n ∧ 4 * (n : Int) < (2 * (nearestSqrt n : Int) + 1) ^ 2 := by
  obtain ⟨hhigh, hlow, -⟩ := nearestSqrt_spec hn
  have hlow := hlow hpos
  generalize nearestSqrt n = r at hhigh hlow
  zify at hhigh hlow
  constructor
  · nlinarith only [hlow]
  · nlinarith only [hhigh]

theorem nearestSqrt_mul_self {m : Nat} (hm : m < 2 ^ 32) : nearestSqrt (m * m) = m := by
  obtain ⟨hhigh, hlow, hzero⟩ := nearestSqrt_spec (Nat.mul_self_lt_mul_self hm)
  generalize nearestSqrt (m * m) = r at hhigh hlow hzero
  rcases Nat.eq_zero_or_pos m with rfl | hpos
  · exact hzero rfl
  · have hlow := hlow (Nat.mul_pos hpos hpos)
    refine Nat.le_antisymm (Nat.le_of_not_lt fun hlt => ?_) (Nat.le_of_not_lt fun hlt => ?_)
    · nlinarith only [hlow, hlt]
    · nlinarith only [hhigh, hlt]

/-! ### The sum of squares (R126) -/

theorem Vec3.normSquared_cast (v : Vec3) : (v.normSquared : Int) = v.x * v.x + v.y * v.y + v.z * v.z := by
  simp [Vec3.normSquared]

theorem Vec3.normSquared_lt {v : Vec3} (hx : v.x.natAbs ≤ 2147483648) (hy : v.y.natAbs ≤ 2147483648)
    (hz : v.z.natAbs ≤ 2147483648) : v.normSquared < 2 ^ 64 := by
  have hxx := Nat.mul_self_le_mul_self hx
  have hyy := Nat.mul_self_le_mul_self hy
  have hzz := Nat.mul_self_le_mul_self hz
  unfold Vec3.normSquared
  omega

/-! ### Saturation (R126) -/

section Saturation

variable {f : Int} {v : Vec3}

theorem deltaF_of_within (hlow : -8388607 ≤ f - (nearestSqrt v.normSquared : Int))
    (hhigh : f - (nearestSqrt v.normSquared : Int) ≤ 8388607) :
    deltaF f v = ⟨f - (nearestSqrt v.normSquared : Int), false⟩ := by
  simp [deltaF, clampInt, outside, Int.not_lt.mpr hlow, Int.not_lt.mpr hhigh]

theorem deltaF_of_below (h : f - (nearestSqrt v.normSquared : Int) < -8388607) : deltaF f v = ⟨-8388607, true⟩ := by
  simp [deltaF, clampInt, outside, h]

theorem deltaF_of_above (h : 8388607 < f - (nearestSqrt v.normSquared : Int)) : deltaF f v = ⟨8388607, true⟩ := by
  have hlow : ¬ f - (nearestSqrt v.normSquared : Int) < -8388607 := by omega
  simp [deltaF, clampInt, outside, h, hlow]

end Saturation

/-! ### The examples of section 7.4 -/

theorem deltaF_in_range : deltaF 54000175 ⟨24000000, 6000000, 48000000⟩ = ⟨175, false⟩ := by
  have hsum : Vec3.normSquared ⟨24000000, 6000000, 48000000⟩ = 54000000 * 54000000 := rfl
  have hroot := nearestSqrt_mul_self (m := 54000000) (by norm_num)
  have hdifference : 54000175 - (nearestSqrt (Vec3.normSquared ⟨24000000, 6000000, 48000000⟩) : Int) = 175 := by
    rw [hsum, hroot]
    norm_num
  rw [deltaF_of_within (by omega) (by omega), hdifference]

theorem deltaF_below_range : deltaF 50000000 ⟨60000000, 0, 0⟩ = ⟨-8388607, true⟩ := by
  have hsum : Vec3.normSquared ⟨60000000, 0, 0⟩ = 60000000 * 60000000 := rfl
  have hroot := nearestSqrt_mul_self (m := 60000000) (by norm_num)
  apply deltaF_of_below
  rw [hsum, hroot]
  norm_num

/-- Settles O37: the nearest root by its bounds, the saturation by its cases, the record by the presence of F and of the vector. -/
theorem deltaFOfASecond : Obligations.DeltaFOfASecond := by
  refine ⟨fun v hx hy hz => ?_, fun e c values scalar => ?_, deltaF_in_range, deltaF_below_range⟩
  · have hbound := Vec3.normSquared_lt hx hy hz
    simp only [← Vec3.normSquared_cast]
    refine ⟨by exact_mod_cast hbound, nearestSqrt v.normSquared, Int.natCast_nonneg _, fun hzero => ?_, fun hpos => ?_, fun f =>
      ⟨deltaF_of_within, deltaF_of_below, deltaF_of_above⟩⟩
    · exact_mod_cast (nearestSqrt_spec hbound).2.2 (by exact_mod_cast hzero)
    · exact nearestSqrt_bounds hbound (by exact_mod_cast hpos)
  · simp only [PendingSecond.record]
    cases scalar with
    | none => rfl
    | some x =>
      obtain ⟨value, flags⟩ := x
      cases values.find? fun p => p.1 == 0 with
      | none => cases value <;> rfl
      | some p =>
        obtain ⟨k, vector, flags, used, generation⟩ := p
        cases value <;> cases vector <;> rfl

end Sys2Proof.Machine
end

section
/-! PROOFS. The decimation step: O38 (R117 to R119, R131, R133). -/

namespace Sys2Proof.Machine

open Sys2Proof.Claims

/-! ### The channels and triads in force (R118, R120, R127) -/

theorem Configuration.scalarChannel_eq (c : Configuration) : c.scalarChannel = scalarOf c := by
  rw [Configuration.scalarChannel, allChannels_eq, scalarOf]
  rfl

theorem Configuration.temperatureChannels_eq (c : Configuration) : c.temperatureChannels = temperaturesOf c := by
  rw [Configuration.temperatureChannels, allChannels_eq, temperaturesOf]
  rfl

theorem Configuration.enabledTriads_eq (c : Configuration) : c.enabledTriads = triadsOf c := rfl

/-! ### Histories cut to their youngest members (R117, R124, R127) -/

section Histories

variable {α β : Type}

theorem joinHistory_eq (n : Nat) (l : List α) (x : α) : joinHistory n l x = youngest n (l ++ [x]) := rfl

theorem youngest_of_length_le {n : Nat} {l : List α} (h : l.length ≤ n) : youngest n l = l := by
  rw [youngest, Nat.sub_eq_zero_of_le h, List.drop_zero]

/-- What is too old for a history is too old for every longer one. -/
theorem youngest_youngest_append (n : Nat) (l xs : List α) : youngest n (youngest n l ++ xs) = youngest n (l ++ xs) := by
  have hlength : (youngest n l).length = l.length - (l.length - n) := List.length_drop
  have hcut : l.length - n ≤ l.length := Nat.sub_le _ _
  have hdrop : youngest n l ++ xs = (l ++ xs).drop (l.length - n) := (List.drop_append_of_le_length hcut).symm
  unfold youngest at hdrop ⊢
  rw [hdrop, List.drop_drop, List.length_drop, List.length_append]
  congr 1
  omega

/-- Members that join a history one by one join it together. -/
theorem foldl_joinHistory {n : Nat} {l : List α} (h : l.length ≤ n) (xs : List α) :
    xs.foldl (joinHistory n) l = youngest n (l ++ xs) := by
  induction xs generalizing l with
  | nil => rw [List.foldl_nil, List.append_nil, youngest_of_length_le h]
  | cons x xs ih =>
    rw [List.foldl_cons, ih (joinHistory_length_le n l x), joinHistory_eq, youngest_youngest_append, List.append_assoc]
    rfl

end Histories

/-- The decisions that the tick step point lets through join a tick history (R117, R131). -/
theorem foldl_enterDecision (generation : Num32) (step : Option Num32) {l : List TickEntry} (h : l.length ≤ 64)
    (xs : List Decision) : xs.foldl (enterDecision generation step) l =
      youngest 64 (l ++ (xs.filter fun x => !beforePoint step x.tick.count).map fun x =>
        ⟨x.tick.count, x.outcome, generation⟩) := by
  rw [← foldl_joinHistory h, List.foldl_map, List.foldl_filter]
  congr 1
  funext l x
  rw [enterDecision, beforeStep_eq]
  cases beforePoint step x.tick.count <;> rfl

/-! ### The clears and the decisions of the two triads (R117, R133) -/

/-- Both places of a pair changed, one after the other. -/
theorem set_zero_set_one {α : Type} (v : Vector α 2) (g : Fin 2 → α → α) :
    (v.set (0 : Fin 2) (g 0 v[(0 : Fin 2)])).set (1 : Fin 2) (g 1 (v.set (0 : Fin 2) (g 0 v[(0 : Fin 2)]))[(1 : Fin 2)]) =
      Vector.ofFn fun k => g k v[k] := by
  ext i hi
  interval_cases i <;> simp

theorem Decimator.clearTriad_eq (d : Decimator) (k : Fin 2) (clear : Bool) : d.clearTriad k clear = { d with
    tickHistory := d.tickHistory.set k (if clear then [] else d.tickHistory[k])
    secondHistory := d.secondHistory.set k (if clear then [] else d.secondHistory[k]) } := by
  cases clear
  · simp [Decimator.clearTriad]
  · rfl

/-- Each triad whose screen was foreign loses its histories (R133). -/
theorem Decimator.clearTriads_eq (d : Decimator) (strangers : Fin 2 → Bool) :
    (d.clearTriad 0 (strangers 0)).clearTriad 1 (strangers 1) = { d with
      tickHistory := Vector.ofFn fun k => if strangers k then [] else d.tickHistory[k]
      secondHistory := Vector.ofFn fun k => if strangers k then [] else d.secondHistory[k] } := by
  rw [Decimator.clearTriad_eq, Decimator.clearTriad_eq]
  exact congrArg₂ (fun t x => { d with tickHistory := t, secondHistory := x })
    (set_zero_set_one d.tickHistory fun k l => if strangers k then [] else l)
    (set_zero_set_one d.secondHistory fun k l => if strangers k then [] else l)

/-- The decisions of each triad join its tick history (R117). -/
theorem Decimator.enterDecisions_eq (d : Decimator) (h : ∀ k : Fin 2, (d.tickHistory[k]).length ≤ 64) (generation : Num32)
    (decisions : Fin 2 → List Decision) :
    (d.enterDecisions 0 generation (decisions 0)).enterDecisions 1 generation (decisions 1) = { d with
      tickHistory := Vector.ofFn fun k => youngest 64 (d.tickHistory[k] ++
        ((decisions k).filter fun x => !beforePoint d.tickStep x.tick.count).map fun x =>
          ⟨x.tick.count, x.outcome, generation⟩) } := by
  simp only [← foldl_enterDecision _ _ (h _)]
  exact congrArg (fun t => { d with tickHistory := t })
    (set_zero_set_one d.tickHistory fun k l => (decisions k).foldl (enterDecision generation d.tickStep) l)

/-! ### The clears of roles, the delivery, the points of seconds (R118, R119, R133) -/

theorem Decimator.clearRoles_eq (d : Decimator) (c : Configuration) : d.clearRoles c = { d with
    scalarHistory := if scalarOf c ≠ none ∧ scalarOf c = d.scalarChannel then d.scalarHistory else []
    scalarChannel := scalarOf c
    tempHistory := Vector.ofFn fun n => if decide (n ∈ temperaturesOf c) then d.tempHistory[n] else []
    captures := Vector.ofFn fun n => if decide (n ∈ temperaturesOf c) then d.captures[n] else none } := by
  have hscalar : ((scalarOf c).isSome && scalarOf c == d.scalarChannel) = true ↔
      scalarOf c ≠ none ∧ scalarOf c = d.scalarChannel := by
    rw [Bool.and_eq_true, beq_iff_eq, Option.isSome_iff_ne_none]
  simp only [Decimator.clearRoles, Configuration.scalarChannel_eq, Configuration.temperatureChannels_eq, hscalar,
    List.contains_eq_mem]

/-- The samples of tick index 0 reach the pending entry of that tick, unless it precedes the tick step point (R118, R131). -/
theorem Decimator.deliver_eq (d : Decimator) (tick : TickId) (t : Tick0Samples) :
    (if tick.index = 0 then d.deliver tick t else d) = { d with
      pendingSeconds := if tick.index = 0 ∧ beforePoint d.tickStep tick.count = false then
          d.pendingSeconds.map fun e => if e.t0 = tick.count then { e with samples := some t } else e
        else d.pendingSeconds } := by
  rw [Decimator.deliver, beforeStep_eq]
  by_cases hindex : tick.index = 0
  · cases hpoint : beforePoint d.tickStep tick.count <;> simp [hindex]
  · simp [hindex]

theorem PendingSecond.ready_eq (e : PendingSecond) (f : Filter) (t : Num32) : e.ready f.half t =
    decide ((f.length - 1) / 2 + 1 ≤ (t - e.t0).toNat ∧ (t - e.t0).toNat ≤ 2147483648) :=
  (Bool.decide_and _ _).symm

theorem tick0Samples_eq (cc : CloseContext) (samples : Vector CorrectedSample 16) : tick0Samples cc samples =
    ⟨cc.generation, (scalarOf cc.config).map fun n => (n, samples[n]),
      (temperaturesOf cc.config).map fun n => (n, samples[n])⟩ := by
  rw [tick0Samples, Configuration.scalarChannel_eq, Configuration.temperatureChannels_eq]

/-- Settles O38: the clears, the decisions and the delivery one after the other, each as the statement has it. -/
theorem decimationStep : Obligations.DecimationStep := by
  intro s cc tick samples strangers decisions hlength c entered delivered stays d due
  have hcleared (k : Fin 2) :
      ((((s.dec.clearTriad 0 (strangers 0)).clearTriad 1 (strangers 1)).clearRoles c).tickHistory[k]).length ≤ 64 := by
    rw [Decimator.clearTriads_eq, Decimator.clearRoles_eq]
    simp only [Fin.getElem_fin, Vector.getElem_ofFn]
    split
    · exact Nat.zero_le _
    · exact hlength k
  rw [State.decimate]
  simp only []
  rw [Decimator.deliver_eq, Decimator.enterDecisions_eq _ hcleared, Decimator.clearTriads_eq, Decimator.clearRoles_eq,
    tick0Samples_eq]
  simp only [PendingSecond.ready_eq, Fin.getElem_fin, Vector.getElem_ofFn]
  rfl

end Sys2Proof.Machine
end

section
/-! PROOFS. Minute values, minute records and the schedule of minutes: O40 (R128 to R130, R135, R136). -/

namespace Sys2Proof.Machine

open Sys2Proof.Claims

/-! ### The seconds of a minute (R128, R129) -/

theorem minuteSecond_eq (m : Nat) (k : Int) : minuteSecond m k = BitVec.ofNat 32 (60 * m) + BitVec.ofInt 32 k := by
  rw [minuteSecond, BitVec.ofInt_add, ← BitVec.ofInt_natCast, Nat.cast_mul, Nat.cast_ofNat]

theorem minuteSecond_natCast (m k : Nat) : minuteSecond m k = BitVec.ofNat 32 (60 * m) + BitVec.ofNat 32 k := by
  rw [minuteSecond_eq, BitVec.ofInt_natCast]

theorem minuteSecond_neg (m k : Nat) : minuteSecond m (-k) = BitVec.ofNat 32 (60 * m) - BitVec.ofNat 32 k := by
  rw [minuteSecond_eq, BitVec.ofInt_neg, BitVec.ofInt_natCast, BitVec.sub_eq_add_neg]

theorem minuteWindowSecond_eq (f : Filter) (m i : Nat) : minuteWindowSecond f m i =
    BitVec.ofNat 32 (60 * m) - BitVec.ofNat 32 f.half + BitVec.ofNat 32 i := by
  have hplace : minuteWindowSecond f m i = minuteSecond m (-f.half) + BitVec.ofInt 32 i := by
    rw [minuteWindowSecond, minuteSecond, minuteSecond, ← BitVec.ofInt_add]
    congr 1
    ring
  rw [hplace, minuteSecond_neg, BitVec.ofInt_natCast]

theorem minuteWindowSecond_zero (f : Filter) (m : Nat) :
    minuteWindowSecond f m 0 = BitVec.ofNat 32 (60 * m) - BitVec.ofNat 32 f.half :=
  (minuteWindowSecond_eq f m 0).trans (BitVec.add_zero _)

/-! ### Minute values (R129) -/

/-- A flag that an entry of the window carries, or that the window brings itself (R129). -/
theorem has_unionFlags_or {α : Type} (x : DataFlag) (flags : α → DataFlags) (entries : List α) (b : Bool) :
    (DataFlags.has (unionFlags (entries.map flags)) x || b) = true ↔
      (∃ e ∈ entries, (flags e).getLsbD x.index = true) ∨ b = true := by
  rw [DataFlags.has, getLsbD_unionFlags, List.any_map, Bool.or_eq_true, List.any_eq_true]
  rfl

/-- The flags of a minute value over a window: the entries' own COMMIT_STRADDLE and TIME_STEP count too (R129). -/
theorem minuteFlags_spec {α β : Type} (w : Window β) (q : Nat) (flags : α → DataFlags) (entries : List α)
    (generations : List Num32) (step : Bool) :
    let u := unionFlags (entries.map flags)
    let x := w.flags q u (DataFlags.has u .commitStraddle || differ generations) (DataFlags.has u .timeStep || step)
    Unioned (entries.map flags) x ∧
      (x.getLsbD 13 = true ↔ (∃ e ∈ entries, (flags e).getLsbD 13 = true) ∨ Straddle generations) ∧
      (x.getLsbD 14 = true ↔ (∃ e ∈ entries, (flags e).getLsbD 14 = true) ∨ step = true) := by
  intro u x
  refine ⟨unioned_flags _ _ _ _ _, ?_, ?_⟩
  · rw [Window.flags_straddle, has_unionFlags_or, differ_iff]
    rfl
  · rw [Window.flags_timeStep, has_unionFlags_or]
    rfl

section Values

variable (f : Filter) (mode : Rounding) (m : Nat) (step : Option Num32)

/-- A triad's minute value by its window: the flags are the four parts of `Window.flags`. -/
theorem minuteValue_eq (history : List SecondEntry) :
    let entry (i : Nat) : Option SecondEntry := history.find? fun e =>
      e.second == BitVec.ofNat 32 (60 * m) - BitVec.ofNat 32 f.half + BitVec.ofNat 32 i
    let entries := (List.range f.length).filterMap entry
    let flags := unionFlags (entries.map fun e => e.value.flags)
    let generations := entries.filterMap fun e => e.value.generation
    let w : Window Vec3 := f.windowOf fun i => (entry i).bind fun e => e.value.vector
    minuteValue f mode history m step =
      ⟨w.vector mode f.fraction,
        w.flags f.fraction flags (DataFlags.has flags .commitStraddle || differ generations)
          (DataFlags.has flags .timeStep || beforePoint step (BitVec.ofNat 32 (60 * m) - BitVec.ofNat 32 f.half)),
        w.used, generations.getLast?⟩ := by
  simp only [minuteValue, Filter.windowOf_bind, entriesOf_windowOf, beforeStep_eq, findSecond, minuteWindowSecond_eq,
    BitVec.add_zero]
  rfl

/-- F's minute value by its window (log 39). -/
theorem scalarMinute_eq (history : List ScalarEntry) :
    let entry (i : Nat) : Option ScalarEntry := history.find? fun e =>
      e.second == BitVec.ofNat 32 (60 * m) - BitVec.ofNat 32 f.half + BitVec.ofNat 32 i
    let entries := (List.range f.length).filterMap entry
    let flags := unionFlags (entries.map fun e => e.value.flags)
    let w : Window Int := f.windowOf fun i => (entry i).bind fun e => e.value.value
    scalarMinute f mode history m step =
      ⟨if w.passes f.fraction then some (w.mean mode id) else none,
        w.flags f.fraction flags (DataFlags.has flags .commitStraddle || differ (entries.filterMap ScalarEntry.generation))
          (DataFlags.has flags .timeStep || beforePoint step (BitVec.ofNat 32 (60 * m) - BitVec.ofNat 32 f.half))⟩ := by
  simp only [scalarMinute, Filter.windowOf_bind, entriesOf_windowOf, beforeStep_eq, findScalar, minuteWindowSecond_eq,
    BitVec.add_zero]
  rfl

end Values

/-! ### The minute that is formed (R129, R130, R135, R136) -/

theorem forgetStep_eq (point : Option Num32) (first : Num32) :
    forgetStep point first = if beforePoint point first then point else none := by
  rw [forgetStep, beforeStep_eq]

theorem followingMinute_eq (m : Nat) : followingMinute m = if m = 71582788 then 0 else m + 1 := rfl

theorem State.formMinute_nextMinute (s : State) (c : Configuration) (m : Nat) :
    (s.formMinute c m).dec.nextMinute = some (followingMinute m) := by
  unfold State.formMinute
  simp only []
  split <;> simp

/-! ### The schedule (R128) -/

section Schedule

variable {s : State} {c : Configuration} {m : Nat} {second : Num32}

/-- How far second S lies beyond the point of a minute, modulo 2^32. -/
def secondsPast (f : Filter) (m : Nat) (second : Num32) : Nat := (second - minuteSecond m (f.half : Int)).toNat

theorem minutesBound_eq (f : Filter) (m : Nat) (second : Num32) : minutesBound f m second = secondsPast f m second / 16 + 1 := rfl

/-- A minute is due exactly when S lies less than 2^31 seconds beyond its point. -/
theorem minuteDue_iff (f : Filter) (m : Nat) (second : Num32) :
    minuteDue f m second = true ↔ secondsPast f m second < 2147483648 := by
  unfold minuteDue precedes secondsPast
  generalize minuteSecond m (f.half : Int) = p
  simp only [Bool.not_eq_true', Bool.and_eq_false_iff, decide_eq_false_iff_not]
  bv_omega

/-- The point moves on by 60 seconds, or by 16 from the last minute to minute 0. -/
theorem minuteSecond_following (m : Nat) (k : Int) : minuteSecond (followingMinute m) k =
    minuteSecond m k + BitVec.ofNat 32 (if m = 71582788 then 16 else 60) := by
  rw [minuteSecond_eq, minuteSecond_eq, followingMinute_eq]
  split
  case isTrue hlast =>
    subst hlast
    bv_omega
  case isFalse =>
    rw [Nat.mul_succ, BitVec.ofNat_add]
    ac_rfl

/-- From one due minute to the next due one S comes at least 16 seconds nearer. -/
theorem secondsPast_following (f : Filter) (hnow : secondsPast f m second < 2147483648)
    (hnext : secondsPast f (followingMinute m) second < 2147483648) :
    secondsPast f (followingMinute m) second + 16 ≤ secondsPast f m second := by
  have hstep : 16 ≤ (if m = 71582788 then 16 else 60) ∧ (if m = 71582788 then 16 else 60) ≤ 60 := by split <;> decide
  unfold secondsPast at *
  rw [minuteSecond_following] at *
  generalize minuteSecond m (f.half : Int) = p at *
  generalize (if m = 71582788 then 16 else 60) = step at *
  bv_omega

theorem minutesBound_following (hnow : minuteDue c.minute m second = true)
    (hnext : minuteDue c.minute (followingMinute m) second = true) :
    minutesBound c.minute (followingMinute m) second + 1 ≤ minutesBound c.minute m second := by
  have hnearer := secondsPast_following c.minute ((minuteDue_iff _ _ _).mp hnow) ((minuteDue_iff _ _ _).mp hnext)
  rw [minutesBound_eq, minutesBound_eq]
  omega

theorem State.formMinutes_of_not_due (h : s.dec.nextMinute = some m) (hdue : minuteDue c.minute m second = false) (fuel : Nat) :
    s.formMinutes c second fuel = s := by
  cases fuel with
  | zero => rfl
  | succ fuel => simp [State.formMinutes, h, hdue]

theorem State.formMinutes_of_due (h : s.dec.nextMinute = some m) (hdue : minuteDue c.minute m second = true) (fuel : Nat) :
    s.formMinutes c second (fuel + 1) = (s.formMinute c m).formMinutes c second fuel := by
  simp [State.formMinutes, h, hdue]

/-- Once the fuel reaches the bound of the minute that is next, one more unit forms no other minute. -/
theorem State.formMinutes_succ (h : s.dec.nextMinute = some m) {fuel : Nat}
    (hfuel : minuteDue c.minute m second = true → minutesBound c.minute m second ≤ fuel) :
    s.formMinutes c second (fuel + 1) = s.formMinutes c second fuel := by
  induction fuel generalizing s m with
  | zero =>
    cases hdue : minuteDue c.minute m second with
    | true => exact absurd (hfuel hdue) (Nat.not_succ_le_zero _)
    | false => exact State.formMinutes_of_not_due h hdue 1
  | succ fuel ih =>
    cases hdue : minuteDue c.minute m second with
    | true =>
      rw [State.formMinutes_of_due h hdue, State.formMinutes_of_due h hdue]
      exact ih (s.formMinute_nextMinute c m) fun hnext =>
        Nat.le_of_succ_le_succ ((minutesBound_following hdue hnext).trans (hfuel hdue))
    | false => rw [State.formMinutes_of_not_due h hdue, State.formMinutes_of_not_due h hdue]

/-- More fuel than the bound of the minute that is next forms no other minutes. -/
theorem State.formMinutes_of_le (h : s.dec.nextMinute = some m) {fuel : Nat} (hfuel : minutesBound c.minute m second ≤ fuel) :
    s.formMinutes c second fuel = s.formMinutes c second (minutesBound c.minute m second) := by
  induction fuel, hfuel using Nat.le_induction with
  | base => rfl
  | succ fuel hle ih => rw [State.formMinutes_succ h fun _ => hle, ih]

/-- With a minute that is next, the schedule starts there. -/
theorem State.scheduleMinutes_of_next (h : s.dec.nextMinute = some m) :
    s.scheduleMinutes c second = s.formMinutes c second (minutesBound c.minute m second) := by
  have hsame : { s.dec with nextMinute := some m } = s.dec := by rw [← h]
  unfold State.scheduleMinutes
  simp only [h, Option.getD_some, hsame]
  rfl

/-- Without one it starts at the minute that contains S (log 19). -/
theorem State.scheduleMinutes_of_none (h : s.dec.nextMinute = none) : s.scheduleMinutes c second =
    State.scheduleMinutes { s with dec := { s.dec with nextMinute := some (second.toNat / 60) } } c second := by
  simp only [State.scheduleMinutes, h]
  rfl

theorem State.scheduleMinutes_of_not_due (h : s.dec.nextMinute = some m) (hdue : minuteDue c.minute m second = false) :
    s.scheduleMinutes c second = s := by
  rw [State.scheduleMinutes_of_next h, State.formMinutes_of_not_due h hdue]

/-- A due minute is formed, and the schedule goes on with the next one: the fuel that is left suffices it. -/
theorem State.scheduleMinutes_of_due (h : s.dec.nextMinute = some m) (hdue : minuteDue c.minute m second = true) :
    s.scheduleMinutes c second = (s.formMinute c m).scheduleMinutes c second := by
  have hformed := s.formMinute_nextMinute c m
  rw [State.scheduleMinutes_of_next h, minutesBound_eq, State.formMinutes_of_due h hdue]
  cases hnext : minuteDue c.minute (followingMinute m) second with
  | true =>
    rw [State.scheduleMinutes_of_next hformed]
    exact State.formMinutes_of_le hformed (Nat.le_of_succ_le_succ (minutesBound_following hdue hnext))
  | false => rw [State.formMinutes_of_not_due hformed hnext, State.scheduleMinutes_of_not_due hformed hnext]

end Schedule

/-- The point of a minute is the statement's (R128). -/
theorem minuteDue_eq (f : Filter) (m : Nat) (second : Num32) :
    minuteDue f m second = !before second (BitVec.ofNat 32 (60 * m) + BitVec.ofNat 32 f.half) := by
  rw [minuteDue, minuteSecond_natCast]
  rfl

/-- Settles O40: the values by their windows, the record and what is formed by its parts, the schedule minute by minute. -/
theorem minutesFormed : Obligations.MinutesFormed := by
  refine ⟨fun f mode m step => ?_, fun s c m second => ?_⟩
  · refine ⟨fun history => ?_, fun history => ?_⟩
    · rw [minuteValue_eq]
      exact ⟨vectorMean_windowOf f mode _ _ _ _ _, minuteFlags_spec _ _ _ _ _ _⟩
    · have hmean := mean_windowOf f mode (fun i =>
        (history.find? fun e => e.second == BitVec.ofNat 32 (60 * m) - BitVec.ofNat 32 f.half + BitVec.ofNat 32 i).bind
          fun e => e.value.value) id
      simp only [Option.map_id, id_eq] at hmean
      rw [scalarMinute_eq]
      exact ⟨hmean _ _ _, minuteFlags_spec _ _ _ _ _ _⟩
  · intro temperature triad record half formed
    have htemperature (n : Fin 16) : temperatureMinute (s.dec.captures[n]) m (c.channels[n]).mode = temperature n := by
      simp only [temperature]
      cases s.dec.captures[n] <;> rfl
    have hrecord : s.dec.minuteRecord c m = record := by
      simp only [Decimator.minuteRecord, Configuration.scalarChannel_eq, Configuration.temperatureChannels_eq,
        Configuration.enabledTriads_eq, htemperature]
      rfl
    have hdue : minuteDue c.minute m second = !before second (BitVec.ofNat 32 (60 * m) + half) := minuteDue_eq _ _ _
    refine ⟨?_, State.scheduleMinutes_of_none, fun h hbefore => ?_, fun h hbefore => ?_⟩
    · rw [State.formMinute, hrecord, forgetStep_eq, minuteWindowSecond_zero]
      rfl
    · exact State.scheduleMinutes_of_not_due h (by rw [hdue, hbefore]; rfl)
    · exact State.scheduleMinutes_of_due h (by rw [hdue, hbefore]; rfl)

end Sys2Proof.Machine
end

section
/-! PROOFS. One second at its computation point: O39 (R123 to R125, R127, R128, R130, R132, R134, R136). -/

namespace Sys2Proof.Machine

open Sys2Proof.Claims

/-! ### F and the temperatures of a second (R125, R127) -/

section Values

variable {e : PendingSecond} {c : Configuration}

theorem PendingSecond.scalarValue_of_none (h : scalarOf c = none) : e.scalarValue c = none := by
  rw [PendingSecond.scalarValue, Configuration.scalarChannel_eq, h]

theorem PendingSecond.scalarValue_of_undelivered (h : scalarOf c ≠ none) (hsamples : e.samples = none) :
    e.scalarValue c = some ⟨none, DataFlag.gap.mask⟩ := by
  obtain ⟨n, hn⟩ := Option.ne_none_iff_exists'.mp h
  rw [PendingSecond.scalarValue, Configuration.scalarChannel_eq, hn, hsamples]

/-- A delivered sample is F as it is, but that an absent one passes on only OVERRANGE and DIGITIZER, with GAP. -/
theorem PendingSecond.scalarValue_of_delivered (h : scalarOf c ≠ none) {t : Tick0Samples} (hsamples : e.samples = some t) :
    e.scalarValue c = t.scalar.map fun p => p.2.value.elim
      ⟨none, DataFlag.gap.mask ||| (p.2.flags &&& DataFlags.missing)⟩ fun v => ⟨some v, p.2.flags⟩ := by
  obtain ⟨n, hn⟩ := Option.ne_none_iff_exists'.mp h
  rw [PendingSecond.scalarValue, Configuration.scalarChannel_eq, hn, hsamples]
  obtain ⟨generation, scalar, temperatures⟩ := t
  obtain _ | ⟨k, value, flags⟩ := scalar
  · rfl
  · cases value <;> rfl

theorem PendingSecond.temperature_eq (e : PendingSecond) (n : Fin 16) : e.temperature n =
    e.samples.bind fun t => (t.temperatures.find? fun p => decide (p.1 = n)).bind fun p => p.2.value := by
  unfold PendingSecond.temperature
  cases e.samples with
  | none => rfl
  | some t =>
    change _ = (t.temperatures.find? fun p => p.1 == n).bind fun p => p.2.value
    simp only []
    cases t.temperatures.find? fun p => p.1 == n <;> rfl

/-- The temperatures of a second record (R127, R134). -/
theorem PendingSecond.temperatures_eq (e : PendingSecond) (c : Configuration) :
    (c.temperatureChannels.map fun n => (n, e.temperature n)) = (temperaturesOf c).map fun n => (n, e.samples.bind fun t =>
      (t.temperatures.find? fun p => decide (p.1 = n)).bind fun p => p.2.value) := by
  simp only [Configuration.temperatureChannels_eq, PendingSecond.temperature_eq]

end Values

/-! ### Minute captures (R130) -/

theorem captureOf_eq (history : List TempEntry) (m : Nat) :
    let counted := history.filterMap fun x =>
      if (x.second - (BitVec.ofNat 32 (60 * m) - 30)).toNat < 60 then x.value else none
    captureOf history m = ⟨m, counted.sum, counted.length⟩ := by
  have hfirst : minuteSecond m (-30) = BitVec.ofNat 32 (60 * m) - 30 := minuteSecond_neg m 30
  unfold captureOf
  rw [hfirst]

/-- A channel's capture after a second: the capture of the minute whose last second it is, if it is one (R130; log 21). -/
def takenCapture (second : Num32) (history : List TempEntry) (old : Option MinuteCapture) : Option MinuteCapture :=
  if second.toNat % 60 = 29 then some (captureOf history (second.toNat / 60))
  else if second.toNat = 13 then some (captureOf history 71582788)
  else old

theorem takenCapture_eq (second : Num32) (history : List TempEntry) (old : Option MinuteCapture) :
    takenCapture second history old = (captureMinute second).elim old fun m => some (captureOf history m) := by
  unfold takenCapture captureMinute
  simp only [Config.lastMinute_eq]
  split
  · rfl
  · split <;> rfl

/-! ### A second joins the second-level histories (R124, R125, R127) -/

/-- Steps that each change one place, over different places: each place is changed once. -/
theorem foldl_place {σ α : Type} {n : Nat} (get : σ → Fin n → α) (step : σ → Fin n → σ) (g : Fin n → α → α)
    (hstep : ∀ s k j, get (step s k) j = if j = k then g k (get s k) else get s j) {l : List (Fin n)} (hl : l.Nodup) (s : σ)
    (j : Fin n) : get (l.foldl step s) j = if j ∈ l then g j (get s j) else get s j := by
  induction l generalizing s with
  | nil => simp
  | cons k l ih =>
    obtain ⟨hk, hnodup⟩ := List.nodup_cons.mp hl
    rw [List.foldl_cons, ih hnodup, hstep]
    by_cases hj : j = k
    · subst hj
      simp [hk]
    · simp [hj]

theorem getElem_set_fin {α : Type} {n : Nat} (v : Vector α n) (k j : Fin n) (x : α) :
    (v.set k x)[j] = if j = k then x else v[j] := by
  rw [Fin.getElem_fin, Vector.getElem_set]
  simp [Fin.ext_iff, eq_comm]

theorem enterTriadValue_eq (second : Num32) (d : Decimator) (k : Fin 2) (v : TriadValue) : enterTriadValue second d (k, v) =
    { d with secondHistory := d.secondHistory.set k (youngest 128 (d.secondHistory[k] ++ [⟨second, v⟩])) } := by
  simp only [enterTriadValue, joinHistory_eq, Config.secondHistoryLength_eq]

/-- The second values of different triads join their histories (R124). -/
theorem foldl_enterTriadValue (second : Num32) (value : Fin 2 → TriadValue) {l : List (Fin 2)} (hl : l.Nodup) (d : Decimator) :
    (l.map fun k => (k, value k)).foldl (enterTriadValue second) d = { d with
      secondHistory := Vector.ofFn fun k =>
        if k ∈ l then youngest 128 (d.secondHistory[k] ++ [⟨second, value k⟩]) else d.secondHistory[k] } := by
  rw [List.foldl_map]
  have hrest : l.foldl (fun d k => enterTriadValue second d (k, value k)) d = { d with
      secondHistory := (l.foldl (fun d k => enterTriadValue second d (k, value k)) d).secondHistory } := by
    clear hl
    induction l generalizing d with
    | nil => rfl
    | cons k l ih =>
      rw [List.foldl_cons, enterTriadValue_eq]
      exact (ih _).trans rfl
  have hplace := foldl_place (fun d k => d.secondHistory[k]) (fun d k => enterTriadValue second d (k, value k))
    (fun k l => youngest 128 (l ++ [⟨second, value k⟩])) (fun d k j => by simp only [enterTriadValue_eq, getElem_set_fin]) hl d
  rw [hrest]
  refine congrArg (fun x => { d with secondHistory := x }) (Vector.ext fun i hi => ?_)
  rw [Vector.getElem_ofFn]
  exact hplace ⟨i, hi⟩

/-- The temperature history of a channel after a second (R127). -/
def tempJoined (e : PendingSecond) (n : Fin 16) (l : List TempEntry) : List TempEntry :=
  youngest 60 (l ++ [⟨e.second, e.temperature n⟩])

theorem enterTemperature_eq (e : PendingSecond) (d : Decimator) (n : Fin 16) : enterTemperature e d n = { d with
    tempHistory := d.tempHistory.set n (tempJoined e n d.tempHistory[n])
    captures := d.captures.set n (takenCapture e.second (tempJoined e n d.tempHistory[n]) d.captures[n]) } := by
  rw [takenCapture_eq]
  unfold enterTemperature
  cases captureMinute e.second with
  | none => simp [joinHistory_eq, tempJoined]
  | some m => rfl

/-- The temperatures of different channels join their histories and take the captures (R127, R130). -/
theorem foldl_enterTemperature (e : PendingSecond) {l : List (Fin 16)} (hl : l.Nodup) (d : Decimator) :
    l.foldl (enterTemperature e) d = { d with
      tempHistory := Vector.ofFn fun n => if n ∈ l then tempJoined e n d.tempHistory[n] else d.tempHistory[n]
      captures := Vector.ofFn fun n =>
        if n ∈ l then takenCapture e.second (tempJoined e n d.tempHistory[n]) d.captures[n] else d.captures[n] } := by
  have hrest : l.foldl (enterTemperature e) d = { d with
      tempHistory := (l.foldl (enterTemperature e) d).tempHistory
      captures := (l.foldl (enterTemperature e) d).captures } := by
    clear hl
    induction l generalizing d with
    | nil => rfl
    | cons n l ih =>
      rw [List.foldl_cons, enterTemperature_eq]
      exact (ih _).trans rfl
  have hplace := foldl_place (fun d n => (d.tempHistory[n], d.captures[n])) (enterTemperature e)
    (fun n p => (tempJoined e n p.1, takenCapture e.second (tempJoined e n p.1) p.2)) (fun d k j => by
      simp only [enterTemperature_eq, getElem_set_fin]
      split <;> rfl) hl d
  rw [hrest]
  refine congrArg₂ (fun x y => { d with tempHistory := x, captures := y }) (Vector.ext fun i hi => ?_)
    (Vector.ext fun i hi => ?_)
  · rw [Vector.getElem_ofFn]
    exact (congrArg Prod.fst (hplace ⟨i, hi⟩)).trans (apply_ite Prod.fst _ _ _)
  · rw [Vector.getElem_ofFn]
    exact (congrArg Prod.snd (hplace ⟨i, hi⟩)).trans (apply_ite Prod.snd _ _ _)

theorem enterScalar_eq (second : Num32) (generation : Option Num32) (d : Decimator) (v : Option ScalarValue) :
    enterScalar second generation d v = { d with
      scalarHistory := v.elim d.scalarHistory fun x => youngest 128 (d.scalarHistory ++ [⟨second, x, generation⟩]) } := by
  cases v with
  | none => rfl
  | some x => simp only [enterScalar, joinHistory_eq, Config.secondHistoryLength_eq, Option.elim_some]

theorem triadsOf_nodup (c : Configuration) : (triadsOf c).Nodup := (List.nodup_finRange 2).filter _

theorem mem_triadsOf {c : Configuration} {k : Fin 2} : k ∈ triadsOf c ↔ (c.triads[k]).enabled = true := by
  simp [triadsOf]

theorem temperaturesOf_nodup (c : Configuration) : (temperaturesOf c).Nodup := (List.nodup_finRange 16).filter _

/-- The values of a current-series second join the histories of its triads, of F and of its temperatures. -/
theorem Decimator.enterSecond_eq (d : Decimator) (c : Configuration) (e : PendingSecond) (value : Fin 2 → TriadValue)
    (f : Option ScalarValue) : d.enterSecond c e ((triadsOf c).map fun k => (k, value k)) f = { d with
      secondHistory := Vector.ofFn fun k =>
        if (c.triads[k]).enabled then youngest 128 (d.secondHistory[k] ++ [⟨e.second, value k⟩]) else d.secondHistory[k]
      scalarHistory := f.elim d.scalarHistory fun x =>
        youngest 128 (d.scalarHistory ++ [⟨e.second, x, e.samples.map Tick0Samples.generation⟩])
      tempHistory := Vector.ofFn fun n =>
        if n ∈ temperaturesOf c then tempJoined e n d.tempHistory[n] else d.tempHistory[n]
      captures := Vector.ofFn fun n =>
        if n ∈ temperaturesOf c then takenCapture e.second (tempJoined e n d.tempHistory[n]) d.captures[n]
        else d.captures[n] } := by
  rw [Decimator.enterSecond, Configuration.temperatureChannels_eq, foldl_enterTriadValue _ _ (triadsOf_nodup c), enterScalar_eq,
    foldl_enterTemperature e (temperaturesOf_nodup c)]
  simp only [mem_triadsOf]

/-! ### The second at its point (R119, R123, R134, R136) -/

/-- Settles O39: F by its delivery, the record and the histories by their parts. -/
theorem secondComputed : Obligations.SecondComputed := by
  intro s c e gap f temperature value values record left offered history capture joined
  have hrecord : e.record c values f = record :=
    congrArg (fun x => { e.record c values f with temperatures := x }) (e.temperatures_eq c)
  have hleft (d : Decimator) : { d with
      pendingSeconds := s.dec.pendingSeconds.filter fun p => p.t0 != e.t0
      tickStep := forgetStep s.dec.tickStep (windowTick e.t0 c.second.half 0) } = left d := by
    have hother : (fun p : PendingSecond => p.t0 != e.t0) = fun x => decide (x.t0 ≠ e.t0) := by
      funext p
      rw [Bool.eq_iff_iff, bne_iff_ne, decide_eq_true_iff]
    rw [forgetStep_eq, windowTick_zero, hother]
    rfl
  have hjoined : s.dec.enterSecond c e values f = joined := by
    rw [Decimator.enterSecond_eq]
    simp only [joined, history, capture, tempJoined, takenCapture, captureOf_eq, PendingSecond.temperature_eq]
    congr 1
    clear_value f
    cases f with
    | none => simp only [Option.elim_none]
    | some x => simp only [Option.elim_some]
  have hcompute (d : Decimator) : (if s.link.outputSet.getLsbD 0 then
      (s.setDec (left d)).offerData (.second (e.record c values f)) else s.setDec (left d)) =
        offered { s with dec := left d } := by
    rw [hrecord]
    rfl
  refine ⟨PendingSecond.scalarValue_of_none, PendingSecond.scalarValue_of_undelivered, fun t hscalar hsamples => ?_,
    fun hold => ?_, fun hcurrent => ?_⟩
  · have hf : f = _ := PendingSecond.scalarValue_of_delivered hscalar hsamples
    refine ⟨fun hnone => ?_, fun n v flags hsome => ?_, fun n flags habsent => ?_⟩
    · rw [hf, hnone]
      rfl
    · rw [hf, hsome]
      rfl
    · rw [hf, habsent]
      rfl
  · unfold State.computeSecond
    simp only [hold, if_true, hleft, State.setDec_link]
    exact hcompute s.dec
  · unfold State.computeSecond
    simp only [hcurrent, Bool.false_eq_true, if_false, hleft, State.setDec_link]
    rw [← hjoined]
    exact congrArg (fun u => u.scheduleMinutes c e.second) (hcompute _)

end Sys2Proof.Machine
end

section
/-! PROOFS. COMMIT and the commit check: O52 (R149 to R151, R181). -/

namespace Sys2Proof.Machine

open Sys2Proof.Claims

/-! ### The steps of the check, in the order of its table (R150) -/

section Steps

variable {c : Configuration} {f : CheckFailure} {x : Option CheckFailure} {k : Nat}

/-- The results of the steps of the table of section 8.4, in its order. -/
def Configuration.checks (c : Configuration) : List (Option CheckFailure) :=
  [c.checkPairs, c.checkSources, c.checkPaired, c.checkSegments, c.checkScalars, c.checkTemperatures, c.checkTriad 0,
    c.checkTriad 1, c.checkShared, c.checkFilter .second, c.checkFilter .minute]

theorem Configuration.commitCheck_eq (c : Configuration) : c.commitCheck = c.checks.findSome? id := rfl

/-- The first k steps found nothing. -/
def Configuration.ClearTo (c : Configuration) (k : Nat) : Prop := ∀ x ∈ c.checks.take k, x = none

theorem Configuration.clearTo_zero (c : Configuration) : c.ClearTo 0 := fun _ h => nomatch h

theorem Configuration.clearTo_succ (hx : c.checks[k]? = some x) : c.ClearTo (k + 1) ↔ c.ClearTo k ∧ x = none := by
  simp only [Configuration.ClearTo, List.take_add_one, hx, Option.toList_some, List.forall_mem_append, List.forall_mem_singleton]

/-- The check reports the failure of the first step that has one. -/
theorem Configuration.commitCheck_of_clearTo (h : c.ClearTo k) (hf : c.checks[k]? = some (some f)) : c.commitCheck = some f := by
  obtain ⟨hk, hget⟩ := List.getElem?_eq_some_iff.mp hf
  have hbefore : (c.checks.take k).findSome? id = none := List.findSome?_eq_none_iff.mpr h
  rw [c.commitCheck_eq, ← List.take_append_drop k c.checks, List.findSome?_append, hbefore, Option.none_or,
    List.drop_eq_getElem_cons hk, hget]
  rfl

theorem Configuration.commitCheck_eq_none_iff : c.commitCheck = none ↔ c.ClearTo 11 := List.findSome?_eq_none_iff

end Steps

/-! ### The lowest channel of a kind (R150) -/

theorem find?_allChannels_of_lowest {p : Fin 16 → Bool} {n : Fin 16} (hn : p n = true) (hlow : ∀ m, p m = true → n ≤ m) :
    allChannels.find? p = some n := by
  rw [List.find?_eq_findSome?_guard]
  refine findSome?_of_lowest allChannels_ascending (mem_allChannels n) (by simpa using hn) fun m _ hm => ?_
  rw [Option.guard_eq_none_iff]
  exact Bool.eq_false_iff.mpr fun hp => absurd (hlow m hp) (not_le_of_gt hm)

theorem find?_allChannels_eq_none_iff {p : Fin 16 → Bool} : allChannels.find? p = none ↔ ∀ n, ¬p n = true := by
  simp only [List.find?_eq_none, mem_allChannels, forall_const]

/-- Channel by channel, a step reports the lowest one that stands in a relation to another. -/
theorem findSome?_allChannels_of_lowest {g : Fin 16 → Option (Fin 16)} {report : Fin 16 → Fin 16 → CheckFailure} {n m : Fin 16}
    (hn : g n = some m) (hlow : ∀ n' m', g n' = some m' → n ≤ n') :
    (allChannels.findSome? fun n => (g n).map (report n)) = some (report n m) := by
  refine findSome?_of_lowest allChannels_ascending (mem_allChannels n) (by rw [hn, Option.map_some]) fun n' _ hlt => ?_
  rw [Option.map_eq_none_iff, Option.eq_none_iff_forall_ne_some]
  exact fun m' hm' => absurd (hlow n' m' hm') (not_le_of_gt hlt)

theorem findSome?_allChannels_eq_none_iff {g : Fin 16 → Option (Fin 16)} {report : Fin 16 → Fin 16 → CheckFailure} :
    (allChannels.findSome? fun n => (g n).map (report n)) = none ↔ ∀ n m, g n ≠ some m := by
  rw [List.findSome?_eq_none_iff]
  simp only [mem_allChannels, forall_const, Option.map_eq_none_iff]
  simp only [Option.eq_none_iff_forall_ne_some]

/-! ### Steps 1 to 4: the channels one by one (R150) -/

section Channels

variable {c : Configuration} {m n t : Fin 16}

/-- The lowest channel below n that shares its port and source address. -/
def Configuration.sharer (c : Configuration) (n : Fin 16) : Option (Fin 16) :=
  allChannels.find? fun m => decide (m < n ∧ samePair c m n)

theorem Configuration.checkPairs_eq (c : Configuration) :
    c.checkPairs = allChannels.findSome? fun n => (c.sharer n).map fun m => ⟨.channel n, .pairInUse, some m⟩ := by
  have htest (m n : Fin 16) : (decide (m < n) && (c.channels[n]).enabled && (c.channels[m]).enabled &&
      (c.channels[m]).port == (c.channels[n]).port && (c.channels[m]).source == (c.channels[n]).source) =
        decide (m < n ∧ samePair c m n) := by
    rw [Bool.eq_iff_iff]
    simp only [Bool.and_eq_true, decide_eq_true_eq, beq_iff_eq]
    tauto
  simp only [Configuration.checkPairs, Configuration.sharer, htest]

theorem Configuration.sharer_of_lowest (hlt : m < n) (hpair : samePair c m n) (hlow : ∀ m', samePair c m' n → m' < n → m ≤ m') :
    c.sharer n = some m :=
  find?_allChannels_of_lowest (decide_eq_true ⟨hlt, hpair⟩) fun m' h =>
    have ⟨hlt', hpair'⟩ := of_decide_eq_true h
    hlow m' hpair' hlt'

theorem Configuration.samePair_of_sharer (h : c.sharer n = some m) : m < n ∧ samePair c m n := by
  have htest := List.find?_some (p := fun m => decide (m < n ∧ samePair c m n)) h
  exact of_decide_eq_true htest

theorem Configuration.checkPairs_of (hlt : m < n) (hpair : samePair c m n) (hlow : ∀ m' n', m' < n' → samePair c m' n' → n ≤ n')
    (hlow' : ∀ m', samePair c m' n → m' < n → m ≤ m') : c.checkPairs = some ⟨.channel n, .pairInUse, some m⟩ := by
  rw [c.checkPairs_eq]
  refine findSome?_allChannels_of_lowest (c.sharer_of_lowest hlt hpair hlow') fun n' m' h => ?_
  obtain ⟨hlt', hpair'⟩ := c.samePair_of_sharer h
  exact hlow m' n' hlt' hpair'

theorem Configuration.checkPairs_eq_none_iff : c.checkPairs = none ↔ clean1 c := by
  rw [c.checkPairs_eq, findSome?_allChannels_eq_none_iff]
  refine ⟨fun h m n hlt hpair => ?_, fun h n m hm => ?_⟩
  · have hnone : c.sharer n = none := Option.eq_none_iff_forall_ne_some.mpr (h n)
    exact find?_allChannels_eq_none_iff.mp hnone m (decide_eq_true ⟨hlt, hpair⟩)
  · obtain ⟨hlt, hpair⟩ := c.samePair_of_sharer hm
    exact h m n hlt hpair

/-- The temperature source of an enabled channel, when it is not an enabled TEMPERATURE channel. -/
def Configuration.wrongSource (c : Configuration) (n : Fin 16) : Option (Fin 16) :=
  (c.channels[n]).tempSource.filter fun t => decide (badSource c n t)

theorem Configuration.wrongSource_eq_some_iff : c.wrongSource n = some t ↔ badSource c n t := by
  rw [Configuration.wrongSource, Option.filter_eq_some_iff, decide_eq_true_eq, and_iff_right_iff_imp]
  exact fun ⟨_, hsource, _⟩ => hsource

theorem Configuration.wrongSource_eq_none (h : ∀ t, ¬badSource c n t) : c.wrongSource n = none :=
  Option.eq_none_iff_forall_ne_some.mpr fun t ht => h t (c.wrongSource_eq_some_iff.mp ht)

theorem Configuration.checkSources_eq (c : Configuration) :
    c.checkSources = allChannels.findSome? fun n =>
      (c.wrongSource n).map fun t => ⟨.channel n, .sourceNotTemperature, some t⟩ := by
  unfold Configuration.checkSources
  congr 1
  funext n
  split
  case h_1 t hon hsource =>
    have htest : ((c.channels[t]).enabled && (c.channels[t]).kind == .temperature) = true ↔
        isOn c t ∧ (c.channels[t]).kind = .temperature := by rw [Bool.and_eq_true, beq_iff_eq]
    by_cases ht : isOn c t ∧ (c.channels[t]).kind = .temperature
    · rw [if_pos (htest.mpr ht), c.wrongSource_eq_none]
      · rfl
      · rintro t' ⟨_, hsource', hbad⟩
        cases hsource.symm.trans hsource'
        exact hbad ht
    · rw [if_neg (mt htest.mp ht), c.wrongSource_eq_some_iff.mpr ⟨hon, hsource, ht⟩]
      rfl
  case h_2 hon hsource =>
    rw [c.wrongSource_eq_none fun t ⟨_, hsource', _⟩ => nomatch hsource.symm.trans hsource']
    rfl
  case h_3 hoff =>
    rw [c.wrongSource_eq_none fun t ⟨hon, _⟩ => nomatch hoff.symm.trans hon]
    rfl

theorem Configuration.checkSources_of (hbad : badSource c n t) (hlow : ∀ n' t', badSource c n' t' → n ≤ n') :
    c.checkSources = some ⟨.channel n, .sourceNotTemperature, some t⟩ := by
  rw [c.checkSources_eq]
  exact findSome?_allChannels_of_lowest (c.wrongSource_eq_some_iff.mpr hbad) fun n' t' h =>
    hlow n' t' (c.wrongSource_eq_some_iff.mp h)

theorem Configuration.checkSources_eq_none_iff : c.checkSources = none ↔ ∀ n t, ¬badSource c n t := by
  simp only [c.checkSources_eq, findSome?_allChannels_eq_none_iff, ne_eq, c.wrongSource_eq_some_iff]

theorem unpaired_iff (c : Configuration) (n : Fin 16) :
    ((c.channels[n]).tempSource.isSome != (c.channels[n]).segment.isSome) = true ↔ unpaired c n := bne_iff_ne

theorem Configuration.checkPaired_of (h : unpaired c n) (hlow : ∀ n', unpaired c n' → n ≤ n') :
    c.checkPaired = some ⟨.channel n, .sourceSegmentUnpaired, none⟩ := by
  rw [Configuration.checkPaired,
    find?_allChannels_of_lowest ((unpaired_iff c n).mpr h) fun n' h' => hlow n' ((unpaired_iff c n').mp h')]
  rfl

theorem Configuration.checkPaired_eq_none_iff : c.checkPaired = none ↔ ∀ n, ¬unpaired c n := by
  simp only [Configuration.checkPaired, Option.map_eq_none_iff, find?_allChannels_eq_none_iff, unpaired_iff]

theorem segmented_iff (c : Configuration) (n : Fin 16) :
    ((c.channels[n]).kind == .temperature && (c.channels[n]).segment.isSome) = true ↔ segmented c n := by
  rw [Bool.and_eq_true, beq_iff_eq]

theorem Configuration.checkSegments_of (h : segmented c n) (hlow : ∀ n', segmented c n' → n ≤ n') :
    c.checkSegments = some ⟨.channel n, .segmentOnTemperature, none⟩ := by
  rw [Configuration.checkSegments,
    find?_allChannels_of_lowest ((segmented_iff c n).mpr h) fun n' h' => hlow n' ((segmented_iff c n').mp h')]
  rfl

theorem Configuration.checkSegments_eq_none_iff : c.checkSegments = none ↔ ∀ n, ¬segmented c n := by
  simp only [Configuration.checkSegments, Option.map_eq_none_iff, find?_allChannels_eq_none_iff, segmented_iff]

end Channels

/-! ### Step 5: the enabled SCALAR and TEMPERATURE channels (R150) -/

section Counts

variable {c : Configuration} {m n : Fin 16}

/-- An ascending list begins with a member and the next one, where nothing else lies below the latter. -/
theorem eq_cons_cons_of_ascending {l : List (Fin 16)} (hsorted : l.Pairwise (· < ·)) (hm : m ∈ l) (hn : n ∈ l) (hlt : m < n)
    (hbelow : ∀ x ∈ l, x < n → x = m) : ∃ rest, l = m :: n :: rest := by
  cases l with
  | nil => cases hm
  | cons a rest =>
    obtain ⟨hfirst, hlater⟩ := List.pairwise_cons.mp hsorted
    have ha : a = m := by
      refine hbelow a List.mem_cons_self (lt_of_le_of_lt ?_ hlt)
      rcases List.mem_cons.mp hm with rfl | hm
      · exact le_rfl
      · exact (hfirst m hm).le
    subst ha
    have hn : n ∈ rest := (List.mem_cons.mp hn).resolve_left hlt.ne'
    cases rest with
    | nil => cases hn
    | cons b rest =>
      rcases List.mem_cons.mp hn with rfl | hn
      · exact ⟨rest, rfl⟩
      · have hb : b = a := hbelow b (by simp) (List.rel_of_pairwise_cons hlater hn)
        exact absurd (hfirst b List.mem_cons_self) (hb ▸ lt_irrefl a)

theorem Configuration.mem_scalarChannels : n ∈ c.scalarChannels ↔ isScalar c n := by
  simp only [Configuration.scalarChannels, List.mem_filter, mem_allChannels, true_and, Bool.and_eq_true, beq_iff_eq]

theorem Configuration.scalarChannels_ascending (c : Configuration) : c.scalarChannels.Pairwise (· < ·) :=
  allChannels_ascending.filter _

theorem Configuration.checkScalars_of (hm : isScalar c m) (hn : isScalar c n) (hlt : m < n)
    (hbelow : ∀ x, isScalar c x → x < n → x = m) : c.checkScalars = some ⟨.channel n, .secondScalar, some m⟩ := by
  obtain ⟨rest, hlist⟩ := eq_cons_cons_of_ascending c.scalarChannels_ascending (c.mem_scalarChannels.mpr hm)
    (c.mem_scalarChannels.mpr hn) hlt fun x hx => hbelow x (c.mem_scalarChannels.mp hx)
  rw [Configuration.checkScalars, hlist]

theorem Configuration.checkScalars_eq_none_iff :
    c.checkScalars = none ↔ ∀ m n, isScalar c m → isScalar c n → m = n := by
  have hsorted := c.scalarChannels_ascending
  simp only [← c.mem_scalarChannels, Configuration.checkScalars]
  generalize c.scalarChannels = l at hsorted
  match l with
  | [] => simp
  | [a] => simp
  | a :: b :: rest =>
    have hab : a < b := List.rel_of_pairwise_cons hsorted List.mem_cons_self
    exact ⟨nofun, fun h => absurd (h a b (by simp) (by simp)) hab.ne⟩

theorem Configuration.checkTemperatures_of (h : (temperaturesOf c)[8]? = some n) :
    c.checkTemperatures = some ⟨.channel n, .ninthTemperature, none⟩ := by
  rw [Configuration.checkTemperatures, c.temperatureChannels_eq, h]
  rfl

theorem Configuration.checkTemperatures_eq_none_iff : c.checkTemperatures = none ↔ (temperaturesOf c).length ≤ 8 := by
  rw [Configuration.checkTemperatures, Option.map_eq_none_iff, List.getElem?_eq_none_iff, c.temperatureChannels_eq]

end Counts

/-! ### Step 6: the triads (R150) -/

section Triads

variable {c : Configuration} {k : Fin 2} {n : Fin 16}

theorem Axes.repeated_eq_some_iff (a : Axes) (n : Fin 16) : a.repeated = some n ↔ 2 ≤ [a.x, a.y, a.z].count n := by
  simp only [List.count_cons, List.count_nil, beq_iff_eq, Axes.repeated]
  by_cases hx : a.x = a.y ∨ a.x = a.z
  · rw [if_pos hx, Option.some_inj]
    rcases hx with hxy | hxz
    · grind
    · grind
  · rw [if_neg hx]
    by_cases hyz : a.y = a.z
    · rw [if_pos hyz, Option.some_inj]
      grind
    · rw [if_neg hyz]
      grind

/-- The first member with a property, told by those before it. -/
theorem find?_of_takeWhile {α : Type} [BEq α] [LawfulBEq α] {p : α → Bool} {l : List α} {x : α} (hx : x ∈ l) (hp : p x = true)
    (hbefore : ∀ y ∈ l.takeWhile fun y => y != x, ¬p y = true) : l.find? p = some x := by
  induction l with
  | nil => cases hx
  | cons a rest ih =>
    by_cases ha : a = x
    · rw [ha, List.find?_cons_of_pos hp]
    · have hne : (a != x) = true := bne_iff_ne.mpr ha
      rw [List.takeWhile_cons_of_pos (p := fun y => y != x) hne, List.forall_mem_cons] at hbefore
      obtain ⟨hnot, hlater⟩ := hbefore
      rw [List.find?_cons_of_neg hnot]
      exact ih ((List.mem_cons.mp hx).resolve_left (Ne.symm ha)) hlater

/-- The test of an axis. -/
theorem not_isAxis_iff (c : Configuration) (n : Fin 16) :
    (!((c.channels[n]).enabled && (c.channels[n]).kind == .axis)) = true ↔ ¬isAxis c n := by
  rw [Bool.not_eq_true', ← Bool.not_eq_true, Bool.and_eq_true, beq_iff_eq]

theorem Configuration.checkTriad_of_off (hoff : ¬(c.triads[k]).enabled = true) : c.checkTriad k = none := if_neg hoff

theorem Configuration.checkTriad_of_repeated (h : repeatedAxis c k n) :
    c.checkTriad k = some ⟨.triad k, .axisRepeated, some n⟩ := by
  obtain ⟨hon, hcount⟩ := h
  simp only [Configuration.checkTriad, hon, if_true, (Axes.repeated_eq_some_iff _ n).mpr hcount]

/-- Without a repeated axis, the axes are tested in the order x, y, z. -/
theorem Configuration.checkTriad_of_distinct (hon : (c.triads[k]).enabled = true) (h : ∀ m, ¬repeatedAxis c k m) :
    c.checkTriad k = ((axesOf c k).find? fun n => !((c.channels[n]).enabled && (c.channels[n]).kind == .axis)).map
      fun n => ⟨.triad k, .axisNotAxis, some n⟩ := by
  have hdistinct : (c.triads[k]).axes.repeated = none :=
    Option.eq_none_iff_forall_ne_some.mpr fun m hm => h m ⟨hon, (Axes.repeated_eq_some_iff _ m).mp hm⟩
  simp only [Configuration.checkTriad, hon, if_true, hdistinct, Axes.list]

theorem Configuration.checkTriad_of_stray (h : ∀ m, ¬repeatedAxis c k m) (hstray : strayAxis c k n)
    (hbefore : ∀ m ∈ (axesOf c k).takeWhile fun x => x != n, ¬strayAxis c k m) :
    c.checkTriad k = some ⟨.triad k, .axisNotAxis, some n⟩ := by
  obtain ⟨hon, hmem, hnot⟩ := hstray
  rw [c.checkTriad_of_distinct hon h, find?_of_takeWhile hmem ((not_isAxis_iff c n).mpr hnot) fun m hm htest => ?_]
  · rfl
  · exact hbefore m hm ⟨hon, (List.takeWhile_sublist _).subset hm, (not_isAxis_iff c m).mp htest⟩

theorem Configuration.checkTriad_eq_none_iff : c.checkTriad k = none ↔ soundTriad c k := by
  by_cases hon : (c.triads[k]).enabled = true
  · by_cases h : ∃ m, repeatedAxis c k m
    · obtain ⟨m, hm⟩ := h
      rw [c.checkTriad_of_repeated hm]
      exact ⟨nofun, fun hsound => absurd hm (hsound m).1⟩
    · rw [not_exists] at h
      simp only [c.checkTriad_of_distinct hon h, Option.map_eq_none_iff, List.find?_eq_none, not_isAxis_iff, soundTriad, h,
        not_false_eq_true, true_and, strayAxis, hon, not_and]
  · rw [c.checkTriad_of_off hon]
    exact ⟨fun _ _ => ⟨fun ⟨h, _⟩ => hon h, fun ⟨h, _⟩ => hon h⟩, fun _ => rfl⟩

theorem sharedAxis_iff (c : Configuration) (n : Fin 16) : sharedAxis c n ↔
    ((c.triads[0]).enabled && (c.triads[1]).enabled) = true ∧
      ((c.triads[0]).axes.list.contains n && (c.triads[1]).axes.list.contains n) = true := by
  rw [Bool.and_eq_true, Bool.and_eq_true, List.contains_iff_mem, List.contains_iff_mem, and_assoc]
  exact Iff.rfl

theorem Configuration.checkShared_of (h : sharedAxis c n) (hlow : ∀ n', sharedAxis c n' → n ≤ n') :
    c.checkShared = some ⟨.triad 1, .axisInBoth, some n⟩ := by
  obtain ⟨hon, hn⟩ := (sharedAxis_iff c n).mp h
  rw [Configuration.checkShared, if_pos hon,
    find?_allChannels_of_lowest hn fun n' hn' => hlow n' ((sharedAxis_iff c n').mpr ⟨hon, hn'⟩)]
  rfl

theorem Configuration.checkShared_eq_none_iff : c.checkShared = none ↔ ∀ n, ¬sharedAxis c n := by
  simp only [sharedAxis_iff, Configuration.checkShared]
  by_cases hon : ((c.triads[0]).enabled && (c.triads[1]).enabled) = true
  · simp only [hon, if_true, Option.map_eq_none_iff, find?_allChannels_eq_none_iff, true_and]
  · rw [if_neg hon]
    exact ⟨fun _ _ ⟨hboth, _⟩ => hon hboth, fun _ => rfl⟩

end Triads

/-! ### Step 7: the filters (R144, R150) -/

section Filters

variable {c : Configuration} {name : FilterName}

/-- The least W of each filter (R144). -/
def FilterName.low : FilterName → Nat
  | .second => 1
  | .minute => 61

/-- The greatest W of each filter (R144). -/
def FilterName.high : FilterName → Nat
  | .second => 63
  | .minute => 127

theorem FilterName.not_lengthOk_iff (name : FilterName) (f : Filter) :
    (!name.lengthOk f.length) = true ↔ lengthBeyond f name.low name.high := by
  cases name <;> simp only [FilterName.lengthOk, FilterName.low, FilterName.high, Bool.not_eq_true', Bool.and_eq_false_iff,
    decide_eq_false_iff_not, not_le]

theorem weightless_iff (f : Filter) : f.weightless = true ↔ weightless f := by
  simp only [Filter.weightless, List.all_eq_true, List.mem_range, beq_iff_eq]
  rfl

theorem Configuration.checkFilter_of_even (h : evenLength (c.filter name)) :
    c.checkFilter name = some ⟨.filter name, .lengthEven, none⟩ := if_pos h

theorem Configuration.checkFilter_of_beyond (h : ¬evenLength (c.filter name))
    (hrange : lengthBeyond (c.filter name) name.low name.high) :
    c.checkFilter name = some ⟨.filter name, .lengthRange, none⟩ :=
  (if_neg h).trans (if_pos ((name.not_lengthOk_iff _).mpr hrange))

/-- With an odd length in range, the weights decide. -/
theorem Configuration.checkFilter_of_within (h : ¬evenLength (c.filter name))
    (hrange : ¬lengthBeyond (c.filter name) name.low name.high) :
    c.checkFilter name = if (c.filter name).weightless then some ⟨.filter name, .weightsZero, none⟩ else none :=
  (if_neg h).trans (if_neg (mt (name.not_lengthOk_iff _).mp hrange))

theorem Configuration.checkFilter_of_weightless (h : ¬evenLength (c.filter name))
    (hrange : ¬lengthBeyond (c.filter name) name.low name.high) (hzero : weightless (c.filter name)) :
    c.checkFilter name = some ⟨.filter name, .weightsZero, none⟩ := by
  rw [c.checkFilter_of_within h hrange, if_pos ((weightless_iff _).mpr hzero)]

theorem Configuration.checkFilter_eq_none_iff : c.checkFilter name = none ↔
    ¬evenLength (c.filter name) ∧ ¬lengthBeyond (c.filter name) name.low name.high ∧ ¬weightless (c.filter name) := by
  by_cases heven : evenLength (c.filter name)
  · rw [c.checkFilter_of_even heven]
    exact ⟨nofun, fun ⟨hodd, _⟩ => absurd heven hodd⟩
  by_cases hrange : lengthBeyond (c.filter name) name.low name.high
  · rw [c.checkFilter_of_beyond heven hrange]
    exact ⟨nofun, fun ⟨_, hwithin, _⟩ => absurd hrange hwithin⟩
  · simp only [c.checkFilter_of_within heven hrange, ← weightless_iff, ite_eq_right_iff, reduceCtorEq, imp_false, heven, hrange,
      not_false_eq_true, true_and]

end Filters

/-! ### What the steps before a step leave clean (R150) -/

section Clean

variable {c : Configuration}

theorem clearTo_one_iff : c.ClearTo 1 ↔ clean1 c := by
  rw [Configuration.clearTo_succ rfl, c.checkPairs_eq_none_iff, and_iff_right c.clearTo_zero]

theorem clearTo_two_iff : c.ClearTo 2 ↔ clean2 c := by
  rw [Configuration.clearTo_succ rfl, c.checkSources_eq_none_iff, clearTo_one_iff]

theorem clearTo_three_iff : c.ClearTo 3 ↔ clean3 c := by
  rw [Configuration.clearTo_succ rfl, c.checkPaired_eq_none_iff, clearTo_two_iff]

theorem clearTo_four_iff : c.ClearTo 4 ↔ clean4 c := by
  rw [Configuration.clearTo_succ rfl, c.checkSegments_eq_none_iff, clearTo_three_iff]

theorem clearTo_five_iff : c.ClearTo 5 ↔ clean5 c := by
  rw [Configuration.clearTo_succ rfl, c.checkScalars_eq_none_iff, clearTo_four_iff]

theorem clearTo_six_iff : c.ClearTo 6 ↔ clean6 c := by
  rw [Configuration.clearTo_succ rfl, c.checkTemperatures_eq_none_iff, clearTo_five_iff]

theorem clearTo_seven_iff : c.ClearTo 7 ↔ clean6 c ∧ soundTriad c 0 := by
  rw [Configuration.clearTo_succ rfl, c.checkTriad_eq_none_iff, clearTo_six_iff]

theorem clearTo_eight_iff : c.ClearTo 8 ↔ clean7 c := by
  rw [Configuration.clearTo_succ rfl, c.checkTriad_eq_none_iff, clearTo_seven_iff, and_assoc]

theorem clearTo_nine_iff : c.ClearTo 9 ↔ clean8 c := by
  rw [Configuration.clearTo_succ rfl, c.checkShared_eq_none_iff, clearTo_eight_iff]

theorem clearTo_ten_iff : c.ClearTo 10 ↔ clean9 c := by
  rw [Configuration.clearTo_succ rfl, c.checkFilter_eq_none_iff, clearTo_nine_iff]
  exact Iff.rfl

theorem clearTo_eleven_iff : c.ClearTo 11 ↔
    clean9 c ∧ ¬evenLength c.minute ∧ ¬lengthBeyond c.minute 61 127 ∧ ¬weightless c.minute := by
  rw [Configuration.clearTo_succ rfl, c.checkFilter_eq_none_iff, clearTo_ten_iff]
  exact Iff.rfl

/-- A triad's failure is the check's once the steps before it, triad 0 among them for triad 1, found nothing. -/
theorem commitCheck_of_checkTriad {k : Fin 2} {f : CheckFailure} (hclean : clean6 c) (hfirst : k = 1 → soundTriad c 0)
    (hf : c.checkTriad k = some f) : c.commitCheck = some f := by
  match k with
  | 0 => exact Configuration.commitCheck_of_clearTo (clearTo_six_iff.mpr hclean) (congrArg some hf)
  | 1 => exact Configuration.commitCheck_of_clearTo (clearTo_seven_iff.mpr ⟨hclean, hfirst rfl⟩) (congrArg some hf)

theorem commitCheck_of_checkFilter_second {f : CheckFailure} (hclean : clean8 c) (hf : c.checkFilter .second = some f) :
    c.commitCheck = some f :=
  Configuration.commitCheck_of_clearTo (clearTo_nine_iff.mpr hclean) (congrArg some hf)

theorem commitCheck_of_checkFilter_minute {f : CheckFailure} (hclean : clean9 c) (hf : c.checkFilter .minute = some f) :
    c.commitCheck = some f :=
  Configuration.commitCheck_of_clearTo (clearTo_ten_iff.mpr hclean) (congrArg some hf)

end Clean

/-! ### COMMIT that is taken (R149, R151) -/

section Answers

variable {s : State} {q : Request}

/-- Neither a commit nor a restart is scheduled, and no save runs: cases 1 to 3 of R149 are past. -/
def State.CommitFree (s : State) : Prop :=
  s.staging.commitScheduled = false ∧ s.staging.restartScheduled = false ∧ s.settings.save = none

theorem judgeCommit_busy (h : ¬s.CommitFree) : judgeCommit q s = Reply.refuse s .busy := by
  unfold judgeCommit
  split_ifs with hcommit hrestart hsave
  · rfl
  · rfl
  · rfl
  all_goals exact absurd ⟨by simpa using hcommit, by simpa using hrestart, by simpa using hsave⟩ h

/-- With cases 1 to 3 past, the pending configuration decides. -/
theorem judgeCommit_free (h : s.CommitFree) : judgeCommit q s =
    if s.staging.pendingConfig = s.staging.active then Reply.ok s noChangeByte
    else s.staging.pendingConfig.commitCheck.elim
      (Reply.ok (s.setStaging { s.staging with commitScheduled := true }) scheduledByte)
      fun f => Reply.of s .conflict f.bytes := by
  obtain ⟨hcommit, hrestart, hsave⟩ := h
  unfold judgeCommit
  rw [hcommit, hrestart, hsave]
  cases s.staging.pendingConfig.commitCheck <;> rfl

theorem judgeCommit_unchanged (h : s.CommitFree) (hsame : s.staging.pendingConfig = s.staging.active) :
    judgeCommit q s = Reply.ok s noChangeByte := (judgeCommit_free h).trans (if_pos hsame)

theorem judgeCommit_conflict (h : s.CommitFree) (hnew : s.staging.pendingConfig ≠ s.staging.active) {f : CheckFailure}
    (hf : s.staging.pendingConfig.commitCheck = some f) : judgeCommit q s = Reply.of s .conflict f.bytes := by
  rw [judgeCommit_free h, if_neg hnew, hf, Option.elim_some]

theorem judgeCommit_scheduled (h : s.CommitFree) (hnew : s.staging.pendingConfig ≠ s.staging.active)
    (hnone : s.staging.pendingConfig.commitCheck = none) :
    judgeCommit q s = Reply.ok (s.setStaging { s.staging with commitScheduled := true }) scheduledByte := by
  rw [judgeCommit_free h, if_neg hnew, hnone, Option.elim_none]

/-! ### The data of a CONFLICT response (R150, R181) -/

theorem CheckObject.bytes_eq (o : CheckObject) : o.bytes = match o with
    | .channel n => [0, BitVec.ofNat 8 n.val]
    | .triad k => [1, BitVec.ofNat 8 k.val]
    | .filter .second => [2, 0]
    | .filter .minute => [2, 1] := by
  cases o with
  | filter name => cases name <;> rfl
  | channel n => rw [CheckObject.bytes, natBytes_one, natBytes_one]; rfl
  | triad k => rw [CheckObject.bytes, natBytes_one, natBytes_one]; rfl

theorem CheckReason.position_byte (r : CheckReason) : BitVec.ofNat 8 r.position = match r with
    | .pairInUse => 0
    | .sourceNotTemperature => 1
    | .sourceSegmentUnpaired => 2
    | .segmentOnTemperature => 3
    | .secondScalar => 4
    | .ninthTemperature => 5
    | .axisRepeated => 6
    | .axisNotAxis => 7
    | .axisInBoth => 8
    | .lengthEven => 9
    | .lengthRange => 10
    | .weightsZero => 11 := by
  cases r <;> rfl

theorem CheckFailure.bytes_eq (f : CheckFailure) : f.bytes = failureBytes f := by
  rw [CheckFailure.bytes, failureBytes, posByte_eq, CheckReason.position_byte, CheckObject.bytes_eq]
  congr 1
  cases f.related with
  | none => rfl
  | some n => rw [Option.map_some, optNatBytes, natBytes_one, natBytes_one]; rfl

/-! ### Cases 4 to 6 of R149 -/

theorem exec_commit_unchanged (h : Ready s .commit q) (hfree : s.CommitFree) (hsame : s.staging.pendingConfig = s.staging.active) :
    exec .commit s = .next (answered (taken s) q .ok [0]) :=
  next_take_read h (judgeCommit_unchanged (s := taken s) hfree hsame) (by decide)

theorem exec_commit_conflict (h : Ready s .commit q) (hfree : s.CommitFree) (hnew : s.staging.pendingConfig ≠ s.staging.active)
    {f : CheckFailure} (hf : s.staging.pendingConfig.commitCheck = some f) :
    exec .commit s = .next (answered (taken s) q .conflict (failureBytes f)) := by
  have hj := judgeCommit_conflict (q := q) (s := taken s) hfree hnew hf
  refine congrArg Host.Outcome.next ?_
  rw [State.take_of_ready h, hj, Reply.finish_of _ _ _ _ (by simp), CheckFailure.bytes_eq]
  rfl

theorem exec_commit_scheduled (h : Ready s .commit q) (hfree : s.CommitFree) (hnew : s.staging.pendingConfig ≠ s.staging.active)
    (hnone : s.staging.pendingConfig.commitCheck = none) :
    exec .commit s = .next { answered (taken s) q .ok [1] with staging := { s.staging with commitScheduled := true } } := by
  have hj := judgeCommit_scheduled (q := q) (s := taken s) hfree hnew hnone
  refine congrArg Host.Outcome.next ?_
  rw [State.take_of_ready h, hj, Reply.ok, Reply.finish_of _ _ _ _ (by decide)]
  rfl

end Answers

/-- Settles O52: COMMIT by its six cases, each failure of the check by what the steps before it found, no failure by all of them. -/
theorem commitAnsweredByTheCheck : Obligations.CommitAnsweredByTheCheck := by
  refine ⟨fun q s h => ?_, fun c => ?_⟩
  · intro free
    exact ⟨fun hbusy => congrArg _ (State.take_refused h (judgeCommit_busy hbusy)), exec_commit_unchanged h,
      fun f hfree hnew hf => exec_commit_conflict h hfree hnew hf, exec_commit_scheduled h⟩
  · intro fails
    refine ⟨?pairs, ?sources, ?paired, ?segments, ?scalars, ?temperatures, ?repeated, ?stray, ?shared, ?secondEven, ?secondRange,
      ?secondWeights, ?minuteEven, ?minuteRange, ?minuteWeights, c.commitCheck_eq_none_iff.trans clearTo_eleven_iff⟩
    case pairs =>
      exact fun m n hlt hpair hlow hlow' =>
        c.commitCheck_of_clearTo c.clearTo_zero (congrArg some (c.checkPairs_of hlt hpair hlow hlow'))
    case sources =>
      exact fun n t hclean hbad hlow =>
        c.commitCheck_of_clearTo (clearTo_one_iff.mpr hclean) (congrArg some (c.checkSources_of hbad hlow))
    case paired =>
      exact fun n hclean hn hlow =>
        c.commitCheck_of_clearTo (clearTo_two_iff.mpr hclean) (congrArg some (c.checkPaired_of hn hlow))
    case segments =>
      exact fun n hclean hn hlow =>
        c.commitCheck_of_clearTo (clearTo_three_iff.mpr hclean) (congrArg some (c.checkSegments_of hn hlow))
    case scalars =>
      exact fun m n hclean hm hn hlt hbelow =>
        c.commitCheck_of_clearTo (clearTo_four_iff.mpr hclean) (congrArg some (c.checkScalars_of hm hn hlt hbelow))
    case temperatures =>
      exact fun n hclean hn =>
        c.commitCheck_of_clearTo (clearTo_five_iff.mpr hclean) (congrArg some (c.checkTemperatures_of hn))
    case repeated =>
      exact fun k n hclean hfirst hn => commitCheck_of_checkTriad hclean hfirst (c.checkTriad_of_repeated hn)
    case stray =>
      exact fun k n hclean hfirst hdistinct hn hbefore =>
        commitCheck_of_checkTriad hclean hfirst (c.checkTriad_of_stray hdistinct hn hbefore)
    case shared =>
      exact fun n hclean hn hlow =>
        c.commitCheck_of_clearTo (clearTo_eight_iff.mpr hclean) (congrArg some (c.checkShared_of hn hlow))
    case secondEven =>
      exact fun hclean heven => commitCheck_of_checkFilter_second hclean (c.checkFilter_of_even heven)
    case secondRange =>
      exact fun hclean hodd hrange => commitCheck_of_checkFilter_second hclean (c.checkFilter_of_beyond hodd hrange)
    case secondWeights =>
      exact fun hclean hodd hrange hzero =>
        commitCheck_of_checkFilter_second hclean (c.checkFilter_of_weightless hodd hrange hzero)
    case minuteEven =>
      exact fun hclean heven => commitCheck_of_checkFilter_minute hclean (c.checkFilter_of_even heven)
    case minuteRange =>
      exact fun hclean hodd hrange => commitCheck_of_checkFilter_minute hclean (c.checkFilter_of_beyond hodd hrange)
    case minuteWeights =>
      exact fun hclean hodd hrange hzero =>
        commitCheck_of_checkFilter_minute hclean (c.checkFilter_of_weightless hodd hrange hzero)

end Sys2Proof.Machine
end

section
/-! PROOFS. Upstream reception: O41 and O42 (R158, R160 to R162, R173). -/

namespace Sys2Proof.Machine

open Sys2Proof.Claims

variable {s : State}

/-! ### The receiver that runs (R179, R207) -/

theorem State.linkUp_of (h : s.phase = .loaded ∨ s.phase = .running) : s.linkUp = true := by
  rcases h with h | h <;> simp [State.linkUp, h]

/-- On a device whose link runs passing time is `passed` (R1). -/
theorem State.elapse_up (h : s.phase = .loaded ∨ s.phase = .running) (n : Nat) : s.elapse n = passed s n :=
  State.elapse_eq_passed (by rcases h with h | h <;> rw [h] <;> decide) n

@[simp] theorem passed_link (n : Nat) : (passed s n).link = s.link := rfl

/-- The three byte rows deliver the byte once its periods have passed (log 5). -/
theorem exec_linkByte {c : Instr} {b : Byte} {n : Nat}
    (hc : c = .upstreamFrameByte b n ∨ c = .upstreamLenReject b n ∨ c = .upstreamFrameArrival b n)
    (hs : s.phase = .loaded ∨ s.phase = .running) : exec c s = .next ((passed s n).linkByte b) := by
  have hrow : s.onLinkByte b n = (passed s n).linkByte b := by
    unfold State.onLinkByte
    rw [State.elapse_up hs]
    exact if_pos (State.linkUp_of (s := passed s n) hs)
  rcases hc with rfl | rfl | rfl <;> exact congrArg Host.Outcome.next hrow

/-! ### A byte in each framing state (R160) -/

theorem State.linkByte_of_hunt (hf : s.link.framing = .hunt) (b : Byte) : s.linkByte b = s.huntByte b := by
  unfold State.linkByte
  simp only [hf]

theorem State.linkByte_of_length {b : Byte} (hf : s.link.framing = .length) (hb : b.toNat ≤ 250) :
    s.linkByte b = s.setLink { s.link with framing := .collect b.toNat [], lastByteAt := s.tb.clock } := by
  unfold State.linkByte
  simp only [hf]
  exact if_neg (Nat.not_lt_of_le hb)

theorem State.linkByte_of_beyond {b : Byte} (hf : s.link.framing = .length) (hb : 250 < b.toNat) :
    s.linkByte b = (s.setLink s.link.hunt).upstreamBad := by
  unfold State.linkByte
  simp only [hf]
  exact if_pos hb

theorem State.linkByte_of_collect {len : Nat} {bytes : List Byte} (hf : s.link.framing = .collect len bytes)
    (hlen : bytes.length + 1 < len + 3) (b : Byte) :
    s.linkByte b = s.setLink { s.link with framing := .collect len (bytes ++ [b]), lastByteAt := s.tb.clock } := by
  unfold State.linkByte
  simp only [hf]
  exact if_pos hlen

theorem State.linkByte_of_complete {len : Nat} {bytes : List Byte} (hf : s.link.framing = .collect len bytes)
    (hlen : bytes.length = len + 2) (b : Byte) :
    s.linkByte b = (s.setLink s.link.hunt).frameArrived len (bytes ++ [b]) := by
  unfold State.linkByte
  simp only [hf]
  exact if_neg (by omega)

/-- No late frame stands at a clock at which none was found (R173). -/
theorem Link.lateAt_eq_none {l : Link} {clock : Nat} (h : ∀ f, l.late = some f → f.at_ ≠ clock) : l.lateAt clock = none := by
  unfold Link.lateAt
  rw [Option.filter_eq_none_iff]
  exact fun f hf heq => h f hf (beq_iff_eq.mp heq)

/-- A late frame stands at the clock at which it was found (R173). -/
theorem Link.lateAt_eq_some {l : Link} {f : LateFrame} {clock : Nat} (h : l.late = some f) (hat : f.at_ = clock) :
    l.lateAt clock = some f := by
  simp [Link.lateAt, h, hat]

/-! ### An abandoned frame (R158, R160) -/

theorem State.abandonUpstream_of_hunt (hf : s.link.framing = .hunt) : s.abandonUpstream = s := by
  unfold State.abandonUpstream
  rw [hf]

theorem State.abandonUpstream_of_frame (hf : s.link.framing ≠ .hunt) :
    s.abandonUpstream = (s.setLink s.link.hunt).upstreamBad := by
  unfold State.abandonUpstream
  cases h : s.link.framing with
  | hunt => exact absurd h hf
  | length => rfl
  | collect len bytes => rfl

theorem exec_upstreamFramingError (hs : s.phase = .loaded ∨ s.phase = .running) (n : Nat) :
    exec (.upstreamFramingError n) s = .next (passed s n).abandonUpstream := by
  unfold exec execUpstreamFramingError
  simp only [State.elapse_up hs]
  exact if_pos (State.linkUp_of (s := passed s n) hs)

/-- The rate of the bit timing, as the statement writes it (R158). -/
theorem timingRate_eq (m : Count16) : timingRate m = if m = 0 then 1 else m.toNat := by
  unfold timingRate
  split
  · next h => rw [h]; rfl
  · next h =>
    have hpos : m.toNat ≠ 0 := fun h0 => h (BitVec.eq_of_toNat_eq h0)
    omega

/-- The gap is over one period beyond its whole periods (R158, R160; log 17). -/
theorem exec_upstreamGapAbandon (hs : s.phase = .loaded ∨ s.phase = .running) (hf : s.link.framing ≠ .hunt) :
    exec .upstreamGapAbandon s = .next (passed s (s.link.lastByteAt +
      (200 * 16 * 65536 / (if s.link.rate = 0 then 1 else s.link.rate.toNat) + 1) - s.tb.clock)).abandonUpstream := by
  rw [← timingRate_eq]
  unfold exec execUpstreamGapAbandon State.elapseTo
  simp only [State.elapse_up hs]
  exact if_pos (by simp [State.linkUp_of hs, hf])

/-- Settles O41: the byte rows share one reception, which goes by the framing state; the abandoned frame is counted outside HUNT. -/
theorem upstreamBytesCollected : Obligations.UpstreamBytesCollected := by
  refine ⟨fun c b n s hc hs => ?_, fun n s hs => ⟨fun hf => ?_, fun hf => ?_, fun hf => ?_⟩⟩
  · rw [exec_linkByte hc hs]
    refine ⟨fun hf hlate hb => ?_, fun hf hlate hb => ?_, fun hf hb => ?_, fun hf hb => ?_, fun len bytes hf hlen => ?_⟩
    · rw [State.linkByte_of_hunt (s := passed s n) hf, State.huntByte_plain (s := passed s n) b (Link.lateAt_eq_none hlate)]
      exact congrArg Host.Outcome.next (if_neg hb)
    · rw [State.linkByte_of_hunt (s := passed s n) hf, State.huntByte_plain (s := passed s n) b (Link.lateAt_eq_none hlate)]
      exact congrArg Host.Outcome.next (if_pos hb)
    · rw [State.linkByte_of_length (s := passed s n) hf hb]
      rfl
    · rw [State.linkByte_of_beyond (s := passed s n) hf hb]
      rfl
    · rw [State.linkByte_of_collect (s := passed s n) hf hlen]
      rfl
  · rw [exec_upstreamFramingError hs, State.abandonUpstream_of_frame (s := passed s n) hf]
    rfl
  · rw [exec_upstreamFramingError hs, State.abandonUpstream_of_hunt (s := passed s n) hf]
  · rw [exec_upstreamGapAbandon hs hf]
    exact congrArg Host.Outcome.next (State.abandonUpstream_of_frame (s := passed s _) hf)

/-! ### The check of a frame (R161) -/

/-- Two bytes are the number they hold (R181). -/
theorem natBytes_bytesNat_pair (a b : Byte) : natBytes 2 (bytesNat [a, b]) = [a, b] := by
  simp only [natBytes, bytesNat, List.foldl_cons, List.foldl_nil, List.cons.injEq, and_true]
  constructor <;> bv_omega

/-- A number below 65,536 is what two bytes hold exactly when these are its bytes (R181). -/
theorem eq_bytesNat_iff {v : Nat} {l : List Byte} (hv : v < 65536) (hl : l.length = 2) : v = bytesNat l ↔ natBytes 2 v = l := by
  obtain ⟨a, b, rfl⟩ := List.length_eq_two.mp hl
  constructor
  · rintro rfl
    exact natBytes_bytesNat_pair a b
  · intro h
    rw [← h, bytesNat_natBytes (n := 2) hv]

/-- The CRC agrees exactly when its two bytes end the frame (R161). -/
theorem upstreamGood_iff {len : Nat} {bytes : List Byte} (hlen : bytes.length = len + 3) : upstreamGood len bytes = true ↔
    natBytes 2 (crc16 (BitVec.ofNat 8 len :: bytes.take (len + 1))).toNat = bytes.drop (len + 1) := by
  have hend : (bytes.drop (len + 1)).length = 2 := by rw [List.length_drop, hlen]; omega
  rw [← eq_bytesNat_iff (BitVec.isLt _) hend, upstreamGood, natAt, bytesAt, List.take_of_length_le (Nat.le_of_eq hend),
    natBytes_one, beq_iff_eq]
  rfl

/-! ### A checked frame (R161, R162, R173) -/

/-- A checked frame of another KIND, or too short for a tag and a code, is no request (R161). -/
theorem State.judgeFrame_of_bad {len : Nat} {bytes : List Byte} (h : bytes.head? ≠ some 0x01 ∨ len < 2) :
    s.judgeFrame len bytes = s.upstreamBad := by
  refine if_pos (h.imp_left fun hkind heq => hkind ?_)
  cases bytes with
  | nil => cases heq
  | cons b _ => exact congrArg some heq

/-- A checked frame of KIND, tag, code, parameters and CRC is a request (R161). -/
theorem State.judgeFrame_of_request {len : Nat} {tag code : Byte} {params crc : List Byte} (hlen : params.length + 2 = len) :
    s.judgeFrame len (0x01 :: tag :: code :: (params ++ crc)) = s.joinRequest ⟨tag, code, params⟩ := by
  have hparams : bytesAt (0x01 :: tag :: code :: (params ++ crc)) 3 (len - 2) = params :=
    List.take_left' (by omega)
  refine (if_neg (not_or.mpr ⟨not_not.mpr rfl, by omega⟩)).trans ?_
  rw [hparams]
  rfl

theorem State.joinRequest_of_room {q : Request} (h : s.link.requests.length < 4) :
    s.joinRequest q = s.setLink { s.link with requests := s.link.requests ++ [q] } := if_pos h

theorem State.joinRequest_of_full {q : Request} (h : 4 ≤ s.link.requests.length) :
    s.joinRequest q = conditionSet (counted s .reqOverrun) .requestOverrun := if_neg (Nat.not_lt_of_le h)

@[simp] theorem State.confirmTrial_requests : s.confirmTrial.link.requests = s.link.requests := by
  unfold State.confirmTrial; split <;> rfl

/-- The byte that completes a frame, in collection or found one byte short by an expiry of this very period: the frame is checked,
confirms a trial unless it is late, and is judged (R161, R173; log 31). -/
theorem exec_completingByte {c : Instr} {b : Byte} {n len : Nat} {bytes : List Byte} {late : Bool}
    (hc : c = .upstreamFrameByte b n ∨ c = .upstreamLenReject b n ∨ c = .upstreamFrameArrival b n)
    (hs : s.phase = .loaded ∨ s.phase = .running) (hcollect : late = false → s.link.framing = .collect len bytes)
    (hlate : late = true → s.link.framing = .hunt ∧ s.link.late = some ⟨len, bytes, s.tb.clock + n⟩)
    (hlen : bytes.length = len + 2) :
    let u := (passed s n).setLink (if late then { s.link with late := none } else { s.link with framing := .hunt })
    exec c s = .next (if upstreamGood len (bytes ++ [b]) then
      (if late then u else u.confirmTrial).judgeFrame len (bytes ++ [b]) else u.upstreamBad) := by
  rw [exec_linkByte hc hs]
  cases late with
  | false =>
    exact congrArg Host.Outcome.next (State.linkByte_of_complete (s := passed s n) (hcollect rfl) hlen b)
  | true =>
    obtain ⟨hhunt, hframe⟩ := hlate rfl
    rw [State.linkByte_of_hunt (s := passed s n) hhunt,
      State.huntByte_late (s := passed s n) b (Link.lateAt_eq_some hframe rfl)]
    rfl

/-- Settles O42: the frame is checked by its CRC, a checked one confirms a trial unless it is late, and is then judged. -/
theorem upstreamFrameArrives : Obligations.UpstreamFrameArrives := by
  intro c b n len bytes late s hc hs hcollect hlate hlen _ all u bad good inTime checked
  have hexec := exec_completingByte hc hs hcollect hlate hlen
  have hall : all.length = len + 3 := by simp [all, hlen]
  have hgood : upstreamGood len all = true ↔ good := upstreamGood_iff hall
  have hchecked : (if late then u else u.confirmTrial) = checked := by
    cases late with
    | true => exact (if_neg fun h => Bool.noConfusion h.1).symm
    | false =>
      by_cases ht : s.link.rateState = .trial ∧ s.tb.clock + n ≤ s.link.trialStart + 100000000
      · exact (if_pos ht).trans (if_pos ⟨rfl, ht⟩).symm
      · exact (if_neg ht).trans (if_neg fun h => ht h.2).symm
  have hjudged (h : good) : exec c s = .next (checked.judgeFrame len all) := by
    rw [← hchecked]
    exact hexec.trans (congrArg Host.Outcome.next (if_pos (hgood.mpr h)))
  have hrequests : checked.link.requests = s.link.requests := by
    rw [← hchecked]
    cases late <;> simp [u]
  refine ⟨fun h => ?_, fun h hbad => ?_, fun tag code params crc h hparts hcrc => ⟨fun hroom => ?_, fun hfull => ?_⟩⟩
  · exact hexec.trans (congrArg Host.Outcome.next (if_neg (mt hgood.mp h)))
  · rw [hjudged h, State.judgeFrame_of_bad hbad]
    rfl
  all_goals
    have hparams : params.length + 2 = len := by
      have := congrArg List.length hparts
      simp only [List.length_cons, List.length_append] at this
      omega
    rw [hjudged h, hparts, State.judgeFrame_of_request hparams]
  · rw [State.joinRequest_of_room (hrequests ▸ hroom), hrequests]
    rfl
  · rw [State.joinRequest_of_full (hrequests ▸ hfull)]

end Sys2Proof.Machine
end

section
/-! PROOFS. The transmitter and the link rate: O43 and O44 (R165, R170 to R174). -/

namespace Sys2Proof.Machine

open Sys2Proof.Claims

variable {s : State}

/-! ### The end of a frame (R165, R170, R172, R174) -/

/-- The link with the sent frame gone and the transmitter idle, and with a return that waited for this end (R170, R174). -/
def Link.idled (l : Link) (rest : List Frame) : Link :=
  if l.revertPending then ({ l with output := rest, sending := false } : Link).revert
  else { l with output := rest, sending := false }

@[simp] theorem Link.idled_output (l : Link) (rest : List Frame) : (l.idled rest).output = rest := by
  unfold Link.idled; split <;> rfl

@[simp] theorem Link.idled_heldSave (l : Link) (rest : List Frame) : (l.idled rest).heldSave = l.heldSave := by
  unfold Link.idled; split <;> rfl

@[simp] theorem Link.idled_rateState (l : Link) (rest : List Frame) : (l.idled rest).rateState = l.rateState := by
  unfold Link.idled; split <;> rfl

@[simp] theorem Link.idled_waitingRate (l : Link) (rest : List Frame) : (l.idled rest).waitingRate = l.waitingRate := by
  unfold Link.idled; split <;> rfl

/-- The end of a frame: the return first, then the trial, then the held response. -/
theorem Link.sent_eq (l : Link) (f : Frame) (rest : List Frame) (clock : Nat) : l.sent f rest clock =
    (if f.tied ∧ l.rateState = .waiting then (l.idled rest).startTrial clock else l.idled rest).admitHeld := by
  rw [← Link.idled_rateState l rest]
  rfl

/-- A frame to which no waiting change is tied starts no trial. -/
theorem Link.sent_of_untied {l : Link} {f : Frame} (h : f.tied = false ∨ l.rateState ≠ .waiting ∨ l.waitingRate = none)
    (rest : List Frame) (clock : Nat) : l.sent f rest clock = (l.idled rest).admitHeld := by
  rw [Link.sent_eq]
  split
  · next htied =>
    have hnone : (l.idled rest).waitingRate = none := by
      rcases h with h | h | h
      · exact absurd htied.1 (by simp [h])
      · exact absurd htied.2 h
      · rwa [Link.idled_waitingRate]
    rw [Link.startTrial, hnone]
  · rfl

/-- The response that the waiting change is tied to starts the trial (R172). -/
theorem Link.sent_of_tied {l : Link} {f : Frame} {m : Count16} (hf : f.tied = true) (hw : l.rateState = .waiting)
    (hm : l.waitingRate = some m) (rest : List Frame) (clock : Nat) :
    l.sent f rest clock = ({ l.idled rest with
      framing := .hunt, rate := m, rateState := .trial, waitingRate := none, trialStart := clock } : Link).admitHeld := by
  rw [Link.sent_eq, if_pos ⟨hf, hw⟩, Link.startTrial, Link.idled_waitingRate, hm]
  rfl

/-- FRAME_SENT: the oldest frame leaves the queue (R170). -/
theorem exec_frameSent {f : Frame} {rest : List Frame} (hs : s.phase = .loaded ∨ s.phase = .running)
    (hsending : s.link.sending = true) (hout : s.link.output = f :: rest) (n : Nat) :
    exec (.frameSent n) s = .next ((passed s n).setLink (s.link.sent f rest (s.tb.clock + n))) := by
  unfold exec execFrameSent
  simp only [hsending, hout, State.elapse_up hs, if_true]
  rfl

/-! ### The start of a frame (R170) -/

/-- What FRAME_START asks for: an idle transmitter, a frame, and HOLD_IN released. -/
theorem exec_frameStart (hs : s.phase = .loaded ∨ s.phase = .running) : exec .frameStart s =
    if s.link.sending = false ∧ s.link.output ≠ [] ∧ s.link.holdIn = false then
      .next (s.setLink { s.link with sending := true }) else .next s := by
  unfold exec execFrameStart
  refine if_congr ?_ rfl rfl
  simp [State.linkUp_of hs, and_assoc]

/-- Settles O43: FRAME_START by its guard; FRAME_SENT by whether a waiting change is tied to the frame. -/
theorem framesSent : Obligations.FramesSent := by
  intro n s hs
  refine ⟨fun hsending hout hhold => ?_, fun hhold => ?_, fun asserted => ?_, fun f rest hsending hout => ?_⟩
  · rw [exec_frameStart hs, if_pos ⟨hsending, hout, hhold⟩]
    rfl
  · rw [exec_frameStart hs, if_neg fun h => by simp [hhold] at h]
  · exact congrArg (fun u : State => Host.Outcome.next (u.setLink { u.link with holdIn := asserted })) (State.elapse_up hs n)
  · intro u l returned admittedHeld
    have hheld (x : Link) (hx : x.output = rest) (hsave : x.heldSave = s.link.heldSave) : x.admitHeld = admittedHeld x := by
      unfold Link.admitHeld
      rw [hx, hsave]
    rw [exec_frameSent hs hsending hout]
    refine ⟨fun huntied => ?_, fun m htied hwaiting hm => ?_⟩
    · rw [Link.sent_of_untied huntied, hheld _ (by simp) (by simp)]
      rfl
    · rw [Link.sent_of_tied htied hwaiting hm, hheld _ (by simp) (by simp)]
      rfl

/-! ### LINK_RATE (R171) -/

/-- The M of a LINK_RATE request. -/
theorem linkRateParam {q : Request} {m : Count16} (hq : q.params = natBytes 2 m.toNat) :
    BitVec.ofNat 16 (natAt q.params 0 2) = m := by
  rw [hq, natAt_natBytes m.isLt, BitVec.ofNat_toNat, BitVec.setWidth_eq]

/-- The confirmed rate, no change waiting: nothing changes. -/
theorem judgeLinkRate_keeps {q : Request} {m : Count16} (hq : q.params = natBytes 2 m.toNat) (hr : s.link.rateState = .idle)
    (hm : m = s.link.confirmedRate) : judgeLinkRate q s = rateReply s m false := by
  unfold judgeLinkRate
  simp only [linkRateParam hq, hr, if_pos hm]

/-- Another rate waits, in place of one that waits already. -/
theorem judgeLinkRate_waits {q : Request} {m : Count16} (hq : q.params = natBytes 2 m.toNat)
    (hr : s.link.rateState = .idle ∨ s.link.rateState = .waiting) (hm : m ≠ s.link.confirmedRate) :
    judgeLinkRate q s = rateReply (s.setLink { s.link.untie with waitingRate := some m, rateState := .waiting }) m true := by
  unfold judgeLinkRate
  rcases hr with hr | hr
  · simp only [linkRateParam hq, hr, if_neg hm]
  · have hwaiting : ({ s.link.untie with waitingRate := some m } : Link) =
        { s.link.untie with waitingRate := some m, rateState := .waiting } := by rw [← hr]; rfl
    simp only [linkRateParam hq, hr, if_neg hm, hwaiting]

/-- The confirmed rate drops the change that waits. -/
theorem judgeLinkRate_drops {q : Request} {m : Count16} (hq : q.params = natBytes 2 m.toNat) (hr : s.link.rateState = .waiting)
    (hm : m = s.link.confirmedRate) :
    judgeLinkRate q s = rateReply (s.setLink { s.link.untie with waitingRate := none, rateState := .idle }) m false := by
  unfold judgeLinkRate
  simp only [linkRateParam hq, hr, if_pos hm]

/-- The one frame of a LINK_RATE response, tied or not (R164, R171). -/
theorem rateReply_finish (s : State) (q : Request) (m : Count16) (tied : Bool) : (rateReply s m tied).finish q =
    s.offerResponse [⟨.response ⟨q.tag, q.code, .ok, 0, natBytes 2 m.toNat⟩, tied⟩] := by
  have hlength : (natBytes 2 m.toNat).length ≤ 246 := by rw [natBytes_length]; decide
  have hframes : responseFrames q.tag q.code .ok (natBytes 2 m.toNat) tied =
      [⟨.response ⟨q.tag, q.code, .ok, 0, natBytes 2 m.toNat⟩, tied⟩] := if_pos hlength
  exact congrArg s.offerResponse hframes

/-! ### LINK_TRIAL_EXPIRY (R173, R174) -/

/-- Time passes until the end of the trial (R173). -/
theorem State.elapseTo_trialEnd (hs : s.phase = .loaded ∨ s.phase = .running) :
    s.elapseTo (s.link.trialStart + Config.trialPeriods) = passed s (s.link.trialStart + 100000000 - s.tb.clock) := by
  rw [Config.trialPeriods_eq, State.elapseTo, State.elapse_up hs]

/-- LINK_TRIAL_EXPIRY, d periods from now: the condition, the notice, and the return, at once or pending. -/
theorem exec_linkTrialExpiry {d : Nat} (hd : s.elapseTo (s.link.trialStart + Config.trialPeriods) = passed s d)
    (ht : s.link.rateState = .trial) (hroom : s.link.output.length < 60) :
    let u := admitted (conditionSet (passed s d) .linkReverted) (.notice (.link s.link.rate s.link.confirmedRate))
    let l : Link := { u.link with rateState := .idle }
    exec .linkTrialExpiry s =
      .next (u.setLink (if s.link.sending then { l with revertPending := true } else l.revertAtExpiry u.tb.clock)) := by
  have hnotice := State.offerNotice_eq (s := (passed s d).setCondition .linkReverted) hroom
    (.link s.link.rate s.link.confirmedRate)
  unfold exec execLinkTrialExpiry
  rw [if_pos ht, hd]
  simp only [passed_link, hnotice]
  rfl

/-- The frame kept at the return, as the statement writes it (R160, R173). -/
theorem Link.lastByteMissing_eq (l : Link) (clock : Nat) : l.lastByteMissing clock =
    match l.framing with
    | .collect len bytes => if bytes.length = len + 2 then some ⟨len, bytes, clock⟩ else none
    | .hunt => none
    | .length => none := by
  unfold Link.lastByteMissing
  cases l.framing with
  | hunt => rfl
  | length => rfl
  | collect len bytes => exact if_congr Nat.succ_inj rfl rfl

/-- Settles O44: LINK_RATE by the rate change state and the confirmed rate; the expiry by whether a frame is being sent. -/
theorem linkRateChanges : Obligations.LinkRateChanges := by
  refine ⟨fun m q s hready hq => ?_, fun s hs ht hroom => ?_⟩
  · intro untied answer l
    have hexec : exec .linkRate s = .next ((judgeLinkRate q (taken s)).finish q) :=
      congrArg Host.Outcome.next (State.take_of_ready hready _)
    refine ⟨fun hr hm => ?_, fun hr hm => ?_, fun hr hm => ?_⟩
    · rw [hexec, judgeLinkRate_keeps (s := taken s) hq hr hm, rateReply_finish]
      rfl
    · rw [hexec, judgeLinkRate_waits (s := taken s) hq hr hm, rateReply_finish]
      rfl
    · rw [hexec, judgeLinkRate_drops (s := taken s) hq hr hm, rateReply_finish]
      rfl
  · intro u late
    have hexec := exec_linkTrialExpiry (State.elapseTo_trialEnd hs) ht hroom
    have hlate : ({ u.link with rateState := .idle } : Link).lastByteMissing u.tb.clock = late := Link.lastByteMissing_eq _ _
    refine ⟨fun hsending => ?_, fun hsending => ?_⟩
    · simp only [hsending, Link.revertAtExpiry] at hexec
      rw [hexec, ← hlate]
      rfl
    · simp only [hsending] at hexec
      rw [hexec]
      rfl

end Sys2Proof.Machine
end

section
/-! PROOFS. Data records at the output queue: O45 (R167 to R169). -/

namespace Sys2Proof.Machine

open Sys2Proof.Claims

variable {s : State}

/-! ### The youngest second record (R168) -/

/-- Frames without second records hold no youngest one. -/
theorem takeYoungestSecond_none {l : List Frame} (h : ∀ f ∈ l, ∀ x, f.body ≠ .second x) : takeYoungestSecond l = none := by
  induction l with
  | nil => rfl
  | cons f fs ih =>
    obtain ⟨hf, hfs⟩ := List.forall_mem_cons.mp h
    unfold takeYoungestSecond
    rw [ih hfs]
    cases hbody : f.body with
    | second x => exact absurd hbody (hf x)
    | minute _ => rfl
    | event _ => rfl
    | notice _ => rfl
    | response _ => rfl

/-- A second record with none behind it is the youngest, whatever stands before it. -/
theorem takeYoungestSecond_append (old : List Frame) {young : List Frame} {r : SecondRecord} {tied : Bool}
    (h : ∀ f ∈ young, ∀ x, f.body ≠ .second x) :
    takeYoungestSecond (old ++ ⟨.second r, tied⟩ :: young) = some (r, old ++ young) := by
  induction old with
  | nil => simp only [List.nil_append, takeYoungestSecond, takeYoungestSecond_none h]
  | cons f fs ih => simp only [List.cons_append, takeYoungestSecond, ih]

/-- Behind the frame being sent stand the frames that the transmitter has not begun (R168, R170). -/
theorem Link.waitingPart_eq_drop (l : Link) : l.waitingPart = l.output.drop (if l.sending then 1 else 0) := by
  unfold Link.waitingPart
  cases l.sending <;> rfl

/-- A queue cut behind the frame being sent: that frame heads the older part (R168, R170). -/
theorem Link.parts_of_append {l : Link} {old young : List Frame} (h : l.output = old ++ young)
    (hsent : l.sending = true → old ≠ []) :
    ∃ waiting, l.waitingPart = waiting ++ young ∧ l.sendingPart ++ waiting = old := by
  cases hsending : l.sending with
  | false => exact ⟨old, by simp [Link.waitingPart, hsending, h], by simp [Link.sendingPart, hsending]⟩
  | true =>
    obtain ⟨f, fs, rfl⟩ := List.exists_cons_of_ne_nil (hsent hsending)
    exact ⟨fs, by simp [Link.waitingPart, hsending, h], by simp [Link.sendingPart, hsending, h]⟩

/-! ### A record that is lost (R167, R169) -/

/-- What a second record's own lost field adds (R169). -/
theorem SecondRecord.lossWeight_eq (r : SecondRecord) : r.lossWeight = 1 + ((r.lost.map BitVec.toNat).getD 0) := by
  unfold SecondRecord.lossWeight
  cases r.lost <;> rfl

/-- A second record lost: counted, and carried in its accumulator with the loss it carried itself (R169). -/
theorem State.loseRecord_second (s : State) (r : SecondRecord) : s.loseRecord (.second r) =
    let u := conditionSet (counted s .secondsLost) .recordLoss
    { u with link := { u.link with
        secondsLost := BitVec.ofNat 16
          (min 65535 (s.link.secondsLost.toNat + (1 + ((r.lost.map BitVec.toNat).getD 0)))) } } := by
  rw [← SecondRecord.lossWeight_eq]
  rfl

/-- While fewer than 60 places are occupied a data record joins (R167). -/
theorem State.offerData_of_room (h : s.link.output.length < 60) (b : Body) : s.offerData b = s.setLink (s.link.join b) := if_pos h

/-- A minute record refused for space displaces or is lost (R168). -/
theorem State.offerData_minute_of_full (h : 60 ≤ s.link.output.length) (m : MinuteRecord) :
    s.offerData (.minute m) = s.displace m := if_neg (Nat.not_lt_of_le h)

/-- Another data record refused for space is lost (R167). -/
theorem State.offerData_of_full (h : 60 ≤ s.link.output.length) {b : Body} (hb : ∀ m, b ≠ .minute m) :
    s.offerData b = s.loseRecord b := by
  refine (if_neg (Nat.not_lt_of_le h)).trans ?_
  cases b with
  | minute m => exact absurd rfl (hb m)
  | second _ => rfl
  | event _ => rfl
  | notice _ => rfl
  | response _ => rfl

/-- The youngest second record that waits makes place for a minute record (R168). -/
theorem State.displace_of_some {r : SecondRecord} {rest : List Frame} (h : takeYoungestSecond s.link.waitingPart = some (r, rest))
    (m : MinuteRecord) : s.displace m =
      let u := (s.setLink { s.link with output := s.link.sendingPart ++ rest }).loseRecord (.second r)
      u.setLink (u.link.join (.minute m)) := by
  unfold State.displace
  rw [h]

/-- Without a second record that waits the minute record is lost (R168). -/
theorem State.displace_of_none (h : takeYoungestSecond s.link.waitingPart = none) (m : MinuteRecord) :
    s.displace m = s.loseRecord (.minute m) := by
  unfold State.displace
  rw [h]

/-- Settles O45: by the room for a data record, and for a minute record by the youngest second record that waits. -/
theorem dataRecordOffered : Obligations.DataRecordOffered := by
  intro s r m e n lostField weight gone
  refine ⟨fun hroom => ⟨?_, ?_, ?_, ?_⟩, fun hfull => ⟨?_, ?_, ?_, fun old young tied hsent hout hyoung => ?_, fun hnone => ?_⟩⟩
  · exact State.offerData_of_room hroom _
  · exact State.offerData_of_room hroom _
  · exact State.offerData_of_room hroom _
  · exact State.offerData_of_room hroom _
  · rw [State.offerData_of_full hfull (by simp), State.loseRecord_second]
  · exact State.offerData_of_full hfull (by simp)
  · exact State.offerData_of_full hfull (by simp)
  · obtain ⟨waiting, hwaiting, hold⟩ := Link.parts_of_append hout hsent
    have hyoungest : takeYoungestSecond s.link.waitingPart = some (r, waiting ++ young) := by
      rw [hwaiting, takeYoungestSecond_append waiting hyoung]
    rw [State.offerData_minute_of_full hfull, State.displace_of_some hyoungest, State.loseRecord_second, ← List.append_assoc, hold]
    rfl
  · rw [State.offerData_minute_of_full hfull, State.displace_of_none]
    · rfl
    · exact takeYoungestSecond_none (Link.waitingPart_eq_drop _ ▸ hnone)

end Sys2Proof.Machine
end

section
/-! PROOFS. The take of a request: O46 (R163, R208). -/

namespace Sys2Proof.Machine

open Sys2Proof.Claims

variable {s : State}

/-- Each request row is a take of its own request (log 4). -/
theorem exec_requestRow {c : Instr} {name : RequestName} (h : requestRow c = some name) :
    ∃ judge, ∀ s, exec c s = .next (s.take name judge) := by
  cases c <;> cases h <;> exact ⟨_, fun _ => rfl⟩

/-- REQUEST_UNKNOWN_CODE with nothing to take leaves the device as it stands. -/
theorem exec_requestUnknownCode_of_none (h : s.takeable = none) : exec .requestUnknownCode s = .next s := by
  unfold exec execRequestUnknownCode
  simp only [h]

/-- REQUEST_UNKNOWN_CODE takes a request whose code is none of the catalogue's (R163). -/
theorem exec_requestUnknownCode_of_unknown {q : Request} (ht : s.takeable = some q) (hc : RequestName.ofCode q.code = none) :
    exec .requestUnknownCode s = .next ((Reply.refuse (taken s) .unknown).finish q) := by
  unfold exec execRequestUnknownCode
  simp only [ht, if_pos hc]
  rfl

/-- REQUEST_UNKNOWN_CODE leaves a request of the catalogue to its own row. -/
theorem exec_requestUnknownCode_of_known {q : Request} (ht : s.takeable = some q) (hc : RequestName.ofCode q.code ≠ none) :
    exec .requestUnknownCode s = .next s := by
  unfold exec execRequestUnknownCode
  simp only [ht, if_neg hc]

/-- What is takeable is the oldest request (R163). -/
theorem State.eq_of_takeable {q x : Request} {rest : List Request} (hq : s.link.requests = q :: rest) (h : s.takeable = some x) :
    x = q := by
  unfold State.takeable at h
  simp only [hq] at h
  split at h
  · exact (Option.some.inj h).symm
  · cases h

/-- FILTER_GET waits until two places are free (R163). -/
theorem State.takeable_none_of_filterGet {q : Request} {rest : List Request} (hq : s.link.requests = q :: rest)
    (hc : q.code = RequestName.filterGet.code) (hl : 63 ≤ s.link.output.length) : s.takeable = none := by
  have hplaces : ¬ s.link.output.length + 2 ≤ 64 := by omega
  unfold State.takeable
  simp [hq, hc, placesNeeded, Config.outputPlaces, hplaces]

/-- Settles O46: every request row is a take, by what is takeable and by its code. -/
theorem requestsTakenInOrder : Obligations.RequestsTakenInOrder := by
  intro c name s hrow
  obtain ⟨judge, hexec⟩ := exec_requestRow hrow
  have hwaits (h : s.takeable = none) : exec c s = .next s := by
    rw [hexec, State.take_other fun x hx => by rw [h] at hx; cases hx]
  refine ⟨fun q rest hr hheld hq hplaces hc hl => ?_, fun q rest hr hheld hq hplaces hc => ?_, fun q rest hq hc => ?_,
    fun q rest hq hc => ?_, fun q rest hq hc hplaces => ?_, fun h => ?_⟩
  · have hneeded : s.link.output.length + placesNeeded (RequestName.ofCode q.code) ≤ 64 := by
      simpa [placesNeeded, hc] using hplaces
    rw [hexec, State.take_badLength (State.takeable_eq hr hheld hq hneeded) hc hl, Reply.finish_refuse]
    rfl
  · have hunknown := RequestName.ofCode_none hc
    have hneeded : s.link.output.length + placesNeeded (RequestName.ofCode q.code) ≤ 64 := by
      simpa [placesNeeded, hunknown] using hplaces
    rw [exec_requestUnknownCode_of_unknown (State.takeable_eq hr hheld hq hneeded) hunknown, Reply.finish_refuse]
  · rw [hexec, State.take_other fun x hx => State.eq_of_takeable hq hx ▸ hc]
  · cases ht : s.takeable with
    | none => exact exec_requestUnknownCode_of_none ht
    | some x =>
      refine exec_requestUnknownCode_of_known ht ?_
      rw [State.eq_of_takeable hq ht, hc, RequestName.ofCode_code]
      exact Option.some_ne_none _
  · exact hwaits (State.takeable_none_of_filterGet hq hc hplaces)
  · have hnone := State.takeable_none h
    exact ⟨hwaits hnone, exec_requestUnknownCode_of_none hnone⟩

end Sys2Proof.Machine
end

section
/-! PROOFS. Saves, protection and the restart schedule: O56 (R165, R200, R202 to R205, R209). -/

namespace Sys2Proof.Machine

open Sys2Proof.Claims

variable {s : State} {q : Request}

/-! ### The judgements (R202 to R204, R209) -/

theorem judgeSave_busy (h : s.staging.commitScheduled = true ∨ s.settings.save ≠ none) :
    judgeSave q s = Reply.refuse s .busy := if_pos (by simpa [Option.isSome_iff_ne_none] using h)

/-- Past BUSY the level decides (R204). -/
theorem judgeSave_idle (h : ¬(s.staging.commitScheduled = true ∨ s.settings.save ≠ none)) : judgeSave q s =
    if s.settings.level ≠ .opened then Reply.refuse s .locked
    else { Reply.ok (s.startSave q.tag) [] with answered := false } :=
  if_neg (by simpa [Option.isSome_iff_ne_none] using h)

theorem judgeFixPermanent_busy (h : s.settings.save ≠ none) : judgeFixPermanent q s = Reply.refuse s .busy :=
  if_pos (Option.isSome_iff_ne_none.mpr h)

/-- Past BUSY the level decides (R203). -/
theorem judgeFixPermanent_idle (h : s.settings.save = none) : judgeFixPermanent q s =
    if s.settings.level ≠ .opened then Reply.refuse s .locked
    else Reply.ok (s.setSettings s.settings.fix) (posByte Protection.fixed.position) := if_neg (by simp [h])

theorem judgeRestart_busy (h : s.staging.commitScheduled = true ∨ s.staging.restartScheduled = true) :
    judgeRestart q s = Reply.refuse s .busy := by
  unfold judgeRestart
  by_cases hc : s.staging.commitScheduled = true
  · rw [if_pos hc]
  · rw [if_neg hc, if_pos (h.resolve_left hc)]

theorem judgeRestart_idle (h : ¬(s.staging.commitScheduled = true ∨ s.staging.restartScheduled = true)) :
    judgeRestart q s = Reply.ok (s.setStaging { s.staging with restartScheduled := true }) [] := by
  obtain ⟨hc, hr⟩ := not_or.mp h
  exact (if_neg hc).trans (if_neg hr)

/-- LOCK_SESSION leaves OPEN alone, and answers with the level it leaves (R202). -/
theorem judgeLockSession_of {level : Protection} (h : s.settings.level.locked = level) : judgeLockSession q s =
    Reply.ok (s.setSettings { s.settings with level := level }) [BitVec.ofNat 8 level.position] := by
  subst h
  exact congrArg (Reply.ok _) (posByte_eq _)

/-- A level that is there already changes nothing. -/
theorem SettingsStore.with_level {x : SettingsStore} {level : Protection} (h : x.level = level) :
    { x with level := level } = x := by
  subst h
  rfl

/-- An OK response with one byte of data. -/
theorem Reply.finish_byte (t : State) (q : Request) (b : Byte) : (Reply.ok t [b]).finish q = Claims.answered t q .ok [b] :=
  Reply.finish_of t q .ok [b] (by simp)

/-! ### The rows (R202 to R204, R209) -/

theorem save_answers (h : Ready s .save q) :
    let busy : Prop := s.staging.commitScheduled = true ∨ s.settings.save ≠ none
    (busy → exec .save s = .next (answered (taken s) q .busy [])) ∧
      (¬busy → s.settings.level ≠ .opened → exec .save s = .next (answered (taken s) q .locked [])) ∧
      (¬busy → s.settings.level = .opened → exec .save s = .next ((taken s).startSave q.tag)) := by
  refine ⟨fun hbusy => congrArg Host.Outcome.next ?_, fun hidle hl => congrArg Host.Outcome.next ?_,
    fun hidle hl => congrArg Host.Outcome.next ?_⟩
  · exact State.take_refused h (judgeSave_busy (s := taken s) hbusy)
  · exact State.take_refused h ((judgeSave_idle (s := taken s) hidle).trans (if_pos hl))
  · rw [State.take_of_ready h, (judgeSave_idle (s := taken s) hidle).trans (if_neg (not_not.mpr hl))]
    rfl

theorem fixPermanent_answers (h : Ready s .fixPermanent q) :
    (s.settings.save ≠ none → exec .fixPermanent s = .next (answered (taken s) q .busy [])) ∧
      (s.settings.save = none → s.settings.level ≠ .opened →
        exec .fixPermanent s = .next (answered (taken s) q .locked [])) ∧
      (s.settings.save = none → s.settings.level = .opened →
        exec .fixPermanent s = .next (answered ((taken s).setSettings s.settings.fix) q .ok [2])) := by
  refine ⟨fun hbusy => congrArg Host.Outcome.next ?_, fun hidle hl => congrArg Host.Outcome.next ?_,
    fun hidle hl => congrArg Host.Outcome.next ?_⟩
  · exact State.take_refused h (judgeFixPermanent_busy (s := taken s) hbusy)
  · exact State.take_refused h ((judgeFixPermanent_idle (s := taken s) hidle).trans (if_pos hl))
  · rw [State.take_of_ready h, (judgeFixPermanent_idle (s := taken s) hidle).trans (if_neg (not_not.mpr hl)),
      posByte_eq, Reply.finish_byte]
    rfl

theorem lockSession_answers {level : Protection} (h : Ready s .lockSession q) (hl : s.settings.level.locked = level) :
    exec .lockSession s = .next (answered ((taken s).setSettings { s.settings with level := level }) q .ok
      [BitVec.ofNat 8 level.position]) := by
  refine congrArg Host.Outcome.next ?_
  rw [State.take_of_ready h, judgeLockSession_of (s := taken s) hl, Reply.finish_byte]
  rfl

theorem restart_answers (h : Ready s .restart q) :
    let busy : Prop := s.staging.commitScheduled = true ∨ s.staging.restartScheduled = true
    (busy → exec .restart s = .next (answered (taken s) q .busy [])) ∧
      (¬busy → exec .restart s =
        .next (answered ((taken s).setStaging { s.staging with restartScheduled := true }) q .ok [])) := by
  refine ⟨fun hbusy => congrArg Host.Outcome.next ?_, fun hidle => congrArg Host.Outcome.next ?_⟩
  · exact State.take_refused h (judgeRestart_busy (s := taken s) hbusy)
  · rw [State.take_of_ready h, judgeRestart_idle (s := taken s) hidle, Reply.finish_ok]
    rfl

/-! ### The end of a save (R165, R200, R205) -/

/-- The SAVE response at its place in the link: in the queue, or held (R165). -/
theorem State.setLink_offerSave (s : State) (r : Response) : s.setLink (s.link.offerSave r) =
    if s.link.output.length < 64 then
      { s with link := { s.link with output := s.link.output ++ [⟨.response r, false⟩] } }
    else { s with link := { s.link with heldSave := some r } } :=
  apply_ite s.setLink _ _ _

/-- SAVE_END: the settings store, SAVE_FAILED when the verify fails, the response (R205). -/
theorem exec_saveEnd {r : RunningSave} (hsave : s.settings.save = some r) (hs : s.phase ≠ .off) (verified : Bool) (n : Nat) :
    let u := (passed s n).setSettings (s.settings.endSave r verified)
    let v := if verified then u else u.setCondition .saveFailed
    exec (.saveEnd verified n) s = .next (v.setLink (v.link.offerSave (saveResponse r.tag verified))) := by
  unfold exec execSaveEnd
  simp only [hsave, State.elapse_eq_passed hs]
  rfl

/-- Settles O56: each request by its judgement; the end of a save by its verify. -/
theorem savesProtectionRestart : Obligations.SavesProtectionRestart := by
  refine ⟨fun q s => ⟨fun h => ?_, fun h => ?_, fun h => ⟨fun hl => ?_, fun hl => ?_, fun hl => ?_⟩, fun h => ?_⟩,
    fun n r s hsave hs => ⟨?_, ?_⟩⟩
  · exact save_answers h
  · exact fixPermanent_answers h
  · exact lockSession_answers h (congrArg Protection.locked hl)
  · rw [lockSession_answers (level := .sessionLocked) h (congrArg Protection.locked hl), SettingsStore.with_level hl]
    rfl
  · rw [lockSession_answers (level := .fixed) h (congrArg Protection.locked hl), SettingsStore.with_level hl]
    rfl
  · exact restart_answers h
  · rw [exec_saveEnd hsave hs, State.setLink_offerSave]
    rfl
  · rw [exec_saveEnd hsave hs, State.setLink_offerSave]
    rfl

end Sys2Proof.Machine
end

section
/-! PROOFS. LINE_SET: O49 (R181, R193, R194). -/

namespace Sys2Proof.Machine

open Sys2Proof.Claims

variable {s : State} {q : Request}

/-! ### The parameters (R181, R194) -/

theorem choiceAt_line (i : Fin 4) : choiceAt lineChoice (BitVec.ofNat 8 i.val) = some i := by revert i; decide

theorem choiceAt_designation (x : Designation) : choiceAt designationChoice (designationByte x) = some x := by cases x <;> rfl

theorem choiceAt_duty (duty : Duty) : choiceAt dutyChoice (dutyByte duty) = some duty := by cases duty <;> rfl

/-- Only one byte names a value of a choice that lists no value twice. -/
theorem choiceAt_inj {α : Type} {values : List α} (hnodup : values.Nodup) {a b : Byte} {x : α}
    (ha : choiceAt values a = some x) (hb : choiceAt values b = some x) : a = b := by
  obtain ⟨hlt, _⟩ := List.getElem?_eq_some_iff.mp ha
  exact BitVec.eq_of_toNat_eq ((List.getElem?_inj hlt hnodup).mp (ha.trans hb.symm))

/-- k out of range, or a duty that a clock output with k 0 or 1 does not have (R193, R194). -/
def LineSettings.outside (x : LineSettings) : Prop := 7 < x.k ∨ (x.designation = .clockOut ∧ x.k ≤ 1 ∧ x.duty ≠ .d50)

section Settings

variable {l : List Byte} {x : Designation} {duty : Duty}

theorem lineSettingsAt_of_inside (hx : choiceAt designationChoice (byteAt l 1) = some x)
    (hduty : choiceAt dutyChoice (byteAt l 3) = some duty) (h : ¬(LineSettings.mk x (natAt l 2 1) duty).outside) :
    lineSettingsAt l = some ⟨x, natAt l 2 1, duty⟩ := by
  obtain ⟨hk, hclock⟩ := not_or.mp h
  unfold lineSettingsAt
  simp only [hx, hduty]
  rw [if_neg hk, if_neg hclock]

theorem lineSettingsAt_of_outside (hx : choiceAt designationChoice (byteAt l 1) = some x)
    (hduty : choiceAt dutyChoice (byteAt l 3) = some duty) (h : (LineSettings.mk x (natAt l 2 1) duty).outside) :
    lineSettingsAt l = none := by
  unfold lineSettingsAt
  simp only [hx, hduty]
  split_ifs with hk hclock
  · rfl
  · rfl
  · exact absurd h (not_or.mpr ⟨hk, hclock⟩)

theorem lineSettingsAt_of_noChoice
    (h : choiceAt designationChoice (byteAt l 1) = none ∨ choiceAt dutyChoice (byteAt l 3) = none) :
    lineSettingsAt l = none := by
  unfold lineSettingsAt
  split <;> simp_all

end Settings

/-- Settings out of range, as the statement numbers them (R194). -/
theorem lineSettingsAt_outside {b0 b1 b2 b3 : Byte}
    (h : 7 ≤ b1.toNat ∨ 8 ≤ b2.toNat ∨ 3 ≤ b3.toNat ∨ (b1 = 5 ∧ b2.toNat ≤ 1 ∧ b3 ≠ 1)) :
    lineSettingsAt [b0, b1, b2, b3] = none := by
  have hk : natAt [b0, b1, b2, b3] 2 1 = b2.toNat := natAt_single b2
  cases hx : choiceAt designationChoice b1 with
  | none => exact lineSettingsAt_of_noChoice (.inl hx)
  | some x =>
    cases hduty : choiceAt dutyChoice b3 with
    | none => exact lineSettingsAt_of_noChoice (.inr hduty)
    | some duty =>
      refine lineSettingsAt_of_outside hx hduty ?_
      rw [hk]
      rcases h with h1 | h2 | h3 | ⟨rfl, hslow, hb3⟩
      · cases (choiceAt_of_le (values := designationChoice) h1).symm.trans hx
      · exact .inl h2
      · cases (choiceAt_of_le (values := dutyChoice) h3).symm.trans hduty
      · refine .inr ⟨Option.some.inj (hx.symm.trans (choiceAt_designation .clockOut)), hslow, fun h50 => hb3 ?_⟩
        exact choiceAt_inj (by decide) (hduty.trans (congrArg some h50)) (choiceAt_duty .d50)

/-- Settings in range are read back from their bytes (R194). -/
theorem lineSettingsAt_bytes {b0 : Byte} {x : Designation} {k : Fin 8} {duty : Duty}
    (h : x = .clockOut → k.val ≤ 1 → duty = .d50) :
    lineSettingsAt [b0, designationByte x, BitVec.ofNat 8 k.val, dutyByte duty] = some ⟨x, k.val, duty⟩ := by
  have hk : natAt [b0, designationByte x, BitVec.ofNat 8 k.val, dutyByte duty] 2 1 = k.val :=
    (natAt_single _).trans (Nat.mod_eq_of_lt (by omega))
  have hinside := lineSettingsAt_of_inside (l := [b0, designationByte x, BitVec.ofNat 8 k.val, dutyByte duty])
    (choiceAt_designation x) (choiceAt_duty duty)
  rw [hk] at hinside
  refine hinside ?_
  rintro (hout | ⟨hclock, hslow, hduty⟩)
  · exact absurd k.isLt (Nat.not_lt_of_le hout)
  · exact hduty (h hclock hslow)

/-! ### The other MARKER_IN line (R194) -/

theorem mem_allLines (i : Fin 4) : i ∈ allLines := by revert i; decide

theorem allLines_ascending : allLines.Pairwise (· < ·) := by decide

/-- The search names the lowest other line that is MARKER_IN. -/
theorem Auxiliary.otherMarker_of_lowest {a : Auxiliary} {i j : Fin 4} (hne : j ≠ i)
    (hj : (a.lines[j]).settings.designation = .markerIn)
    (hlow : ∀ m : Fin 4, m < j → m ≠ i → (a.lines[m]).settings.designation ≠ .markerIn) : a.otherMarker i = some j := by
  rw [Auxiliary.otherMarker, List.find?_eq_findSome?_guard]
  refine findSome?_of_lowest allLines_ascending (mem_allLines j) (by simpa [hne] using hj) fun m _ hm => ?_
  simpa using hlow m hm

theorem Auxiliary.otherMarker_eq_none {a : Auxiliary} {i : Fin 4}
    (h : ∀ j : Fin 4, j ≠ i → (a.lines[j]).settings.designation ≠ .markerIn) : a.otherMarker i = none :=
  List.find?_eq_none.mpr fun j _ => by simpa using h j

/-! ### The judgement (R193, R194) -/

section Judgement

variable {i j : Fin 4} {new : LineSettings}

/-- A line's new settings, as the statement writes them (R193; log 30). -/
theorem AuxLine.set_eq (old : AuxLine) (new : LineSettings) (clock : Nat) : old.set new clock =
    { settings := new
      raised := old.raised && decide (old.settings.designation = .secondMark ∧ new.designation = .secondMark)
      cycleStart := if new.designation = .clockOut ∧ old.settings ≠ new then clock else old.cycleStart } := by
  rw [AuxLine.set, Bool.and_assoc, Bool.decide_and]
  rfl

theorem judgeLineSet_range (h : choiceAt lineChoice (byteAt q.params 0) = none ∨ lineSettingsAt q.params = none) :
    judgeLineSet q s = Reply.refuse s .range := by
  unfold judgeLineSet
  split <;> simp_all

theorem judgeLineSet_conflict (hi : choiceAt lineChoice (byteAt q.params 0) = some i) (hnew : lineSettingsAt q.params = some new)
    (hmarker : new.designation = .markerIn) (hj : s.aux.otherMarker i = some j) :
    judgeLineSet q s = Reply.of s .conflict [BitVec.ofNat 8 j.val] := by
  rw [← natBytes_one]
  unfold judgeLineSet
  simp only [hi, hnew, if_pos hmarker, hj]

theorem judgeLineSet_of (hi : choiceAt lineChoice (byteAt q.params 0) = some i) (hnew : lineSettingsAt q.params = some new)
    (hfree : new.designation = .markerIn → s.aux.otherMarker i = none) : judgeLineSet q s =
      Reply.ok (s.setAux { s.aux with lines := s.aux.lines.set i ((s.aux.lines[i]).set new s.tb.clock) }).touchSettings [] := by
  have hother : (if new.designation = .markerIn then s.aux.otherMarker i else none) = none := by
    split
    · next hmarker => exact hfree hmarker
    · rfl
  unfold judgeLineSet
  simp only [hi, hnew, hother]

end Judgement

/-- Settles O49: RANGE by the line and its settings, CONFLICT by the other MARKER_IN line, else the line takes the settings. -/
theorem lineSet : Obligations.LineSet := by
  intro q s h
  refine ⟨fun b0 b1 b2 b3 hq hout => ?_, fun i k x duty hq hduty => ?_⟩
  · refine next_take_range h (judgeLineSet_range ?_)
    rw [hq]
    exact hout.imp choiceAt_of_le lineSettingsAt_outside
  · have hi : choiceAt lineChoice (byteAt q.params 0) = some i := by rw [hq]; exact choiceAt_line i
    have hnew : lineSettingsAt q.params = some ⟨x, k.val, duty⟩ := by rw [hq]; exact lineSettingsAt_bytes hduty
    refine ⟨fun j hx hne hj hlow => congrArg Host.Outcome.next ?_, fun hfree => congrArg Host.Outcome.next ?_⟩
    · rw [State.take_of_ready h, judgeLineSet_conflict (s := taken s) hi hnew hx (Auxiliary.otherMarker_of_lowest hne hj hlow),
        Reply.finish_of _ _ _ _ (by simp)]
      rfl
    · rw [State.take_of_ready h, judgeLineSet_of (s := taken s) hi hnew fun hx => Auxiliary.otherMarker_eq_none (hfree hx), Reply.finish_ok,
        AuxLine.set_eq]
      rfl

end Sys2Proof.Machine
end

section
/-! PROOFS. The requests of the status unit: O55 (R181, R183, R186, R190, R191). -/

namespace Sys2Proof.Machine

open Sys2Proof.Claims

variable {s : State} {q : Request}

/-! ### A request that writes the status unit (R163, R164) -/

/-- A request that is taken, writes the status unit and answers in one frame. -/
theorem next_take_status {name : RequestName} (h : Ready s name q) {judge : Request → State → Reply} {u : StatusUnit}
    {data : List Byte} (hj : judge q (taken s) = Reply.ok ((taken s).setStatus u) data) (hdata : data.length ≤ 246) :
    (.next (s.take name judge) : Host.Outcome State Fault Refusal) =
      .next { answered (taken s) q .ok data with status := u } := by
  rw [State.take_of_ready h, hj, Reply.ok, Reply.finish_of _ _ _ _ hdata]
  rfl

/-! ### The judgements (R183, R186) -/

theorem conditionMaskAt_of_lt {m : Count16} {l : List Byte} (hl : l = natBytes 2 m.toNat) (hm : m.toNat < 16384) :
    conditionMaskAt l = some (BitVec.ofNat 14 m.toNat) := by
  rw [conditionMaskAt, hl, natAt_natBytes m.isLt, if_pos hm]

theorem conditionMaskAt_of_le {m : Count16} {l : List Byte} (hl : l = natBytes 2 m.toNat) (hm : 16384 ≤ m.toNat) :
    conditionMaskAt l = none := by
  rw [conditionMaskAt, hl, natAt_natBytes m.isLt, if_neg (Nat.not_lt_of_le hm)]

theorem judgeConditionsClear_of {m : ConditionSet} (hm : conditionMaskAt q.params = some m) : judgeConditionsClear q s =
    Reply.ok (s.setStatus { s.status with conditions := s.status.conditions &&& ~~~m })
      (natBytes 2 (s.status.conditions &&& ~~~m).toNat) := by
  unfold judgeConditionsClear
  rw [hm]

theorem judgeConditionsClear_range (hm : conditionMaskAt q.params = none) :
    judgeConditionsClear q s = Reply.refuse s .range := by
  unfold judgeConditionsClear
  rw [hm]

/-- The group's counters are 0, the others as they stood (R186). -/
theorem State.clearGroup_eq (g : Nat) : s.clearGroup g = s.setStatus { s.status with
    counters := Vector.ofFn fun i => if i ∈ counterGroup g then 0 else s.status.counters[i] } := by
  simp only [State.clearGroup, List.contains_iff_mem]

theorem judgeCountersClear_of {g : Nat} (hg : natAt q.params 0 1 = g) (hlegal : g ≤ 6) :
    judgeCountersClear q s = Reply.ok (s.clearGroup g) (s.groupData g) := by
  unfold judgeCountersClear
  simp only [hg, groupOk, hlegal, decide_true, if_true]

theorem judgeCountersClear_range {g : Nat} (hg : natAt q.params 0 1 = g) (hillegal : 7 ≤ g) :
    judgeCountersClear q s = Reply.refuse s .range := by
  have hno : ¬g ≤ 6 := by omega
  unfold judgeCountersClear
  simp only [hg, groupOk, hno, decide_false, Bool.false_eq_true, if_false]

/-! ### The statement -/

/-- Settles O55: each row reads its mask or group, and writes the status unit with an answer from what stood, or refuses. -/
theorem statusRequests : Obligations.StatusRequests := by
  refine fun q s => ⟨fun m h hq => ⟨fun hm => ?_, fun hm => ?_⟩, fun g h hq => ?_, fun h => ?_⟩
  · exact next_take_status h (judgeConditionsClear_of (conditionMaskAt_of_lt hq hm)) (by simp [natBytes_length])
  · exact next_take_range h (judgeConditionsClear_range (conditionMaskAt_of_le hq hm))
  · have hg : natAt q.params 0 1 = g.toNat := by rw [hq]; exact natAt_single g
    refine ⟨fun hlegal => ?_, fun hillegal => next_take_range h (judgeCountersClear_range hg hillegal)⟩
    have hjudge := judgeCountersClear_of (s := taken s) hg hlegal
    rw [State.clearGroup_eq] at hjudge
    exact next_take_status h hjudge ((State.groupData_length_le _ _).trans (by decide))
  · have hanswer := next_take_status h (judge := judgeFaultRelease) rfl ((StatusUnit.captureData_length _).le.trans (by decide))
    rwa [captureData_eq] at hanswer

end Sys2Proof.Machine
end

section
/-! PROOFS. The marker input: O57 (R195, R196). -/

namespace Sys2Proof.Machine

open Sys2Proof.Claims

variable {s : State} {edge : Edge} {n : Nat}

/-! ### What an edge has to meet to be taken (R195, R196) -/

theorem Auxiliary.hasMarker_iff (a : Auxiliary) :
    a.hasMarker = true ↔ ∃ i : Fin 4, (a.lines[i]).settings.designation = .markerIn := by
  simp [Auxiliary.hasMarker, mem_allLines]

theorem EdgeSelection.takes_iff (x : EdgeSelection) (edge : Edge) :
    x.takes edge = true ↔ x = .both ∨ (x = .rising ∧ edge = .rising) ∨ (x = .falling ∧ edge = .falling) := by
  cases x <;> cases edge <;> decide

theorem State.running_iff : s.running = true ↔ s.phase = .running := beq_iff_eq

theorem State.markerSpaced_iff :
    s.markerSpaced = true ↔ ∀ a, s.aux.lastMarker = some a → a + 100000 ≤ s.tb.clock := by
  unfold State.markerSpaced
  cases s.aux.lastMarker with
  | none => simp
  | some t =>
    simp only [Option.some.injEq, forall_eq']
    exact decide_eq_true_iff

/-- The statement's conditions on an edge that is taken now (R196). -/
theorem State.takesMarker_iff : s.takesMarker edge = true ↔
    (∃ i : Fin 4, (s.aux.lines[i]).settings.designation = .markerIn) ∧
      (s.aux.selection = .both ∨ (s.aux.selection = .rising ∧ edge = .rising) ∨
        (s.aux.selection = .falling ∧ edge = .falling)) ∧
      s.phase = .running ∧ ∀ a, s.aux.lastMarker = some a → a + 100000 ≤ s.tb.clock := by
  simp only [State.takesMarker, Bool.and_eq_true, Auxiliary.hasMarker_iff, EdgeSelection.takes_iff, State.running_iff,
    State.markerSpaced_iff, and_assoc]

/-! ### The taken edge and its event record (R196) -/

/-- The position of a taken edge is kept. -/
def markerNoted (s : State) : State := { s with aux := { s.aux with lastMarker := some s.tb.clock } }

/-- The event record of an edge that falls now. -/
def markerEvent (s : State) (edge : Edge) : Body := .event ⟨s.tb.second, s.tb.period, edge, s.tb.quality⟩

/-- A taken edge is noted, and with EVENT in the output set its event record is offered. -/
theorem State.takeMarker_eq : s.takeMarker edge =
    if s.link.outputSet.getLsbD 2 = true then (markerNoted s).offerData (markerEvent s edge) else markerNoted s := rfl

theorem State.takeMarker_of_noEvent (h : s.link.outputSet.getLsbD 2 = false) : s.takeMarker edge = markerNoted s := by
  rw [State.takeMarker_eq, if_neg (Bool.eq_false_iff.mp h)]

theorem State.takeMarker_of_room (h : s.link.outputSet.getLsbD 2 = true) (hroom : s.link.output.length < 60) :
    s.takeMarker edge = admitted (markerNoted s) (markerEvent s edge) := by
  rw [State.takeMarker_eq, if_pos h, State.offerData_of_room (s := markerNoted s) hroom]
  rfl

theorem State.takeMarker_of_full (h : s.link.outputSet.getLsbD 2 = true) (hfull : 60 ≤ s.link.output.length) :
    s.takeMarker edge = conditionSet (counted (markerNoted s) .eventsLost) .recordLoss := by
  rw [State.takeMarker_eq, if_pos h, State.offerData_of_full (s := markerNoted s) hfull (by simp [markerEvent])]
  rfl

/-! ### The command of an edge (R196; log 24) -/

/-- Before the first mark, and before the due mark, an edge finds the state with the time passed. -/
theorem State.edgeMoment_inSecond (hon : s.phase ≠ .off) (hin : s.phase = .running → inSecond s n) :
    s.edgeMoment n = passed s n := by
  by_cases hr : s.phase = .running
  · exact State.edgeMoment_eq_passed hr (hin hr)
  · exact (State.edgeMoment_of_not_running hr).trans (State.elapse_eq_passed hon n)

theorem exec_markerEdge_taken {u : State} (hmoment : s.edgeMoment n = u) (h : u.takesMarker edge = true) :
    exec (.markerEdge edge n) s = .next (u.takeMarker edge) := by
  simp only [exec, execMarkerEdge, hmoment, h, if_true]

theorem exec_markerEdge_ignored {u : State} (hmoment : s.edgeMoment n = u) (h : ¬u.takesMarker edge = true)
    (hr : u.phase = .running) : exec (.markerEdge edge n) s = .next u := by
  simp only [exec, execMarkerEdge, hmoment, if_neg h, State.running_iff.mpr hr, if_true]

/-- Before the first mark an edge leaves nothing but its moment. -/
theorem exec_markerEdge_early {u : State} (hmoment : s.edgeMoment n = u) (hon : u.phase ≠ .off) (hr : u.phase ≠ .running) :
    exec (.markerEdge edge n) s = .next (u.setTb { u.tb with earlyEdge := some u.tb.clock }) := by
  have htakes : ¬u.takesMarker edge = true := fun h => by
    obtain ⟨_, _, hrunning, _⟩ := State.takesMarker_iff.mp h
    exact hr hrunning
  simp only [exec, execMarkerEdge, hmoment, if_neg htakes, if_neg (mt State.running_iff.mp hr), State.noteEarlyEdge_of_on hon]

/-- An edge at or after the due mark is the edge of the second that the mark begins. -/
theorem exec_markerEdge_late (hr : s.phase = .running) (hn : s.tb.length ≤ s.tb.period + n)
    (hlate : n - (s.tb.length - s.tb.period) < s.dueMark.tb.length) :
    exec (.markerEdge edge n) s = exec (.markerEdge edge (n - (s.tb.length - s.tb.period))) s.dueMark := by
  have hlt : s.dueMark.tb.period + (n - (s.tb.length - s.tb.period)) < s.dueMark.tb.length := by
    rw [State.dueMark_discipline.1]
    omega
  simp only [exec, execMarkerEdge, State.edgeMoment_of_le hr hn, State.edgeMoment_of_lt hlt]

/-- A step does not come first in a period that has taken a marker edge. -/
theorem timely_ppsEdge_of_markerNow (hstep : s.stepsNow = true) (h : s.aux.lastMarker = some s.tb.clock) :
    timely (.ppsEdge 0) s = false := by
  refine timely_of_not_markComesFirst ?_
  simp [markComesFirst, State.elapse_zero, hstep, h]

/-- Settles O57: an edge within the second by what it has to meet, a step by `timely`, a late edge by the mark before it. -/
theorem markerEdgeTaken : Obligations.MarkerEdgeTaken := by
  refine ⟨fun edge n s hon hin => ?_, fun s htakes hd he hlast => ?_, fun edge n s t hr hn hmark hlate => ?_⟩
  · intro u takes v event
    have hmoment : s.edgeMoment n = u := State.edgeMoment_inSecond hon hin
    have htakes : u.takesMarker edge = true ↔ takes := State.takesMarker_iff
    have hevent (h : takes) : markerEvent u edge = event := by
      obtain ⟨_, _, hr, _⟩ := h
      rw [markerEvent, passed_period hr]
      rfl
    refine ⟨fun h hr => exec_markerEdge_ignored hmoment (mt htakes.mp h) hr, fun hr => exec_markerEdge_early hmoment hon hr,
      fun h hset => ?_, fun h hset hroom => ?_, fun h hset hfull => ?_⟩
    · rw [exec_markerEdge_taken hmoment (htakes.mpr h), State.takeMarker_of_noEvent (s := u) hset]
      rfl
    · rw [exec_markerEdge_taken hmoment (htakes.mpr h), State.takeMarker_of_room (s := u) hset hroom, hevent h]
      rfl
    · rw [exec_markerEdge_taken hmoment (htakes.mpr h), State.takeMarker_of_full (s := u) hset hfull]
      rfl
  · exact timely_ppsEdge_of_markerNow (State.stepsNow_of htakes hd he) hlast
  · rw [exec_mark_dueMark hr] at hmark
    cases hmark
    exact ⟨exec_markerEdge_late hr hn hlate, State.dueMark_discipline.1⟩

end Sys2Proof.Machine
end

section
/-! PROOFS. The command restart at a mark of any kind: O9 (R15, R17, R19, R22, R40, R56, R94, R115, R138, R157, R180,
R198, R210). -/

namespace Sys2Proof.Machine

open Sys2Proof.Claims

variable {s : State}

/-! ### The output queue of a restart (R180) -/

/-- What discarding frames adds to the seconds-lost accumulator, as the statement sums it (R180). -/
theorem discardedSeconds_eq (l : List Frame) : discardedSeconds l = (l.map secondWeight).sum := by
  induction l with
  | nil => rfl
  | cons f rest ih =>
    obtain ⟨body, tied⟩ := f
    cases body <;> simp [discardedSeconds, secondWeight, SecondRecord.lossWeight_eq, ih]

/-- What discarding frames adds to the minutes-lost accumulator, as the statement sums it (R180). -/
theorem discardedMinutes_eq (l : List Frame) : discardedMinutes l = (l.map minuteWeight).sum := by
  induction l with
  | nil => rfl
  | cons f rest ih =>
    obtain ⟨body, tied⟩ := f
    cases body <;> simp [discardedMinutes, minuteWeight, ih]

/-- A restart keeps the frame being sent and the responses behind it (R180). -/
theorem Link.restart_output (l : Link) : l.restart.output = keptFrames l := by
  have hresponses : (fun f : Frame => !f.body.isData) = isResponse := by
    funext f
    rw [← not_isResponse_eq, Bool.not_not]
  exact congrArg (fun p => l.sendingPart ++ l.waitingPart.filter p) hresponses

/-- The output queue of a restart once its START notice has joined it (R180, R210). -/
theorem Link.restart_join_start (l : Link) (validity : Validity) (second : Num32) :
    l.restart.join (.notice (.start .commanded validity second)) = linkRestarted l validity second := by
  have hjoin : l.restart.join (.notice (.start .commanded validity second)) =
      { l.restart with output := l.restart.output ++ [⟨.notice (.start .commanded validity second), false⟩] } := rfl
  rw [hjoin, Link.restart_output]
  unfold Link.restart
  rw [discardedSeconds_eq, discardedMinutes_eq]
  rfl

/-- A link with one more notice at the young end of its output queue (R166). -/
def Link.withNotice (l : Link) (n : Notice) : Link := { l with output := l.output ++ [⟨.notice n, false⟩] }

/-- A notice behind other frames is discarded at a restart without a trace (R180). -/
theorem Link.restart_withNotice {l : Link} (h : l.output ≠ []) (n : Notice) : (l.withNotice n).restart = l.restart := by
  obtain ⟨f, fs, hout⟩ := List.exists_cons_of_ne_nil h
  have hsent : (l.withNotice n).sendingPart = l.sendingPart := by
    cases hsending : l.sending <;> simp [Link.withNotice, Link.sendingPart, hsending, hout]
  have hwaiting : (l.withNotice n).waitingPart = l.waitingPart ++ [⟨.notice n, false⟩] := by
    cases hsending : l.sending <;> simp [Link.withNotice, Link.waitingPart, hsending, hout]
  have hdata : (Body.notice n).isData = true := rfl
  unfold Link.restart
  rw [hsent, hwaiting]
  simp [Link.withNotice, hdata, discardedSeconds_eq, discardedMinutes_eq, secondWeight, minuteWeight]

/-- A notice that joins the queue before a restart is discarded by it, unless it is the only frame there is. -/
theorem keptFrames_withNotice_length (l : Link) (n : Notice) :
    (keptFrames (l.withNotice n)).length ≤ max 1 (keptFrames l).length := by
  by_cases h : l.output = []
  · cases hsending : l.sending <;> simp [keptFrames, Link.withNotice, hsending, h, isResponse]
  · rw [← Link.restart_output, Link.restart_withNotice h, Link.restart_output]
    exact Nat.le_max_right _ _

/-! ### The blocks of a restart (R22, R40, R56, R94, R115, R138, R157, R180, R198, R210) -/

/-- The device after a command restart, block by block, before the entry and tick 0 of its mark, for the link and the status unit
that the restart leaves: what `restartMade` writes. -/
def restartBlocks (s : State) (link : Link) (status : StatusUnit) : State :=
  { s with
    tb := { s.tb with rate := s.tb.rateSet, depth := s.tb.depthSet }
    portA := portRestarted s.portA
    portB := portRestarted s.portB
    asm :=
      { openSet := (youngest (s.tb.depthSet - 1) s.asm.issued).map fun id => ⟨id, Vector.replicate 16 .empty⟩
        closeQueue := []
        closing := none
        lastServed := .b
        issued := s.asm.issued }
    corr := Corrector.cleared
    screens := Vector.replicate 2 Screen.cleared
    dec := Decimator.cleared
    link := link
    status := status
    staging := s.staging.restart
    settings := { s.settings with resetCause := .commanded } }

/-- The device after a command restart whose START notice has joined the output queue. -/
def restarted (s : State) : State :=
  restartBlocks s (linkRestarted s.link s.settings.image.validity s.tb.second) s.status.restart

/-- A restart is its blocks, and then the START notice (R210). -/
theorem State.commandRestart_eq_offerNotice : s.commandRestart = (restartBlocks s s.link.restart s.status.restart).offerNotice
    (.start .commanded s.settings.image.validity s.tb.second) := rfl

/-- A restart whose START notice finds a place is the statement's (R210). -/
theorem State.commandRestart_eq (hroom : (keptFrames s.link).length < 60) : s.commandRestart = restarted s := by
  have hplaces : s.link.restart.output.length < 60 := Link.restart_output _ ▸ hroom
  rw [State.commandRestart_eq_offerNotice, State.offerNotice, State.offerData_of_room hplaces]
  exact congrArg (restartBlocks s · s.status.restart) (Link.restart_join_start _ _ _)

/-- A restart reads of the link and of the status unit only what it leaves of them. -/
theorem State.commandRestart_congr {l : Link} {u : StatusUnit} (hl : l.restart = s.link.restart)
    (hu : u.restart = s.status.restart) : ((s.setLink l).setStatus u).commandRestart = s.commandRestart := by
  rw [State.commandRestart_eq_offerNotice, State.commandRestart_eq_offerNotice, ← hl, ← hu]
  rfl

/-- A notice offered just before a restart leaves no trace, whether it joins the queue or is lost: the restart discards the queue,
and clears the counter and the condition that a loss advances (R167, R180, R198). -/
theorem State.commandRestart_offerNotice (n : Notice) :
    (s.offerNotice n).raiseLines.commandRestart = (admitted s (.notice n)).raiseLines.commandRestart := by
  by_cases hroom : s.link.output.length < 60
  · rw [State.offerNotice_eq hroom]
  · have hne : s.link.output ≠ [] := fun h => hroom (by rw [h]; decide)
    have hlost : s.offerNotice n = (s.count .noticesLost).setCondition .recordLoss :=
      State.offerData_of_full (Nat.le_of_not_lt hroom) nofun
    calc (s.offerNotice n).raiseLines.commandRestart
        = ((s.raiseLines.setLink s.link).setStatus (s.offerNotice n).status).commandRestart := by rw [hlost]; rfl
      _ = s.raiseLines.commandRestart := State.commandRestart_congr rfl (by rw [hlost]; rfl)
      _ = ((s.raiseLines.setLink (s.link.withNotice n)).setStatus s.status).commandRestart :=
        (State.commandRestart_congr (s := s.raiseLines) (Link.restart_withNotice hne n) rfl).symm

/-! ### The mark of a restart (R2, R14, R116, R193, R210) -/

/-- What a mark with a restart does after the timebase's part: the lines, the restart, the decimator's entry, tick index 0. -/
theorem State.markConsumers_of_restart (h : s.staging.restartScheduled = true) (byStep relabelled : Bool) :
    s.markConsumers byStep relabelled = (s.raiseLines.commandRestart.setDec (s.raiseLines.commandRestart.dec.addSecond
      (s.raiseLines.commandRestart.tb.secondEntry byStep relabelled false))).issueTick := by
  have hwork : s.raiseLines.scheduledWork = s.raiseLines.commandRestart := if_pos h
  simp [State.markConsumers, h, hwork]

/-- The restart leaves no trace of a HOLDOVER_LONG notice of its own mark. -/
theorem State.commandRestart_markTimebase (n : Num32) :
    (s.markTimebase n).raiseLines.commandRestart = (linesRaised (timed s n)).commandRestart := by
  simp only [State.markTimebase, timed, Timebase.mark_eq, Timebase.becomesLong_iff]
  split
  · exact State.commandRestart_offerNotice (s := (s.setTb (marked s.tb n)).setCondition .holdoverLong) _
  · rfl

/-- The timebase's part of a mark adds at most the one frame that a restart keeps: a notice that finds the queue empty. -/
theorem timed_keptFrames_length (n : Num32) : (keptFrames (timed s n).link).length ≤ max 1 (keptFrames s.link).length := by
  unfold timed
  simp only []
  split
  · exact keptFrames_withNotice_length _ _
  · exact Nat.le_max_right _ _

/-- The statement's restart by its blocks: the restart, the entry, tick index 0. -/
theorem restartMade_eq (n : Num32) (byStep relabelled : Bool) :
    restartMade s n byStep relabelled = tickIssued ((restarted (linesRaised (timed s n))).setDec
      (Decimator.cleared.addSecond (markEntry (timed s n).tb (flagsOf byStep relabelled false)))) := by
  unfold restartMade timed
  simp only []
  split <;> rfl

/-- A mark with a restart, its START notice admitted, is the statement's. -/
theorem State.makeMark_of_restart (h : s.staging.restartScheduled = true) (hroom : (keptFrames s.link).length < 60) (n : Num32)
    (byStep relabelled : Bool) : s.makeMark n byStep relabelled = restartMade s n byStep relabelled := by
  have hscheduled : (s.markTimebase n).staging.restartScheduled = true := by simpa using h
  have hkept := timed_keptFrames_length (s := s) n
  have hrestart := State.commandRestart_eq (s := linesRaised (timed s n)) (show (keptFrames (timed s n).link).length < 60 by omega)
  rw [State.makeMark, State.markConsumers_of_restart hscheduled, State.commandRestart_markTimebase, hrestart,
    State.issueTick_eq, Timebase.secondEntry_eq, restartMade_eq]
  rfl

/-- A restart leaves the frames it keeps, at most one more from its own mark, and the START notice (R180, R210). -/
theorem restartMade_output_length (n : Num32) (byStep relabelled : Bool) :
    (restartMade s n byStep relabelled).link.output.length ≤ max 1 (keptFrames s.link).length + 1 := by
  have hoffered : (restarted (linesRaised (timed s n))).link.output.length = (keptFrames (timed s n).link).length + 1 :=
    List.length_append
  have hkept := timed_keptFrames_length (s := s) n
  rw [restartMade_eq, tickIssued_link, State.setDec_link, hoffered]
  omega

/-- A restart leaves the discipline state (R22). -/
theorem restartMade_discipline (n : Num32) (byStep relabelled : Bool) :
    (restartMade s n byStep relabelled).tb.discipline = s.tb.discipline := by
  have hd : (timed s n).tb.discipline = s.tb.discipline := by
    rw [timed_tb]
    rfl
  rw [restartMade_eq, tickIssued, closeBegun_tb]
  exact hd

/-- A step with a restart, its notices admitted, is the statement's (R15, R17, R19, R210; log 13). -/
theorem stepEdge_of_restart {n : Nat} (h : s.staging.restartScheduled = true) (hroom : (keptFrames s.link).length + 2 < 60) :
    (edgeNoted s n).stepEdge (reportedError s n) s.tb.label =
      stepMade s n fun x number relabelled => restartMade x number true relabelled := by
  have hmade := State.makeMark_of_restart (s := edgeStepped s n) h (show (keptFrames s.link).length < 60 by omega)
    (s.tb.label.getD (s.tb.second + 1)) true (decide (s.tb.label.getD (s.tb.second + 1) ≠ s.tb.second + 1))
  have hlength := restartMade_output_length (s := edgeStepped s n) (s.tb.label.getD (s.tb.second + 1)) true
    (decide (s.tb.label.getD (s.tb.second + 1) ≠ s.tb.second + 1))
  have hplaces := show _ ≤ max 1 (keptFrames s.link).length + 1 from hlength
  refine (State.stepEdge_of_mark (x := edgeNoted s n) _ rfl (relabels_eq _ _) hmade (restartMade_discipline _ _ _) ?_).trans rfl
  refine lt_of_le_of_lt (Nat.add_le_add hplaces (show (if _ then 1 else 0) ≤ 1 by split <;> decide)) ?_
  omega

/-- Settles O9: the restart is part of `restartMade`, which a regular mark, a labelled mark and the mark of a step make. -/
theorem markCarriesOutTheRestart : Obligations.MarkCarriesOutTheRestart := by
  intro s hr hrestart room u
  have hmade (hroom : room 0) (number : Num32) (relabelled : Bool) :
      u.makeMark number false relabelled = restartMade u number false relabelled :=
    State.makeMark_of_restart (s := u) hrestart hroom _ _ _
  refine ⟨fun hlabel hroom => ?_, fun number e hlabel hroom => ?_, fun n htaken hin hd he hroom => ?_⟩
  · rw [exec_mark hr, State.regularMark_of_none (s := u) hlabel]
    exact congrArg Host.Outcome.next (hmade hroom _ _)
  · have hlength := restartMade_output_length (s := u) number false true
    have hkept : (keptFrames u.link).length + 1 < 60 := hroom
    rw [exec_mark hr, State.regularMark_of_label (s := u) hlabel, hmade (Nat.lt_of_succ_lt hroom),
      State.timebaseNotice_eq (by omega)]
    rfl
  · rw [exec_ppsEdge_taken htaken hin, takeEdge_step hr hd he, stepEdge_of_restart hrestart hroom]

end Sys2Proof.Machine
end

section
/-! PROOFS. Defaults, reset, power-on and power loss: O3, O4, O5 and O60 (R21, R39, R55, R74, R93, R114, R137, R156, R179, R197,
R199 to R201, R206, R207). -/

namespace Sys2Proof.Machine

open Sys2Proof.Claims

variable {s : State}

/-! ### The default settings (R74, R114, R156, R207) -/

/-- The descriptor of a channel in the default table (R74). -/
theorem Configuration.default_channels (n : Fin 16) :
    Configuration.default.channels[n] = ChannelDescriptor.default n := Vector.getElem_ofFn n.isLt

/-- The default second filter weighs its first place alone (R156). -/
theorem Filter.defaultSecond_places (i : Fin 127) : Filter.defaultSecond.places[i] = if i.val = 0 then 1 else 0 :=
  (Vector.getElem_ofFn i.isLt).trans (if_congr Nat.lt_one_iff rfl rfl)

/-- The default minute filter weighs places 0 to 60 (R156). -/
theorem Filter.defaultMinute_places (i : Fin 127) : Filter.defaultMinute.places[i] = if i.val ≤ 60 then 1 else 0 :=
  (Vector.getElem_ofFn i.isLt).trans (if_congr Nat.lt_succ_iff rfl rfl)

/-- Settles O3: the channel table and the filters' places one by one, the rest as it is written. -/
theorem defaultSettings : Obligations.DefaultSettings :=
  ⟨Configuration.default_channels, rfl, ⟨rfl, rfl, Filter.defaultSecond_places⟩,
    ⟨rfl, rfl, Filter.defaultMinute_places⟩, fun _ => rfl, ⟨rfl, rfl, rfl, rfl⟩, ⟨rfl, rfl⟩, rfl, rfl, rfl, rfl, rfl, rfl⟩

/-! ### The reset state (R207; log 6) -/

/-- A new device holds no image and runs no save, so nothing in its store can be out of bounds. -/
theorem SettingsStore.newDevice_within : SettingsStore.newDevice.Within where
  image _ h := nomatch show none = some _ from h
  save _ h := nomatch show none = some _ from h

theorem SettingsStore.newDevice_legal : SettingsStore.newDevice.Legal where
  image _ h := nomatch show none = some _ from h
  save _ h := nomatch show none = some _ from h

/-- A new device is OPEN and its FIXED flag clear (R201). -/
theorem SettingsStore.newDevice_levelLegal : SettingsStore.newDevice.LevelLegal :=
  ⟨nofun, nofun⟩

/-- Settles O60: the reset state is a device at its power-on values, with the default settings and a new device's store. -/
theorem resetIsBoundedAndLegal : Obligations.ResetIsBoundedAndLegal :=
  ⟨(bounded_iff_within _).mpr (Within.fresh _ rfl SettingsStore.newDevice_within _ _),
    (legal_iff_lawful _).mpr (Lawful.fresh Settings.default_legal SettingsStore.newDevice_legal
      (fun _ => SettingsStore.newDevice_levelLegal) _ _)⟩

/-! ### The settings load of power-on (R199, R200, R207) -/

/-- The blocks of a device at its power-on values hold the settings they were given (R199, R207). -/
theorem State.fresh_workingSettings (phase : Phase) (st : Settings) (x : SettingsStore) (holdIn : Bool)
    (pending : List Instr) : (State.fresh phase st x holdIn pending).workingSettings = st := by
  have hlines : (State.fresh phase st x holdIn pending).workingSettings.lines = st.lines := by
    ext i hi
    simp [State.workingSettings, State.fresh, Auxiliary.powerOn]
  exact congrArg (fun l => { st with lines := l }) hlines

/-- The status unit after a load: at its power-on values, but for STORE_INVALID when the check fails (R197, R207). -/
def StatusUnit.afterLoad (x : Image) : StatusUnit :=
  { StatusUnit.powerOn x.load with conditions := if x.check = .invalid then Condition.mask .storeInvalid else 0 }

/-- A power-on is a device at its power-on values with the settings loaded, and the status unit the load leaves (R207). -/
theorem State.powerOn_eq (s : State) :
    s.powerOn = (State.fresh .loaded s.settings.image.load s.settings.loaded s.link.holdIn s.pending).setStatus
      (StatusUnit.afterLoad s.settings.image) := by
  cases h : s.settings.image.check with
  | valid =>
    rw [State.powerOn_of_valid h, StatusUnit.afterLoad, h]
    rfl
  | invalid =>
    rw [State.powerOn_of_invalid h, StatusUnit.afterLoad, if_pos h, ← BitVec.zero_or (x := Condition.mask .storeInvalid)]
    rfl

/-- The working settings after a power-on are the ones its load takes (R207). -/
theorem State.powerOn_workingSettings (s : State) : s.powerOn.workingSettings = s.settings.image.load := by
  rw [State.powerOn_eq]
  exact State.fresh_workingSettings .loaded s.settings.image.load s.settings.loaded s.link.holdIn s.pending

theorem State.powerOn_settings (s : State) : s.powerOn.settings = s.settings.loaded := by
  rw [State.powerOn_eq]
  rfl

/-- An image that passes is loaded, VALID, with nothing unsaved and no condition (R200, R207). -/
theorem State.powerOn_of_crc {x : Settings} (h : s.settings.image.contents = some x)
    (hc : crc32 (Config.imageBytes x) = s.settings.image.crc) :
    s.powerOn.workingSettings = x ∧ s.powerOn.settings.image.validity = .valid ∧ s.powerOn.settings.unsaved = false ∧
      s.powerOn.status.conditions = 0 := by
  have hcheck := Image.check_of_crc h hc
  refine ⟨s.powerOn_workingSettings.trans (Image.load_of_crc h hc), ?_, ?_, ?_⟩
  · rw [State.powerOn_settings]
    exact hcheck
  · simp [State.powerOn_settings, SettingsStore.loaded, hcheck]
  · simp [State.powerOn_eq, StatusUnit.afterLoad, hcheck]

/-- Without an image that passes the defaults are loaded, INVALID, with the unsaved-changes flag and STORE_INVALID (R200, R207). -/
theorem State.powerOn_of_noImage
    (h : ∀ x, s.settings.image.contents = some x → crc32 (Config.imageBytes x) ≠ s.settings.image.crc) :
    s.powerOn.workingSettings = Settings.default ∧ s.powerOn.settings.image.validity = .invalid ∧
      s.powerOn.settings.unsaved = true ∧ s.powerOn.status.conditions = BitVec.ofNat 14 (2 ^ 11) := by
  have hcheck := Image.check_of_none h
  refine ⟨s.powerOn_workingSettings.trans (Image.load_of_none h), ?_, ?_, ?_⟩
  · rw [State.powerOn_settings]
    exact hcheck
  · simp [State.powerOn_settings, SettingsStore.loaded, hcheck]
  · simp [State.powerOn_eq, StatusUnit.afterLoad, hcheck, Condition.mask, Condition.index]

/-! ### The power-on values of the blocks (R21, R39, R55, R93, R114, R137, R179, R197) -/

/-- The first tick after a load is tick 0 (R4; log 18). -/
theorem Timebase.powerOn_firstTick (st : Settings) : (Timebase.powerOn st).tickCount + 1 = 0 :=
  show (0xFFFFFFFF : Num32) + 1 = 0 by decide

theorem SensorPort.powerOn_values (st : PortSettings) :
    let p := SensorPort.powerOn st
    p.framing = .hunt ∧ p.fifo = [] ∧ p.paceLatch = false ∧ p.mode = .disabled ∧ p.heldError = none ∧ p.paceLine = true :=
  ⟨rfl, rfl, rfl, rfl, rfl, rfl⟩

theorem StatusUnit.afterLoad_values (x : Image) :
    let u := StatusUnit.afterLoad x
    (∀ i : Fin 29, u.counters[i] = 0) ∧ u.capture = none ∧ ∀ i : Fin 5, u.faultCounts[i] = 0 :=
  ⟨fun i => Vector.getElem_replicate i.isLt, rfl, fun i => Vector.getElem_replicate i.isLt⟩

theorem Corrector.cleared_values (n : Fin 16) : Corrector.cleared.held[n] = none ∧ Corrector.cleared.lastGood[n] = none :=
  ⟨Vector.getElem_replicate n.isLt, Vector.getElem_replicate n.isLt⟩

theorem Decimator.cleared_triads (k : Fin 2) :
    Decimator.cleared.tickHistory[k] = [] ∧ Decimator.cleared.secondHistory[k] = [] :=
  ⟨Vector.getElem_replicate k.isLt, Vector.getElem_replicate k.isLt⟩

theorem Decimator.cleared_channels (n : Fin 16) :
    Decimator.cleared.tempHistory[n] = [] ∧ Decimator.cleared.captures[n] = none :=
  ⟨Vector.getElem_replicate n.isLt, Vector.getElem_replicate n.isLt⟩

theorem Link.powerOn_values (st : Settings) (holdIn : Bool) :
    let l := Link.powerOn st holdIn
    l.framing = .hunt ∧ l.late = none ∧ l.requests = [] ∧ l.heldSave = none ∧ l.output = [] ∧ l.sending = false ∧
      l.secondsLost = 0 ∧ l.minutesLost = 0 ∧ l.rate = l.confirmedRate ∧ l.rateState = .idle ∧ l.waitingRate = none :=
  ⟨rfl, rfl, rfl, rfl, rfl, rfl, rfl, rfl, rfl, rfl, rfl⟩

/-- Settles O4: the load by what the check finds, then the blocks one by one at their power-on values. -/
theorem powerOnLoadsImageOrDefaults : Obligations.PowerOnLoadsImageOrDefaults := by
  intro s
  refine ⟨s.powerOn, rfl, ?_, ?_, fun x => State.powerOn_of_crc, State.powerOn_of_noImage, ?_⟩
  all_goals rw [State.powerOn_eq]
  · rfl
  · rfl
  refine ⟨rfl, StatusUnit.afterLoad_values _, ?timebase, ?ports, ⟨rfl, rfl, rfl, rfl⟩, Corrector.cleared_values,
    fun k => Vector.getElem_replicate k.isLt, ?decimator, ⟨rfl, rfl, rfl, rfl⟩,
    Link.powerOn_values _ _, rfl, rfl⟩
  case timebase => exact ⟨rfl, rfl, rfl, rfl, rfl, rfl, rfl, rfl, Timebase.powerOn_firstTick _, rfl, rfl, rfl, rfl, rfl⟩
  case ports =>
    intro p
    cases p with
    | a => exact SensorPort.powerOn_values _
    | b => exact SensorPort.powerOn_values _
  case decimator => exact ⟨rfl, Decimator.cleared_triads, rfl, Decimator.cleared_channels, rfl, rfl, rfl⟩

/-! ### The loss of power (R206; log 9) -/

/-- The device without power: only the image and the identity area outlast it (R206; log 9). -/
def State.unpowered (s : State) : State :=
  State.fresh .off Settings.default s.settings.unpowered s.link.holdIn s.pending

theorem exec_powerLoss : exec .powerLoss s = .next s.unpowered := rfl

/-- The settings store after a loss of power and the POWER_ON that follows: a save that was running has not ended (R206). -/
theorem State.unpowered_powerOn_settings (s : State) : s.unpowered.powerOn.settings = s.settings.unpowered.loaded :=
  s.unpowered.powerOn_settings

/-- Settles O5: the loss keeps the image, and the POWER_ON after it judges that image. -/
theorem powerLossKeepsImageAndIdentity : Obligations.PowerLossKeepsImageAndIdentity := by
  intro s
  refine ⟨s.unpowered, exec_powerLoss, rfl, rfl, rfl, rfl, rfl, rfl, s.unpowered.powerOn, rfl, ?_⟩
  rw [State.unpowered_powerOn_settings]
  refine ⟨rfl, rfl, rfl, rfl, fun x hx hc => ?_, fun hnone => ?_⟩
  · obtain ⟨hworking, hvalid, -⟩ := State.powerOn_of_crc (s := s.unpowered) hx hc
    exact ⟨State.unpowered_powerOn_settings s ▸ hvalid, hworking⟩
  · have hfails : ∀ x, s.settings.image.contents = some x → crc32 (Config.imageBytes x) ≠ s.settings.image.crc :=
      fun x hx => by cases hnone.symm.trans hx
    obtain ⟨hworking, hinvalid, -⟩ := State.powerOn_of_noImage (s := s.unpowered) hfails
    exact ⟨State.unpowered_powerOn_settings s ▸ hinvalid, hworking⟩

end Sys2Proof.Machine
end

section
/-! PROOFS. The queue of commands: O1 and O2 (logs 1 and 2). -/

namespace Sys2Proof.Machine

/-! ### A step and the queue (log 1) -/

section Steps

variable {s : State}

theorem step_of_front {c : Instr} {rest : List Instr} (h : s.pending = c :: rest) :
    step s = exec c (s.setPending rest) := by rw [step, h]

theorem step_of_empty (h : s.pending = []) : step s = .next s := by rw [step, h]

end Steps

/-- Settles O1: a queue has a front command or is empty. -/
theorem stepRunsTheFrontCommand : Obligations.StepRunsTheFrontCommand :=
  ⟨fun _ _ _ h => step_of_front h, fun _ h => step_of_empty h⟩

/-! ### Outcomes with a next state and the queue as it was -/

/-- An outcome with a next state, whose queue is that of s. -/
def NextWithQueue (s : State) (o : Host.Outcome State Fault Refusal) : Prop := ∃ t, o = .next t ∧ t.pending = s.pending

section Commands

variable {s : State}

theorem nextWithQueue_of_eq {t : State} (h : t.pending = s.pending) : NextWithQueue s (.next t) := ⟨t, rfl, h⟩

/-- A command without its occasion (log 2). -/
theorem nextWithQueue_self : NextWithQueue s (.next s) := nextWithQueue_of_eq rfl

/-- A request row whose judgement leaves the queue: it answers and drops the request, or waits (R162, R163; log 4). -/
theorem nextWithQueue_take (name : RequestName) {judge : Request → State → Reply}
    (hj : ∀ q s, (judge q s).state.pending = s.pending) : NextWithQueue s (.next (s.take name judge)) :=
  nextWithQueue_of_eq (State.take_frame State.pending (by simp) (by simp) (by simp) s name judge hj)

/-- A request row whose judgement only reads. -/
theorem nextWithQueue_read (name : RequestName) {judge : Request → State → Reply} (hj : ∀ q s, (judge q s).state = s) :
    NextWithQueue s (.next (s.take name judge)) :=
  nextWithQueue_take name fun q s => congrArg State.pending (hj q s)

/-! ### Power and the timebase -/

theorem State.powerOn_pending (s : State) : s.powerOn.pending = s.pending := by
  rw [State.powerOn_eq]
  rfl

theorem execStartUpComplete_nextWithQueue (n : Nat) : NextWithQueue s (execStartUpComplete n s) := by
  unfold execStartUpComplete
  split
  · exact nextWithQueue_of_eq (by simp)
  · exact nextWithQueue_self

theorem execMark_nextWithQueue : NextWithQueue s (execMark s) := by
  unfold execMark
  split
  · exact nextWithQueue_of_eq s.dueMark_pending
  · exact nextWithQueue_self

theorem execTick_nextWithQueue : NextWithQueue s (execTick s) := by
  unfold execTick
  split
  · exact nextWithQueue_of_eq (by simp)
  · exact nextWithQueue_self

theorem execStrobeEnd_nextWithQueue : NextWithQueue s (execStrobeEnd s) := by
  unfold execStrobeEnd
  split
  · exact nextWithQueue_self
  · exact nextWithQueue_of_eq (by simp)

theorem execMissingMarkCheck_nextWithQueue : NextWithQueue s (execMissingMarkCheck s) := by
  unfold execMissingMarkCheck
  simp only []
  split
  · split <;> exact nextWithQueue_of_eq (by simp)
  · exact nextWithQueue_self

theorem execPpsEdge_nextWithQueue (n : Nat) : NextWithQueue s (execPpsEdge n s) := by
  unfold execPpsEdge
  simp only []
  split
  · split <;> exact nextWithQueue_of_eq (by simp)
  · exact nextWithQueue_of_eq (by simp)

/-! ### The sensor ports and the close -/

theorem execFrameAbandon_nextWithQueue (p : Port) : NextWithQueue s (execFrameAbandon p s) := by
  unfold execFrameAbandon
  split
  · exact nextWithQueue_self
  · split
    · exact nextWithQueue_self
    · simp only []
      split <;> exact nextWithQueue_of_eq (by simp)

theorem execEntryTake_nextWithQueue : NextWithQueue s (execEntryTake s) := by
  unfold execEntryTake
  split
  · exact nextWithQueue_of_eq (s.takeEntry_pending _)
  · exact nextWithQueue_self
  · exact nextWithQueue_self

theorem execTickClose_nextWithQueue (n : Nat) : NextWithQueue s (execTickClose n s) := by
  unfold execTickClose
  split
  · exact nextWithQueue_of_eq (by simp)
  · exact nextWithQueue_self
  · exact nextWithQueue_self

/-! ### The station link -/

theorem execUpstreamFramingError_nextWithQueue (n : Nat) : NextWithQueue s (execUpstreamFramingError n s) := by
  unfold execUpstreamFramingError
  simp only []
  split <;> exact nextWithQueue_of_eq (by simp)

theorem execUpstreamGapAbandon_nextWithQueue : NextWithQueue s (execUpstreamGapAbandon s) := by
  unfold execUpstreamGapAbandon
  split
  · exact nextWithQueue_of_eq (by simp)
  · exact nextWithQueue_self

theorem execRequestUnknownCode_nextWithQueue : NextWithQueue s (execRequestUnknownCode s) := by
  unfold execRequestUnknownCode
  split
  · exact nextWithQueue_self
  · split
    · exact nextWithQueue_of_eq (by simp)
    · exact nextWithQueue_self

theorem execFrameStart_nextWithQueue : NextWithQueue s (execFrameStart s) := by
  unfold execFrameStart
  split
  · exact nextWithQueue_of_eq (s.setLink_pending _)
  · exact nextWithQueue_self

theorem execFrameSent_nextWithQueue (n : Nat) : NextWithQueue s (execFrameSent n s) := by
  unfold execFrameSent
  split
  · split
    · exact nextWithQueue_self
    · exact nextWithQueue_of_eq (by simp)
  · exact nextWithQueue_self

theorem execHoldInChange_nextWithQueue (asserted : Bool) (n : Nat) : NextWithQueue s (execHoldInChange asserted n s) :=
  nextWithQueue_of_eq (s.elapse_pending n)

theorem execLinkTrialExpiry_nextWithQueue : NextWithQueue s (execLinkTrialExpiry s) := by
  unfold execLinkTrialExpiry
  split
  · exact nextWithQueue_of_eq (by simp)
  · exact nextWithQueue_self

/-! ### Saves, lines and the status unit -/

theorem execSaveEnd_nextWithQueue (verified : Bool) (n : Nat) : NextWithQueue s (execSaveEnd verified n s) := by
  unfold execSaveEnd
  split
  · exact nextWithQueue_self
  · cases verified <;> exact nextWithQueue_of_eq (by simp)

theorem execMarkerEdge_nextWithQueue (edge : Edge) (n : Nat) : NextWithQueue s (execMarkerEdge edge n s) := by
  unfold execMarkerEdge
  simp only []
  split
  · exact nextWithQueue_of_eq (by simp)
  · split <;> exact nextWithQueue_of_eq (by simp)

theorem execSecondMarkEnd_nextWithQueue : NextWithQueue s (execSecondMarkEnd s) := by
  unfold execSecondMarkEnd
  split
  · exact nextWithQueue_self
  · exact nextWithQueue_of_eq (by simp)

theorem execCode2IntervalEnd_nextWithQueue : NextWithQueue s (execCode2IntervalEnd s) := by
  unfold execCode2IntervalEnd
  split
  · exact nextWithQueue_self
  · exact nextWithQueue_of_eq (by simp)

/-! ### Every command -/

/-- Every command has a next state, with the queue as it was. -/
theorem exec_nextWithQueue (c : Instr) : NextWithQueue s (exec c s) := by
  cases c with
  | powerOn => exact nextWithQueue_of_eq s.powerOn_pending
  | powerLoss => exact nextWithQueue_of_eq rfl
  | startUpComplete n => exact execStartUpComplete_nextWithQueue n
  | mark => exact execMark_nextWithQueue
  | tick => exact execTick_nextWithQueue
  | strobeEnd => exact execStrobeEnd_nextWithQueue
  | missingMarkCheck => exact execMissingMarkCheck_nextWithQueue
  | ppsEdge n => exact execPpsEdge_nextWithQueue n
  | sampleFrameByte p b n | sampleFrameArrival p b n => exact nextWithQueue_of_eq (s.onPortByte_pending p b n)
  | frameAbandon p => exact execFrameAbandon_nextWithQueue p
  | entryTake => exact execEntryTake_nextWithQueue
  | tickClose n => exact execTickClose_nextWithQueue n
  | upstreamFrameByte b n | upstreamFrameArrival b n | upstreamLenReject b n =>
    exact nextWithQueue_of_eq (s.onLinkByte_pending b n)
  | upstreamFramingError n => exact execUpstreamFramingError_nextWithQueue n
  | upstreamGapAbandon => exact execUpstreamGapAbandon_nextWithQueue
  | requestUnknownCode => exact execRequestUnknownCode_nextWithQueue
  | frameStart => exact execFrameStart_nextWithQueue
  | frameSent n => exact execFrameSent_nextWithQueue n
  | holdInChange asserted n => exact execHoldInChange_nextWithQueue asserted n
  | linkTrialExpiry => exact execLinkTrialExpiry_nextWithQueue
  | saveEnd verified n => exact execSaveEnd_nextWithQueue verified n
  | markerEdge edge n => exact execMarkerEdge_nextWithQueue edge n
  | secondMarkEnd => exact execSecondMarkEnd_nextWithQueue
  | code2IntervalEnd => exact execCode2IntervalEnd_nextWithQueue
  | ident => exact nextWithQueue_read _ judgeIdent_state
  | status => exact nextWithQueue_read _ judgeStatus_state
  | channelGet => exact nextWithQueue_read _ judgeChannelGet_state
  | triadGet => exact nextWithQueue_read _ judgeTriadGet_state
  | filterGet => exact nextWithQueue_read _ judgeFilterGet_state
  | storeRead => exact nextWithQueue_read _ judgeStoreRead_state
  | countersRead => exact nextWithQueue_read _ judgeCountersRead_state
  | faultRead => exact nextWithQueue_read _ judgeFaultRead_state
  | outputSet => exact nextWithQueue_take _ judgeOutputSet_pending
  | linkRate => exact nextWithQueue_take _ judgeLinkRate_pending
  | timeLabel => exact nextWithQueue_take _ judgeTimeLabel_pending
  | timebaseSet => exact nextWithQueue_take _ judgeTimebaseSet_pending
  | portReset => exact nextWithQueue_take _ judgePortReset_pending
  | portEnable => exact nextWithQueue_take _ judgePortEnable_pending
  | portSet => exact nextWithQueue_take _ judgePortSet_pending
  | channelSet => exact nextWithQueue_take _ judgeChannelSet_pending
  | triadSet => exact nextWithQueue_take _ judgeTriadSet_pending
  | filterShape => exact nextWithQueue_take _ judgeFilterShape_pending
  | filterTaps => exact nextWithQueue_take _ judgeFilterTaps_pending
  | discard => exact nextWithQueue_take _ judgeDiscard_pending
  | commit => exact nextWithQueue_take _ judgeCommit_pending
  | storeWrite => exact nextWithQueue_take _ judgeStoreWrite_pending
  | storePoison => exact nextWithQueue_take _ judgeStorePoison_pending
  | conditionsClear => exact nextWithQueue_take _ judgeConditionsClear_pending
  | countersClear => exact nextWithQueue_take _ judgeCountersClear_pending
  | faultRelease => exact nextWithQueue_take _ judgeFaultRelease_pending
  | alertMaskSet => exact nextWithQueue_take _ judgeAlertMaskSet_pending
  | captureMaskSet => exact nextWithQueue_take _ judgeCaptureMaskSet_pending
  | lineSet => exact nextWithQueue_take _ judgeLineSet_pending
  | markerSet => exact nextWithQueue_take _ judgeMarkerSet_pending
  | save => exact nextWithQueue_take _ judgeSave_pending
  | restart => exact nextWithQueue_take _ judgeRestart_pending
  | lockSession => exact nextWithQueue_take _ judgeLockSession_pending
  | fixPermanent => exact nextWithQueue_take _ judgeFixPermanent_pending

end Commands

/-- Settles O2: each command keeps the queue on each of its paths, a command without its occasion by keeping the whole state. -/
theorem everyCommandAnswersNext : Obligations.EveryCommandAnswersNext := fun c s => exec_nextWithQueue (s := s) c

end Sys2Proof.Machine
end
